-- ==== Sys2Proof/Word.lean ====
section
/-! DEFINITION. The words and the small fixed-size collections the whole model is built on: bytes of a
record, readings of the 32-bit tick counter, the three crossing lines, the four bridges or channels
and the two links (spec/00_scope.md 0.3, 0.4.2, 0.4.6). -/

namespace Sys2Proof

/-- One byte of a record on a link (R178). -/
abbrev Byte := BitVec 8

/-- A reading of the 32-bit tick counter (R3). -/
abbrev Tick := BitVec 32

/-- The number of a bridge, a channel or a stack, 0 to 3 (0.4.6). -/
abbrev Index := Fin 4

/-- The four indices in their order. -/
def Index.all : List Index := [0, 1, 2, 3]

/-- One item for each of the four bridges or channels. -/
structure Four (α : Type) where
  at0 : α
  at1 : α
  at2 : α
  at3 : α
  deriving DecidableEq, Repr

/-- The item of one bridge or channel. -/
def Four.get {α : Type} (q : Four α) (i : Index) : α :=
  match i with
  | 0 => q.at0
  | 1 => q.at1
  | 2 => q.at2
  | 3 => q.at3

/-- The four items with the one of `i` replaced. -/
def Four.set {α : Type} (q : Four α) (i : Index) (x : α) : Four α :=
  match i with
  | 0 => { q with at0 := x }
  | 1 => { q with at1 := x }
  | 2 => { q with at2 := x }
  | 3 => { q with at3 := x }

/-- The same item four times. -/
def Four.fill {α : Type} (x : α) : Four α := ⟨x, x, x, x⟩

/-- The item computed from each index. -/
def Four.tabulate {α : Type} (f : Index → α) : Four α := ⟨f 0, f 1, f 2, f 3⟩

/-- Every item changed alike. -/
def Four.map {α β : Type} (f : α → β) (q : Four α) : Four β :=
  ⟨f q.at0, f q.at1, f q.at2, f q.at3⟩

/-- The items in the order of their indices. -/
def Four.toList {α : Type} (q : Four α) : List α := [q.at0, q.at1, q.at2, q.at3]

/-- A crossing comparator line and the line pair it watches: XAB, XBC, XCA (Table 0-2). -/
inductive Line where
  | ab
  | bc
  | ca
  deriving DecidableEq, Repr

/-- One item for each line pair. -/
structure Three (α : Type) where
  ab : α
  bc : α
  ca : α
  deriving DecidableEq, Repr

/-- The item of one line pair. -/
def Three.get {α : Type} (q : Three α) (l : Line) : α :=
  match l with
  | .ab => q.ab
  | .bc => q.bc
  | .ca => q.ca

/-- The three items with the one of `l` replaced. -/
def Three.set {α : Type} (q : Three α) (l : Line) (x : α) : Three α :=
  match l with
  | .ab => { q with ab := x }
  | .bc => { q with bc := x }
  | .ca => { q with ca := x }

/-- The same item three times. -/
def Three.fill {α : Type} (x : α) : Three α := ⟨x, x, x⟩

/-- Every item changed alike. -/
def Three.map {α β : Type} (f : α → β) (q : Three α) : Three β := ⟨f q.ab, f q.bc, f q.ca⟩

/-- The items in the order AB, BC, CA. -/
def Three.toList {α : Type} (q : Three α) : List α := [q.ab, q.bc, q.ca]

/-- The two serial links, P to the plant controller and S to the service terminal (chapter 9). -/
inductive Link where
  | p
  | s
  deriving DecidableEq, Repr

/-- One item for each link. -/
structure Both (α : Type) where
  p : α
  s : α
  deriving DecidableEq, Repr

/-- The item of one link. -/
def Both.get {α : Type} (q : Both α) (l : Link) : α :=
  match l with
  | .p => q.p
  | .s => q.s

/-- The two items with the one of `l` replaced. -/
def Both.set {α : Type} (q : Both α) (l : Link) (x : α) : Both α :=
  match l with
  | .p => { q with p := x }
  | .s => { q with s := x }

/-- The same item for both links. -/
def Both.fill {α : Type} (x : α) : Both α := ⟨x, x⟩

/-- Both items changed alike. -/
def Both.map {α β : Type} (f : α → β) (q : Both α) : Both β := ⟨f q.p, f q.s⟩

end Sys2Proof
end

