-- ==== Sys2Proof/Syntax.lean ====
section
/-! DEFINITION. The commands of the block: one constructor of `Instr` for each row of
spec/opcode_table.json, with the operands the environment gives it. The part is a block: a command is
an event of one of its inputs, a record received on a link, or an event of its own time base.

Three kinds of operand recur. `wait` is how many ticks pass from the command before to this one. A
`Schedule` picks the order of what the manual lets happen in either order at one event. A `Request`
is a received record. Rows that the part takes at a tick fixed by its own state (a scan, a pulse
expiry, a due angle) carry no `wait`: time runs to that tick (notes/assumptions/1.md). `fell` is the
tick at which a receive line went to space, for no row of the table is that fall itself
(notes/assumptions/12.md). -/

namespace Sys2Proof

/-- The order in which one event's parts are taken, where the manual says that they are taken in either
order (R4, R6, R99, R144, R159, R175, R185). Each number counts through the possible orders, so every
order is that of some schedule, and 0 is the order the manual lists them in. -/
structure Schedule where
  /-- the order of the event's parts: the readers of a scan, with the place of its snapshot among their
  steps and the order of the triggers raised before it; the blocks at a millisecond tick; the bridges and
  the synchroniser at a turn boundary or a step -/
  shares : Nat
  /-- the order in which the recorder takes the triggers of one event that no snapshot has placed; a TRIP
  is taken at its own event, before what is raised after it -/
  triggers : Nat
  /-- the order in which the link unit takes the events that different blocks raise at one event -/
  notices : Nat
  deriving DecidableEq, Repr

/-- Every part in the order the manual lists it in; the schedule of an event that has one part. -/
def Schedule.listed : Schedule := ⟨0, 0, 0⟩

/-- The analog inputs as sampled, each in thousandths of its quantity's unit (V, A, dV; Table 1-1).
They are the samples of the moment the previous scan completed (R4). -/
structure Samples where
  u : Three Int
  i : Four Int
  e : Four Int
  deriving DecidableEq, Repr

/-- The input lines as they stand at the release of a reset: the RATE strap (high selects
1,000,000 bit/s), the comparator levels, BKRCL, and whether each receive line stands at space. -/
structure Pins where
  rateHigh : Bool
  crossing : Three Bool
  bkrcl : Bool
  rxSpace : Both Bool
  deriving DecidableEq, Repr

/-- A receive line that went to space at a start bit, at the tick `fell`, and is back at mark `wait`
ticks after the command before (R181, notes/assumptions/12.md). -/
structure LineSpace where
  fell : Tick
  wait : Nat
  deriving DecidableEq, Repr

/-- A record received on a link with a good check, `wait` ticks after the command before: its link,
tag and payload, and the order in which its event's parts are taken (R178, R183). -/
structure Request where
  link : Link
  tag : Byte
  payload : List Byte
  wait : Nat
  order : Schedule
  deriving DecidableEq, Repr

/-- The commands, in the order of the table. -/
inductive Instr where
  /-- POWER_ON_RESET (R3): Power-on reset restarts the tick counter at 0 and sets every block's state and every setting to its reset value, and discards any recorder record. -/
  | powerOnReset (pins : Pins)
  /-- RESET_LINE_ASSERT (R174): RSTN going low puts the part in reset: gate and BKRTRIP outputs go low, time stands still, and a FROZEN record is kept with its survived-reset flag set. -/
  | resetLineAssert (wait : Nat)
  /-- RESET_LINE_RELEASE (R3): Release of RSTN restarts the counter at 0, samples the RATE strap and line levels, and starts every block from its reset state. -/
  | resetLineRelease (pins : Pins)
  /-- SCAN (R4): Every 800 ticks the scanner replaces the eleven input values and the derived values, and the scan readers act on them. -/
  | scan (samples : Samples) (o : Schedule)
  /-- MILLISECOND_TICK (R5): At each multiple of 10,000 elapsed ticks the millisecond-counting blocks advance their counts, ramps, caps and courses. -/
  | millisecondTick (o : Schedule)
  /-- CROSSING_EDGE (R14): A comparator edge on XAB, XBC or XCA is checked against the chatter guard and, if accepted, becomes a crossing arrival. -/
  | crossingEdge (line : Line) (rising : Bool) (wait : Nat) (o : Schedule)
  /-- LAST_EDGE_EXPIRY (R14): A line with no accepted edge for 2^31 ticks makes its last accepted edge absent. -/
  | lastEdgeExpiry (line : Line)
  /-- SYNC_LOCK (R28): The good count reaching LOCK_COUNT makes the synchroniser LOCKED and makes the next window current. -/
  | syncLock (line : Line) (rising : Bool) (wait : Nat) (o : Schedule)
  /-- ANCHOR_GIVE_UP (R27): In ACQUIRING, no arrival for 2^31 ticks after the previous one makes the synchroniser unanchored again. -/
  | anchorGiveUp
  /-- WINDOW_OPEN (R30): The tracked phase reaching a WAITING window's opening angle makes the window OPEN. -/
  | windowOpen
  /-- WINDOW_CLOSE (R31): The tracked phase reaching the window's closing angle ends the window, counting a miss if it was unconsumed. -/
  | windowClose (o : Schedule)
  /-- COAST_ENTRY (R35): A miss that brings the bad count to LOSS_COUNT freezes the anchor and period and enters COAST. -/
  | coastEntry (o : Schedule)
  /-- RE_ANCHOR (R37): The consistency count reaching REANCHOR_COUNT records the phase step, re-anchors the phase and returns to LOCKED. -/
  | reAnchor (line : Line) (rising : Bool) (wait : Nat) (o : Schedule)
  /-- TURN_BOUNDARY (R24): The tracked phase passing 0 by running raises a turn boundary for the coast count, retard counts and STEP holds. -/
  | turnBoundary (o : Schedule)
  /-- COAST_LIMIT_LOST (R38): The coast turn count reaching COAST_LIMIT makes the synchroniser LOST and withdraws the phase. -/
  | coastLimitLost (o : Schedule)
  /-- RETARD_TIMEOUT (R87): A retard turn count reaching RETARD_LIMIT raises RETARD_TIMEOUT to the trip unit. -/
  | retardTimeout (o : Schedule)
  /-- FIRING (R78): The tracked phase reaching a bridge's due angle drives the double gate pulse, runs the regulator and schedules the next thyristor. -/
  | firing (b : Index) (o : Schedule)
  /-- PULSE_EXPIRY (R77): At its expiry tick a bridge's gate pulse ends and both gate lines go low. -/
  | pulseExpiry (b : Index)
  /-- EPISODE_LONG (R56): The elapsed time reaching EPISODE_MAX makes the episode LONG with outcome SUSTAINED. -/
  | episodeLong (o : Schedule)
  /-- EPISODE_END (R59): The recovery timer reaching RECOVER_TIME returns the monitor to NORMAL and raises the EPISODE end event. -/
  | episodeEnd (scan : Option Samples) (o : Schedule)
  /-- FREQUENCY (R64): The frequency-excursion timer reaching F_DELAY raises FREQUENCY once per excursion. -/
  | frequency (o : Schedule)
  /-- HOLD_END (R127): The remaining hold reaching 0 ends HOLD and enters WAIT or completes the step. -/
  | holdEnd (c : Index) (o : Schedule)
  /-- LOW_LOAD_PARK (R140): The low-load timer reaching T_LOWLOAD parks the channel in STANDBY and stops its bridge. -/
  | lowLoadPark (c : Index) (o : Schedule)
  /-- CELL_OVERVOLTAGE (R139): A second consecutive scan with v_cell above VCELL_TRIP raises CELL_OVERVOLTAGE. -/
  | cellOvervoltage (c : Index) (samples : Samples) (o : Schedule)
  /-- OVERCURRENT (R148): A second consecutive scan with a bridge current above I_TRIP raises OVERCURRENT. -/
  | overcurrent (b : Index) (samples : Samples) (o : Schedule)
  /-- EXTERNAL (R149): EXTTRIP seen high after being low, or high after reset release, raises EXTERNAL. -/
  | external (wait : Nat) (o : Schedule)
  /-- EXTTRIP_LOW (R149): EXTTRIP seen low updates the external input level and re-arms the EXTERNAL cause. -/
  | exttripLow (wait : Nat)
  /-- BREAKER_OPEN (R93): BKRCL deasserting blocks every DEBLOCKING, RUNNING, HELD or RETARDING bridge with cause BREAKER. -/
  | breakerOpen (wait : Nat) (o : Schedule)
  /-- BREAKER_CLOSE (R93): BKRCL asserting changes no bridge and permits later DEBLOCKs. -/
  | breakerClose (wait : Nat)
  /-- SNAPSHOT (R163): The decimation counter reaching REC_DECIM takes a snapshot into the ring or record. -/
  | snapshot (samples : Samples) (o : Schedule)
  /-- CAPTURE_COMPLETE (R167): The record reaching its planned length freezes it and raises a RECORD event. -/
  | captureComplete (samples : Samples) (o : Schedule)
  /-- GAP_TIMEOUT (R179): A candidate record with no byte for 10,000 ticks is discarded and the held bytes are searched again. -/
  | gapTimeout (l : Link) (o : Schedule)
  /-- FRAMING_FAULT (R181): A stop bit at space with the line back at mark within 20 bit times drops the byte and discards the candidate. -/
  | framingFault (l : Link) (space : LineSpace) (o : Schedule)
  /-- BREAK_DETECTED (R182): The receive line held at space for 20 bit times detects a break, empties the link's queues and sets BREAK. -/
  | breakDetected (l : Link) (fell : Tick)
  /-- BREAK_END (R181): The line returning to mark after a break returns the receiver to HUNTING. -/
  | breakEnd (l : Link) (wait : Nat)
  /-- TRANSMIT_START (R186): An idle transmitter takes the oldest reply, else the oldest notice, from its queues and begins sending it. -/
  | transmitStart (l : Link)
  /-- TRANSMIT_END (R186): The last byte of a record is sent and the transmitter becomes idle. -/
  | transmitEnd (l : Link)
  /-- UNKNOWN_KIND (R183): A received record of a kind that is not a request kind is taken and answered with REFUSED_KIND. -/
  | unknownKind (kind : Byte) (r : Request)
  /-- READ_STATUS (R207): Request reporting the synchroniser, bridges, regulators, channels, monitor, trip unit and link state. -/
  | readStatus (r : Request)
  /-- READ_MEASURE (R13): Request reporting the latest scan's values, derived values and crossing counts. -/
  | readMeasure (r : Request)
  /-- GET_SETTING (R199): Request reporting the value in force of one setting. -/
  | getSetting (r : Request)
  /-- READ_ENVELOPE (R49): Request reporting the points of the named envelope table. -/
  | readEnvelope (r : Request)
  /-- READ_COURSE (R145): Request reporting one channel's record, queue and caps. -/
  | readCourse (r : Request)
  /-- READ_RECORD_HEADER (R170): Request reporting the recorder state, record header and length so far. -/
  | readRecordHeader (r : Request)
  /-- READ_RECORD (R171): Request returning up to seven snapshots of a FROZEN record. -/
  | readRecord (r : Request)
  /-- CLEAR_EVENTS (R187): Request clearing the named flags of the requesting link's event summary. -/
  | clearEvents (r : Request)
  /-- SET_NOTICE_MASK (R187): Request replacing the requesting link's notice mask. -/
  | setNoticeMask (r : Request)
  /-- PING (R193): Request answered with OK alone, used to test the link and feed the watchdog. -/
  | ping (r : Request)
  /-- SET_SETTING (R200): Commanding request that writes one setting after range, class and cross-setting checks. -/
  | setSetting (r : Request)
  /-- LOAD_ENVELOPE (R49): Commanding request that replaces the LOW or HIGH envelope table while the monitor is NORMAL. -/
  | loadEnvelope (r : Request)
  /-- DEBLOCK (R81): Commanding request that moves each named, permitted BLOCKED bridge to DEBLOCKING. -/
  | deblock (r : Request)
  /-- STOP (R85): Commanding request that retards RUNNING bridges and blocks DEBLOCKING or HELD bridges. -/
  | stop (r : Request)
  /-- APPEND_STEP (R123): Commanding request that appends one course step to a channel's queue. -/
  | appendStep (r : Request)
  /-- FLUSH (R132): Commanding request that empties the named channels' queues and makes them IDLE. -/
  | flush (r : Request)
  /-- PAUSE (R133): Commanding request that moves named ACTIVE channels to PAUSING. -/
  | pause (r : Request)
  /-- RESUME (R134): Commanding request that returns named PAUSING or PAUSED channels to ACTIVE. -/
  | resume (r : Request)
  /-- RELEASE_STEP (R128): Commanding request that completes a head waiting on a RELEASE wait. -/
  | releaseStep (r : Request)
  /-- WAKE (R141): Commanding request that returns a STANDBY channel to IDLE. -/
  | wake (r : Request)
  /-- TRIP_CLEAR (R155): Commanding request that clears a latched trip unless EXTTRIP, cell overvoltage or an episode holds it back. -/
  | tripClear (r : Request)
  /-- SYNC_RESTART (R43): Commanding request that restarts the synchroniser in ACQUIRING while every bridge is BLOCKED or LOCKOUT. -/
  | syncRestart (r : Request)
  /-- RECORD_TRIGGER (R169): Commanding request that acts as a recorder trigger when that source is enabled. -/
  | recordTrigger (r : Request)
  /-- RECORD_RELEASE (R172): Commanding request that discards a FROZEN record and re-arms the recorder. -/
  | recordRelease (r : Request)
  /-- SEIZE (R188): Request from link S that takes control authority. -/
  | seize (r : Request)
  /-- YIELD (R188): Request from link S that returns control authority to P. -/
  | yield (r : Request)
  /-- WATCHDOG_EXPIRY (R191): The watchdog count reaching AUTH_TIMEOUT returns authority to P, or with P holding raises a supervision loss. -/
  | watchdogExpiry (o : Schedule)
  /-- BYTE_ARRIVAL (R179): A byte arrives on a link's receive line at its stop bit and is dropped, held as a candidate's sync or further byte, or ends a candidate by a length or check failure. -/
  | byteArrival (l : Link) (byte : Byte) (wait : Nat) (o : Schedule)
  /-- RECORD_ABANDON (R182): After a break, the transmitter finishes the byte it was sending, abandons the rest of the record and becomes idle. -/
  | recordAbandon (l : Link)
  deriving DecidableEq, Repr

end Sys2Proof
end

