-- ==== Sys2Proof/Decode.lean ====
section
/-! DEFINITION. The commands that a word spells. The table gives no row any bits: a command is an event of
the block's inputs or of its time base, and no word spells one. -/

namespace Sys2Proof

/-- The command that the word `w` of `nbits` bits spells by the table's bits. No row of the table gives
bits, so no word spells a command. -/
def decodeTableWord (_nbits _w : Nat) : Option Instr := none

end Sys2Proof
end

