-- ==== Sys2Proof/Config.lean ====
section
/-! DEFINITION. The numbers the manual fixes once and for all: the spacing of the periodic events, the
ranges of the inputs, the limits of the counts and the sizes of the queues. None of them is a choice
of the model; each docstring names the rule that states it. The manual leaves no value open, so no
free value stands here: the orders it leaves open are operands of the commands (Syntax.lean). -/

namespace Sys2Proof.Config

/-- Ticks from one scan to the next (R4). -/
def scanTicks : Nat := 800
/-- Ticks from one millisecond tick to the next (R5). -/
def millisecondTicks : Nat := 10000
/-- The longest interval the part measures, in ticks (R3, R14, R27). -/
def longestInterval : Nat := 2147483648
/-- Ticks in a microsecond (0.4.2). -/
def ticksPerMicrosecond : Nat := 10
/-- End of the range of a line voltage, in V (Table 1-1). -/
def lineVoltageMax : Int := 6000
/-- Low end of the range of a bridge current, in A (Table 1-1). -/
def currentMin : Int := -2000
/-- High end of the range of a bridge current, in A (Table 1-1). -/
def currentMax : Int := 48000
/-- High end of the range of a stack voltage, in dV (Table 1-1). -/
def stackVoltageMax : Int := 150000
/-- Squares in an RMS window (R9). -/
def rmsWindow : Nat := 125
/-- Highest grid level (R10). -/
def gridLevelMax : Nat := 1999
/-- A 16-bit event count stops here (R14, R17, R33, R41, R180). -/
def countMax : Nat := 65535
/-- Lowest tracked period, 66 Hz (R22). -/
def periodMin : Nat := 151515
/-- Highest tracked period, 44 Hz (R22). -/
def periodMax : Nat := 227273
/-- Ages of recent episodes stop here, in ms (R62). -/
def ageMax : Nat := 600000
/-- The hold request turns off this far above HOLD_LEVEL (R70). -/
def holdHysteresis : Nat := 50
/-- Below this ideal DC voltage, in mV, the line counts as collapsed (R110). -/
def collapsedVoltage : Nat := 10000
/-- Steps of the quantised cosine from 0 to 1 (R110). -/
def cosineSteps : Nat := 16384
/-- A course queue holds at most this many steps (R123). -/
def courseQueueMax : Nat := 16
/-- The fold cap holds between VCELL_FOLD less this and VCELL_FOLD, in mV (R137). -/
def foldHysteresis : Int := 20
/-- Snapshots of a full record (R161). -/
def recordMax : Nat := 4096
/-- The missed-trigger count stops here (R168). -/
def missedMax : Nat := 255
/-- Most snapshots one READ_RECORD returns (R171). -/
def readRecordMax : Nat := 7
/-- The sync byte of a record (R178). -/
def syncByte : Nat := 165
/-- Lowest length byte of a record (R178). -/
def lengthMin : Nat := 2
/-- Highest length byte of a record (R178). -/
def lengthMax : Nat := 250
/-- Longest payload of a record (R178). -/
def payloadMax : Nat := 248
/-- A candidate with no byte for this many ticks is discarded one tick later (R179). -/
def gapTicks : Nat := 10000
/-- A reply queue holds at most this many replies (R184). -/
def replyQueueMax : Nat := 4
/-- A notice queue holds at most this many notices (R184). -/
def noticeQueueMax : Nat := 8

end Sys2Proof.Config
end

