-- ==== Sys2Proof/Machine/Arith.lean ====
section
/-! DEFINITION. The arithmetic of the manual's conventions: rounding (R2), angles (R1, 0.4.3), the root
of a mean square (R9), and the cosine and arccos of the regulator (R110, R111, R114). Every value is
an exact integer computation; the cosine is held with one hundred binary places, far beyond any
rounding the manual asks for (notes/assumptions/2.md). -/

namespace Sys2Proof.Machine

/-- The quotient rounded to the nearest integer, halves up; of non-negative values (R2). -/
def roundNat (n d : Nat) : Nat := (2 * n + d) / (2 * d)

/-- The quotient rounded to the nearest integer, halves away from zero (R2). -/
def roundInt (n : Int) (d : Nat) : Int :=
  if n < 0 then -((roundNat n.natAbs d : Nat) : Int) else ((roundNat n.natAbs d : Nat) : Int)

/-- Clamp(x, lo, hi): x limited to the closed range (0.4.5). -/
def clampInt (x lo hi : Int) : Int := min (max x lo) hi

/-- Clamp of non-negative values (0.4.5). -/
def clampNat (x lo hi : Nat) : Nat := min (max x lo) hi

/-- A count that increases by 1 and stops at its limit. -/
def countUp (n limit : Nat) : Nat := min (n + 1) limit

/-- A full turn in cd (R1). -/
def fullTurn : Nat := 36000

/-- An angle brought into 0..35,999 (R1). -/
def wrapAngle (x : Int) : Nat := (x % (fullTurn : Int)).toNat

/-- The signed angle difference signed(x − y), in −17,999..+18,000 (R1). -/
def signedAngle (x y : Nat) : Int :=
  let d : Int := ((x : Int) - (y : Int)) % (fullTurn : Int)
  if d > 18000 then d - (fullTurn : Int) else d

/-- The distance run forward from angle x to angle y, 0..35,999. -/
def forwardArc (x y : Nat) : Nat := wrapAngle ((y : Int) - (x : Int))

/-- One binary digit of the integer square root, from the highest down. -/
def sqrtDigits (m : Nat) : Nat → Nat → Nat
  | 0, r => r
  | k + 1, r => sqrtDigits m k (if (r + 2 ^ k) * (r + 2 ^ k) ≤ m then r + 2 ^ k else r)

/-- The integer square root of a value below 2^32. -/
def sqrtNat (m : Nat) : Nat := sqrtDigits m 16 0

/-- The square root of sum / n rounded to the nearest integer; 0 for an empty window (R9). -/
def rootMean (sum n : Nat) : Nat := (sqrtNat (4 * sum / n) + 1) / 2

/-- One, as a fixed-point value of one hundred binary places. -/
def fixedOne : Nat := 2 ^ 100

/-- The circle constant in the same fixed point, rounded down. -/
def fixedPi : Nat := 3982441812995697363688351113952

/-- The two sums of the cosine series, its positive and its negative terms, for the square x2 of the
angle in fixed point: `k` terms from term number `n` on. -/
def cosineSums (x2 : Nat) : Nat → Nat → Nat → Nat → Nat → Nat × Nat
  | 0, _, _, pos, neg => (pos, neg)
  | k + 1, n, term, pos, neg =>
    let next := term * x2 / fixedOne / ((2 * n + 1) * (2 * n + 2))
    if n % 2 = 0 then cosineSums x2 k (n + 1) next (pos + term) neg
    else cosineSums x2 k (n + 1) next pos (neg + term)

/-- The cosine, in fixed point, of h half-centidegrees up to a right angle. -/
def cosineAcute (h : Nat) : Int :=
  let x := h * fixedPi / 36000
  let sums := cosineSums (x * x / fixedOne) 18 0 fixedOne 0 0
  (sums.1 : Int) - (sums.2 : Int)

/-- The cosine, in fixed point, of h half-centidegrees up to half a turn. -/
def cosineHalf (h : Nat) : Int :=
  if h ≤ 18000 then cosineAcute h else -cosineAcute (36000 - h)

/-- The cosine, in fixed point, of an angle in cd up to half a turn; exact at 60°, 90° and 120°. -/
def cosineOf (angle : Nat) : Int :=
  if angle = 6000 then (2 ^ 99 : Nat)
  else if angle = 9000 then 0
  else if angle = 12000 then -((2 ^ 99 : Nat) : Int)
  else cosineHalf (2 * angle)

/-- One binary digit of the rounded arccos of n / 16,384, from the highest down: the number of whole
centidegrees k whose half-way angle k − 1/2 lies below the arccos. -/
def arccosDigits (n : Int) : Nat → Nat → Nat
  | 0, r => r
  | k + 1, r =>
    let m := r + 2 ^ k
    arccosDigits n k
      (if m ≤ 18000 ∧ n * (fixedOne : Int) < (Config.cosineSteps : Int) * cosineHalf (2 * m - 1)
        then m else r)

/-- round(arccos(n / 16,384)) in cd, for n in −16,384..16,384 (R111). -/
def arccosSteps (n : Int) : Nat := arccosDigits n 15 0

/-- The `k`-th of the ways to put a list in order, counted by digits: the first taken is the one at
`k` modulo the length, and so on with the quotient. Every order of the list is the image of some k. -/
def inOrder {α : Type} (k : Nat) (l : List α) : List α :=
  go l.length k l
where
  go : Nat → Nat → List α → List α
    | 0, _, _ => []
    | fuel + 1, k, l =>
      match l[k % l.length]? with
      | none => []
      | some x => x :: go fuel (k / l.length) (l.eraseIdx (k % l.length))

/-- The first item of each source, in the order of the list. -/
def firstOfSources {α κ : Type} [BEq κ] (source : α → κ) : List α → List α
  | [] => []
  | x :: rest => x :: (firstOfSources source rest).filter (fun y => source y != source x)

/-- The `k`-th, counted by digits, of the orders of a list that keep the items of each source in their
own order (R185). The first argument is the list's length. -/
def takenOrder {α κ : Type} [BEq α] [BEq κ] (source : α → κ) : Nat → Nat → List α → List α
  | 0, _, _ => []
  | fuel + 1, k, l =>
    let heads := firstOfSources source l
    match heads[k % heads.length]? with
    | none => []
    | some x => x :: takenOrder source fuel (k / heads.length) (l.erase x)

end Sys2Proof.Machine
end

