-- ==== Sys2Proof/Machine/Settings.lean ====
section
/-! DEFINITION. The settings of the part: their names and ids, their values, ranges, defaults and classes
(Table 10-3, R198 to R201). -/

namespace Sys2Proof.Machine

/-- F_NOM: the nominal frequency, sent as 50 or 60 (R198). -/
inductive NominalFrequency where
  | hz50
  | hz60
  deriving DecidableEq, Repr

/-- CROSS_SET: sent as 0 for ALL6 and 1 for AB_ONLY (R198). -/
inductive CrossingSet where
  | all6
  | abOnly
  deriving DecidableEq, Repr

/-- The class that decides when a SET is permitted (R200, step 3). -/
inductive SettingClass where
  | live
  | stopped
  | calm
  | recorder
  deriving DecidableEq, Repr

/-- A setting by its name; one that exists per bridge or channel carries its index (Table 10-3). -/
inductive Setting where
  /-- U_NOM, V -/
  | uNom
  /-- CELLS_c, cells -/
  | cells (i : Index)
  /-- CROSS_GUARD, µs -/
  | crossGuard
  /-- F_NOM, Hz -/
  | fNom
  /-- CROSS_SET -/
  | crossSet
  /-- SYNC_WINDOW, cd -/
  | syncWindow
  /-- LOCK_COUNT, arrivals -/
  | lockCount
  /-- LOSS_COUNT, misses -/
  | lossCount
  /-- REANCHOR_COUNT, arrivals -/
  | reanchorCount
  /-- COAST_LIMIT, turns -/
  | coastLimit
  /-- PHASE_K -/
  | phaseK
  /-- PERIOD_K -/
  | periodK
  /-- STEP_LIMIT, cd -/
  | stepLimit
  /-- DIP_START, ‰ -/
  | dipStart
  /-- DIP_END, ‰ -/
  | dipEnd
  /-- SWELL_START, ‰ -/
  | swellStart
  /-- SWELL_END, ‰ -/
  | swellEnd
  /-- RECOVER_TIME, ms -/
  | recoverTime
  /-- EPISODE_MAX, ms -/
  | episodeMax
  /-- HOLD_LEVEL, ‰ -/
  | holdLevel
  /-- CAP_FLOOR, ‰ -/
  | capFloor
  /-- RECOVERY_RATE, A/s -/
  | recoveryRate
  /-- REPEAT_WINDOW, s -/
  | repeatWindow
  /-- REPEAT_MAX, episodes -/
  | repeatMax
  /-- F_LOW, mHz -/
  | fLow
  /-- F_HIGH, mHz -/
  | fHigh
  /-- F_DELAY, ms -/
  | fDelay
  /-- SHIFT_b, cd -/
  | shift (i : Index)
  /-- ALPHA_MIN, cd -/
  | alphaMin
  /-- ALPHA_MAX, cd -/
  | alphaMax
  /-- ALPHA_START, cd -/
  | alphaStart
  /-- DALPHA_MAX, cd -/
  | dalphaMax
  /-- PULSE_WIDTH, µs -/
  | pulseWidth
  /-- RETARD_LIMIT, turns -/
  | retardLimit
  /-- I_ZERO, A -/
  | iZero
  /-- KP, mV/A -/
  | kp
  /-- KI, 1/16 mV per A per firing -/
  | ki
  /-- X_LIM, V -/
  | xLim
  /-- FEEDFWD -/
  | feedFwd
  /-- I_MAX_c, A -/
  | iMax (i : Index)
  /-- I_TRIP_b, A -/
  | iTrip (i : Index)
  /-- I_MINLOAD_c, A -/
  | iMinLoad (i : Index)
  /-- T_LOWLOAD_c, s -/
  | tLowLoad (i : Index)
  /-- VCELL_FOLD, mV -/
  | vcellFold
  /-- VCELL_TRIP, mV -/
  | vcellTrip
  /-- FOLD_RATE, A/s -/
  | foldRate
  /-- SAFE_CURRENT, A -/
  | safeCurrent
  /-- SAFE_RATE, A/s -/
  | safeRate
  /-- AUTH_TIMEOUT, ms -/
  | authTimeout
  /-- REC_PRE, snapshots -/
  | recPre
  /-- REC_DECIM, scans -/
  | recDecim
  /-- REC_TRIGGERS, source set -/
  | recTriggers
  deriving DecidableEq, Repr

/-- The values in force of all the settings (Table 10-3). -/
structure Settings where
  /-- U_NOM, V -/
  uNom : Nat
  /-- CELLS_c, cells -/
  cells : Four Nat
  /-- CROSS_GUARD, µs -/
  crossGuard : Nat
  /-- F_NOM, Hz -/
  fNom : NominalFrequency
  /-- CROSS_SET -/
  crossSet : CrossingSet
  /-- SYNC_WINDOW, cd -/
  syncWindow : Nat
  /-- LOCK_COUNT, arrivals -/
  lockCount : Nat
  /-- LOSS_COUNT, misses -/
  lossCount : Nat
  /-- REANCHOR_COUNT, arrivals -/
  reanchorCount : Nat
  /-- COAST_LIMIT, turns -/
  coastLimit : Nat
  /-- PHASE_K -/
  phaseK : Nat
  /-- PERIOD_K -/
  periodK : Nat
  /-- STEP_LIMIT, cd -/
  stepLimit : Nat
  /-- DIP_START, ‰ -/
  dipStart : Nat
  /-- DIP_END, ‰ -/
  dipEnd : Nat
  /-- SWELL_START, ‰ -/
  swellStart : Nat
  /-- SWELL_END, ‰ -/
  swellEnd : Nat
  /-- RECOVER_TIME, ms -/
  recoverTime : Nat
  /-- EPISODE_MAX, ms -/
  episodeMax : Nat
  /-- HOLD_LEVEL, ‰ -/
  holdLevel : Nat
  /-- CAP_FLOOR, ‰ -/
  capFloor : Nat
  /-- RECOVERY_RATE, A/s -/
  recoveryRate : Nat
  /-- REPEAT_WINDOW, s -/
  repeatWindow : Nat
  /-- REPEAT_MAX, episodes -/
  repeatMax : Nat
  /-- F_LOW, mHz -/
  fLow : Nat
  /-- F_HIGH, mHz -/
  fHigh : Nat
  /-- F_DELAY, ms -/
  fDelay : Nat
  /-- SHIFT_b, cd -/
  shift : Four Nat
  /-- ALPHA_MIN, cd -/
  alphaMin : Nat
  /-- ALPHA_MAX, cd -/
  alphaMax : Nat
  /-- ALPHA_START, cd -/
  alphaStart : Nat
  /-- DALPHA_MAX, cd -/
  dalphaMax : Nat
  /-- PULSE_WIDTH, µs -/
  pulseWidth : Nat
  /-- RETARD_LIMIT, turns -/
  retardLimit : Nat
  /-- I_ZERO, A -/
  iZero : Nat
  /-- KP, mV/A -/
  kp : Nat
  /-- KI, 1/16 mV per A per firing -/
  ki : Nat
  /-- X_LIM, V -/
  xLim : Nat
  /-- FEEDFWD -/
  feedFwd : Bool
  /-- I_MAX_c, A -/
  iMax : Four Nat
  /-- I_TRIP_b, A -/
  iTrip : Four Nat
  /-- I_MINLOAD_c, A -/
  iMinLoad : Four Nat
  /-- T_LOWLOAD_c, s -/
  tLowLoad : Four Nat
  /-- VCELL_FOLD, mV -/
  vcellFold : Nat
  /-- VCELL_TRIP, mV -/
  vcellTrip : Nat
  /-- FOLD_RATE, A/s -/
  foldRate : Nat
  /-- SAFE_CURRENT, A -/
  safeCurrent : Nat
  /-- SAFE_RATE, A/s -/
  safeRate : Nat
  /-- AUTH_TIMEOUT, ms -/
  authTimeout : Nat
  /-- REC_PRE, snapshots -/
  recPre : Nat
  /-- REC_DECIM, scans -/
  recDecim : Nat
  /-- REC_TRIGGERS, source set -/
  recTriggers : BitVec 5
  deriving DecidableEq, Repr

/-- The defaults, in force after either reset (Table 10-3, R199). -/
def Settings.default : Settings where
  uNom := 1000
  cells := .fill 1
  crossGuard := 1000
  fNom := .hz50
  crossSet := .all6
  syncWindow := 500
  lockCount := 12
  lossCount := 3
  reanchorCount := 4
  coastLimit := 10
  phaseK := 2
  periodK := 6
  stepLimit := 1500
  dipStart := 900
  dipEnd := 920
  swellStart := 1100
  swellEnd := 1080
  recoverTime := 200
  episodeMax := 10000
  holdLevel := 200
  capFloor := 300
  recoveryRate := 2000
  repeatWindow := 30
  repeatMax := 3
  fLow := 47500
  fHigh := 51500
  fDelay := 200
  shift := ⟨0, 1500, 3000, 4500⟩
  alphaMin := 500
  alphaMax := 15000
  alphaStart := 15000
  dalphaMax := 500
  pulseWidth := 150
  retardLimit := 25
  iZero := 200
  kp := 10
  ki := 16
  xLim := 200
  feedFwd := true
  iMax := .fill 0
  iTrip := .fill 44000
  iMinLoad := .fill 0
  tLowLoad := .fill 60
  vcellFold := 2100
  vcellTrip := 2400
  foldRate := 1000
  safeCurrent := 0
  safeRate := 500
  authTimeout := 0
  recPre := 1024
  recDecim := 1
  recTriggers := 31

/-- The setting a one-byte id names; ids not listed in Table 10-3 name none (R199, R200). -/
def Setting.ofId (id : Nat) : Option Setting :=
  match id with
  | 1 => some .uNom
  | 2 => some (.cells 0)
  | 3 => some (.cells 1)
  | 4 => some (.cells 2)
  | 5 => some (.cells 3)
  | 6 => some .crossGuard
  | 7 => some .fNom
  | 8 => some .crossSet
  | 9 => some .syncWindow
  | 10 => some .lockCount
  | 11 => some .lossCount
  | 12 => some .reanchorCount
  | 13 => some .coastLimit
  | 14 => some .phaseK
  | 15 => some .periodK
  | 16 => some .stepLimit
  | 17 => some .dipStart
  | 18 => some .dipEnd
  | 19 => some .swellStart
  | 20 => some .swellEnd
  | 21 => some .recoverTime
  | 22 => some .episodeMax
  | 23 => some .holdLevel
  | 24 => some .capFloor
  | 25 => some .recoveryRate
  | 26 => some .repeatWindow
  | 27 => some .repeatMax
  | 28 => some .fLow
  | 29 => some .fHigh
  | 30 => some .fDelay
  | 31 => some (.shift 0)
  | 32 => some (.shift 1)
  | 33 => some (.shift 2)
  | 34 => some (.shift 3)
  | 35 => some .alphaMin
  | 36 => some .alphaMax
  | 37 => some .alphaStart
  | 38 => some .dalphaMax
  | 39 => some .pulseWidth
  | 40 => some .retardLimit
  | 41 => some .iZero
  | 42 => some .kp
  | 43 => some .ki
  | 44 => some .xLim
  | 45 => some .feedFwd
  | 46 => some (.iMax 0)
  | 47 => some (.iMax 1)
  | 48 => some (.iMax 2)
  | 49 => some (.iMax 3)
  | 50 => some (.iTrip 0)
  | 51 => some (.iTrip 1)
  | 52 => some (.iTrip 2)
  | 53 => some (.iTrip 3)
  | 54 => some (.iMinLoad 0)
  | 55 => some (.iMinLoad 1)
  | 56 => some (.iMinLoad 2)
  | 57 => some (.iMinLoad 3)
  | 58 => some (.tLowLoad 0)
  | 59 => some (.tLowLoad 1)
  | 60 => some (.tLowLoad 2)
  | 61 => some (.tLowLoad 3)
  | 62 => some .vcellFold
  | 63 => some .vcellTrip
  | 64 => some .foldRate
  | 65 => some .safeCurrent
  | 66 => some .safeRate
  | 67 => some .authTimeout
  | 68 => some .recPre
  | 69 => some .recDecim
  | 70 => some .recTriggers
  | _ => none

/-- The id of a setting (Table 10-3). -/
def Setting.id (x : Setting) : Nat :=
  match x with
  | .uNom => 1
  | .cells i => 2 + i.val
  | .crossGuard => 6
  | .fNom => 7
  | .crossSet => 8
  | .syncWindow => 9
  | .lockCount => 10
  | .lossCount => 11
  | .reanchorCount => 12
  | .coastLimit => 13
  | .phaseK => 14
  | .periodK => 15
  | .stepLimit => 16
  | .dipStart => 17
  | .dipEnd => 18
  | .swellStart => 19
  | .swellEnd => 20
  | .recoverTime => 21
  | .episodeMax => 22
  | .holdLevel => 23
  | .capFloor => 24
  | .recoveryRate => 25
  | .repeatWindow => 26
  | .repeatMax => 27
  | .fLow => 28
  | .fHigh => 29
  | .fDelay => 30
  | .shift i => 31 + i.val
  | .alphaMin => 35
  | .alphaMax => 36
  | .alphaStart => 37
  | .dalphaMax => 38
  | .pulseWidth => 39
  | .retardLimit => 40
  | .iZero => 41
  | .kp => 42
  | .ki => 43
  | .xLim => 44
  | .feedFwd => 45
  | .iMax i => 46 + i.val
  | .iTrip i => 50 + i.val
  | .iMinLoad i => 54 + i.val
  | .tLowLoad i => 58 + i.val
  | .vcellFold => 62
  | .vcellTrip => 63
  | .foldRate => 64
  | .safeCurrent => 65
  | .safeRate => 66
  | .authTimeout => 67
  | .recPre => 68
  | .recDecim => 69
  | .recTriggers => 70

/-- The ends of a setting's range (Table 10-3). -/
def Setting.bounds (x : Setting) : Int × Int :=
  match x with
  | .uNom => (100, 4000)
  | .cells _ => (1, 1000)
  | .crossGuard => (200, 5000)
  | .fNom => (50, 60)
  | .crossSet => (0, 1)
  | .syncWindow => (50, 1500)
  | .lockCount => (2, 63)
  | .lossCount => (1, 63)
  | .reanchorCount => (2, 12)
  | .coastLimit => (1, 100)
  | .phaseK => (1, 6)
  | .periodK => (4, 12)
  | .stepLimit => (0, 6000)
  | .dipStart => (500, 950)
  | .dipEnd => (501, 980)
  | .swellStart => (1050, 1400)
  | .swellEnd => (1020, 1399)
  | .recoverTime => (0, 5000)
  | .episodeMax => (1000, 60000)
  | .holdLevel => (0, 600)
  | .capFloor => (0, 1000)
  | .recoveryRate => (1, 20000)
  | .repeatWindow => (1, 600)
  | .repeatMax => (1, 8)
  | .fLow => (40000, 59000)
  | .fHigh => (51000, 70000)
  | .fDelay => (10, 10000)
  | .shift _ => (0, 5999)
  | .alphaMin => (0, 3000)
  | .alphaMax => (9000, 16000)
  | .alphaStart => (0, 16000)
  | .dalphaMax => (100, 3000)
  | .pulseWidth => (20, 800)
  | .retardLimit => (2, 200)
  | .iZero => (10, 2000)
  | .kp => (0, 2000)
  | .ki => (0, 4095)
  | .xLim => (0, 2000)
  | .feedFwd => (0, 1)
  | .iMax _ => (0, 40000)
  | .iTrip _ => (1000, 48000)
  | .iMinLoad _ => (0, 20000)
  | .tLowLoad _ => (1, 3600)
  | .vcellFold => (1500, 3000)
  | .vcellTrip => (1501, 3200)
  | .foldRate => (1, 20000)
  | .safeCurrent => (0, 40000)
  | .safeRate => (1, 20000)
  | .authTimeout => (0, 10000)
  | .recPre => (0, 4095)
  | .recDecim => (1, 16)
  | .recTriggers => (0, 31)

/-- A value lies in the setting's range: F_NOM takes 50 or 60, and AUTH_TIMEOUT takes 0 or
100..10,000 (R200, step 2). -/
def Setting.inRange (x : Setting) (v : Int) : Bool :=
  match x with
  | .fNom => v == 50 || v == 60
  | .authTimeout => v == 0 || (decide (100 ≤ v) && decide (v ≤ 10000))
  | _ => decide (x.bounds.1 ≤ v) && decide (v ≤ x.bounds.2)

/-- The class of a setting (Table 10-3). -/
def Setting.cls (x : Setting) : SettingClass :=
  match x with
  | .uNom => .stopped
  | .cells _ => .stopped
  | .crossGuard => .live
  | .fNom => .stopped
  | .crossSet => .stopped
  | .syncWindow => .live
  | .lockCount => .live
  | .lossCount => .live
  | .reanchorCount => .live
  | .coastLimit => .live
  | .phaseK => .live
  | .periodK => .live
  | .stepLimit => .live
  | .dipStart => .calm
  | .dipEnd => .calm
  | .swellStart => .calm
  | .swellEnd => .calm
  | .recoverTime => .calm
  | .episodeMax => .calm
  | .holdLevel => .calm
  | .capFloor => .calm
  | .recoveryRate => .calm
  | .repeatWindow => .calm
  | .repeatMax => .calm
  | .fLow => .calm
  | .fHigh => .calm
  | .fDelay => .calm
  | .shift _ => .stopped
  | .alphaMin => .stopped
  | .alphaMax => .stopped
  | .alphaStart => .stopped
  | .dalphaMax => .stopped
  | .pulseWidth => .stopped
  | .retardLimit => .live
  | .iZero => .live
  | .kp => .live
  | .ki => .live
  | .xLim => .live
  | .feedFwd => .live
  | .iMax _ => .live
  | .iTrip _ => .live
  | .iMinLoad _ => .live
  | .tLowLoad _ => .live
  | .vcellFold => .live
  | .vcellTrip => .live
  | .foldRate => .live
  | .safeCurrent => .live
  | .safeRate => .live
  | .authTimeout => .live
  | .recPre => .recorder
  | .recDecim => .recorder
  | .recTriggers => .live

/-- The value in force of a setting, as the number it is sent as (R198, R199). -/
def Settings.value (st : Settings) (x : Setting) : Int :=
  match x with
  | .uNom => (st.uNom : Int)
  | .cells i => (st.cells.get i : Int)
  | .crossGuard => (st.crossGuard : Int)
  | .fNom => match st.fNom with | .hz50 => 50 | .hz60 => 60
  | .crossSet => match st.crossSet with | .all6 => 0 | .abOnly => 1
  | .syncWindow => (st.syncWindow : Int)
  | .lockCount => (st.lockCount : Int)
  | .lossCount => (st.lossCount : Int)
  | .reanchorCount => (st.reanchorCount : Int)
  | .coastLimit => (st.coastLimit : Int)
  | .phaseK => (st.phaseK : Int)
  | .periodK => (st.periodK : Int)
  | .stepLimit => (st.stepLimit : Int)
  | .dipStart => (st.dipStart : Int)
  | .dipEnd => (st.dipEnd : Int)
  | .swellStart => (st.swellStart : Int)
  | .swellEnd => (st.swellEnd : Int)
  | .recoverTime => (st.recoverTime : Int)
  | .episodeMax => (st.episodeMax : Int)
  | .holdLevel => (st.holdLevel : Int)
  | .capFloor => (st.capFloor : Int)
  | .recoveryRate => (st.recoveryRate : Int)
  | .repeatWindow => (st.repeatWindow : Int)
  | .repeatMax => (st.repeatMax : Int)
  | .fLow => (st.fLow : Int)
  | .fHigh => (st.fHigh : Int)
  | .fDelay => (st.fDelay : Int)
  | .shift i => (st.shift.get i : Int)
  | .alphaMin => (st.alphaMin : Int)
  | .alphaMax => (st.alphaMax : Int)
  | .alphaStart => (st.alphaStart : Int)
  | .dalphaMax => (st.dalphaMax : Int)
  | .pulseWidth => (st.pulseWidth : Int)
  | .retardLimit => (st.retardLimit : Int)
  | .iZero => (st.iZero : Int)
  | .kp => (st.kp : Int)
  | .ki => (st.ki : Int)
  | .xLim => (st.xLim : Int)
  | .feedFwd => if st.feedFwd then 1 else 0
  | .iMax i => (st.iMax.get i : Int)
  | .iTrip i => (st.iTrip.get i : Int)
  | .iMinLoad i => (st.iMinLoad.get i : Int)
  | .tLowLoad i => (st.tLowLoad.get i : Int)
  | .vcellFold => (st.vcellFold : Int)
  | .vcellTrip => (st.vcellTrip : Int)
  | .foldRate => (st.foldRate : Int)
  | .safeCurrent => (st.safeCurrent : Int)
  | .safeRate => (st.safeRate : Int)
  | .authTimeout => (st.authTimeout : Int)
  | .recPre => (st.recPre : Int)
  | .recDecim => (st.recDecim : Int)
  | .recTriggers => (st.recTriggers.toNat : Int)

/-- The settings with one value replaced (R200, step 5). The value is one of the setting's range, all of
whose values are non-negative. -/
def Settings.put (st : Settings) (x : Setting) (v : Int) : Settings :=
  match x with
  | .uNom => { st with uNom := v.toNat }
  | .cells i => { st with cells := st.cells.set i v.toNat }
  | .crossGuard => { st with crossGuard := v.toNat }
  | .fNom => { st with fNom := if v = 60 then .hz60 else .hz50 }
  | .crossSet => { st with crossSet := if v = 1 then .abOnly else .all6 }
  | .syncWindow => { st with syncWindow := v.toNat }
  | .lockCount => { st with lockCount := v.toNat }
  | .lossCount => { st with lossCount := v.toNat }
  | .reanchorCount => { st with reanchorCount := v.toNat }
  | .coastLimit => { st with coastLimit := v.toNat }
  | .phaseK => { st with phaseK := v.toNat }
  | .periodK => { st with periodK := v.toNat }
  | .stepLimit => { st with stepLimit := v.toNat }
  | .dipStart => { st with dipStart := v.toNat }
  | .dipEnd => { st with dipEnd := v.toNat }
  | .swellStart => { st with swellStart := v.toNat }
  | .swellEnd => { st with swellEnd := v.toNat }
  | .recoverTime => { st with recoverTime := v.toNat }
  | .episodeMax => { st with episodeMax := v.toNat }
  | .holdLevel => { st with holdLevel := v.toNat }
  | .capFloor => { st with capFloor := v.toNat }
  | .recoveryRate => { st with recoveryRate := v.toNat }
  | .repeatWindow => { st with repeatWindow := v.toNat }
  | .repeatMax => { st with repeatMax := v.toNat }
  | .fLow => { st with fLow := v.toNat }
  | .fHigh => { st with fHigh := v.toNat }
  | .fDelay => { st with fDelay := v.toNat }
  | .shift i => { st with shift := st.shift.set i v.toNat }
  | .alphaMin => { st with alphaMin := v.toNat }
  | .alphaMax => { st with alphaMax := v.toNat }
  | .alphaStart => { st with alphaStart := v.toNat }
  | .dalphaMax => { st with dalphaMax := v.toNat }
  | .pulseWidth => { st with pulseWidth := v.toNat }
  | .retardLimit => { st with retardLimit := v.toNat }
  | .iZero => { st with iZero := v.toNat }
  | .kp => { st with kp := v.toNat }
  | .ki => { st with ki := v.toNat }
  | .xLim => { st with xLim := v.toNat }
  | .feedFwd => { st with feedFwd := v == 1 }
  | .iMax i => { st with iMax := st.iMax.set i v.toNat }
  | .iTrip i => { st with iTrip := st.iTrip.set i v.toNat }
  | .iMinLoad i => { st with iMinLoad := st.iMinLoad.set i v.toNat }
  | .tLowLoad i => { st with tLowLoad := st.tLowLoad.set i v.toNat }
  | .vcellFold => { st with vcellFold := v.toNat }
  | .vcellTrip => { st with vcellTrip := v.toNat }
  | .foldRate => { st with foldRate := v.toNat }
  | .safeCurrent => { st with safeCurrent := v.toNat }
  | .safeRate => { st with safeRate := v.toNat }
  | .authTimeout => { st with authTimeout := v.toNat }
  | .recPre => { st with recPre := v.toNat }
  | .recDecim => { st with recDecim := v.toNat }
  | .recTriggers => { st with recTriggers := BitVec.ofNat 5 v.toNat }

/-- P_nom, the nominal period in ticks (R19). -/
def Settings.nominalPeriod (st : Settings) : Nat :=
  match st.fNom with
  | .hz50 => 200000
  | .hz60 => 166667

end Sys2Proof.Machine
end

