-- ==== Sys2Proof/Machine/Types.lean ====
section
/-! DEFINITION. The records each block of the part keeps, as plain data, block by block in the order of
the chapters. The reset value of each stands in Machine/Resets.lean. -/

namespace Sys2Proof.Machine

/-! ## Scanner (chapter 1) -/

/-- The scanner's state (Table 1-5). -/
structure Scanner where
  /-- the elapsed count at the latest scan; its scan tick is this count modulo 2^32, and it is 0 before
  the first scan (R4, R13) -/
  scanAt : Nat
  /-- u_ab, u_bc, u_ca, in V (R7) -/
  u : Three Int
  /-- i_0..i_3, in A (R7) -/
  i : Four Int
  /-- e_0..e_3, in dV (R7) -/
  e : Four Int
  /-- saturated flags (R8) -/
  uSaturated : Three Bool
  iSaturated : Four Bool
  eSaturated : Four Bool
  /-- the squares of the RMS windows, oldest first, at most 125 of each (R9) -/
  squares : Three (List Nat)
  /-- U_ab, U_bc, U_ca, in V (R9) -/
  rms : Three Nat
  /-- the grid level g, in ‰ of U_NOM (R10) -/
  g : Nat
  /-- the mean line voltage U_avg, in V (R11) -/
  uAvg : Nat
  /-- the cell voltages, in mV (R12) -/
  vCell : Four Int
  /-- the level each comparator line was last seen at (R14) -/
  level : Three Bool
  /-- the tick of each line's last accepted edge, or absent (R14) -/
  lastEdge : Three (Option Tick)
  /-- chatter counts (R14) -/
  chatter : Three Nat
  /-- filtered counts (R17) -/
  filtered : Three Nat
  deriving DecidableEq, Repr

/-! ## Line synchroniser (chapter 2) -/

/-- The sync states (R19). -/
inductive SyncState where
  | acquiring
  | locked
  | coast
  | lost
  deriving DecidableEq, Repr

/-- A crossing identity: AB+, CA−, BC+, AB−, CA+, BC− (Table 1-3). -/
inductive Crossing where
  | abRise
  | caFall
  | bcRise
  | abFall
  | caRise
  | bcFall
  deriving DecidableEq, Repr

/-- A crossing arrival: line pair and polarity as an identity, and the arrival tick (R16). -/
structure Arrival where
  crossing : Crossing
  tick : Tick
  deriving DecidableEq, Repr

/-- The status of the current window (R30). -/
inductive WindowStatus where
  | waiting
  | opened
  | consumed
  deriving DecidableEq, Repr

/-- The current window (R30). -/
structure Window where
  expected : Crossing
  opening : Nat
  closing : Nat
  status : WindowStatus
  deriving DecidableEq, Repr

/-- The model's own mark of a turn boundary that the running phase brings at one tick
(notes/assumptions/4.md). -/
inductive TurnMark where
  /-- nothing is marked -/
  | unmarked
  /-- the boundary reached by running at this elapsed count is taken -/
  | taken (at' : Nat)
  /-- the phase reached 0 by running at this elapsed count, a correction of LOCKED then moved the anchor,
  and the boundary is still to be taken -/
  | due (at' : Nat)
  deriving DecidableEq, Repr

/-- The synchroniser's state (Table 2-1). -/
structure Sync where
  state : SyncState
  unanchored : Bool
  /-- A -/
  anchorTick : Tick
  /-- θA, in cd -/
  anchorAngle : Nat
  /-- P, in ticks per turn -/
  period : Nat
  good : Nat
  bad : Nat
  consistency : Nat
  previous : Option Arrival
  window : Option Window
  coastTurns : Nat
  /-- the last phase step Δ, in cd -/
  lastStep : Option Int
  stray : Nat
  mismatch : Nat
  frequencyLimit : Bool
  /-- the model's own mark, by which one passage of 0 by running is taken once, and is not lost to an
  arrival taken first at its tick (notes/assumptions/4.md) -/
  turn : TurnMark
  deriving DecidableEq, Repr

/-! ## Ride-through monitor (chapter 3) -/

/-- The monitor states (R47). -/
inductive MonitorState where
  | normal
  | low
  | high
  | recovering
  | long
  deriving DecidableEq, Repr

/-- The kind of an episode (R53). -/
inductive EpisodeKind where
  | low
  | high
  deriving DecidableEq, Repr

/-- The outcome of an episode (R53, R56, R58, R59). -/
inductive Outcome where
  | opened
  | recovered
  | superseded
  | sustained
  deriving DecidableEq, Repr

/-- The trip causes (Table 7-2). -/
inductive TripCause where
  | overcurrent
  | envelopeLow
  | envelopeHigh
  | repeated
  | frequency
  | retardTimeout
  | cellOvervoltage
  | external
  deriving DecidableEq, Repr

/-- A set of trip causes, as the bit field it is reported as: bit k for the cause of code k + 1 (R196). -/
abbrev CauseSet := BitVec 8

/-- The episode record (Table 3-1). -/
structure Episode where
  kind : EpisodeKind
  startTick : Tick
  /-- the extreme level, in ‰ -/
  extreme : Nat
  outcome : Outcome
  tripped : Bool
  /-- the causes raised -/
  causes : CauseSet
  deriving DecidableEq, Repr

/-- An entry of the recent-episode list (R62). -/
structure RecentEpisode where
  startTick : Tick
  /-- age in ms -/
  age : Nat
  deriving DecidableEq, Repr

/-- A point of an envelope table (R48). -/
structure EnvelopePoint where
  /-- ms since the start of the episode -/
  time : Nat
  /-- ‰ -/
  level : Nat
  deriving DecidableEq, Repr

/-- The mode of a ride-through cap (R66, R68). -/
inductive CapMode where
  | dip
  | ramp
  deriving DecidableEq, Repr

/-- A ride-through cap (Table 3-1). -/
structure RideCap where
  mode : CapMode
  /-- mA -/
  value : Nat
  deriving DecidableEq, Repr

/-- The monitor's state (Table 3-1). -/
structure Monitor where
  state : MonitorState
  episode : Option Episode
  /-- elapsed time of the episode, in ms -/
  elapsedTime : Nat
  /-- oldest first -/
  recent : List RecentEpisode
  lowTable : List EnvelopePoint
  highTable : List EnvelopePoint
  recoveryTimer : Nat
  excursionTimer : Nat
  excursionTripped : Bool
  /-- ref_start_c, in mA -/
  refStart : Four Nat
  cap : Four (Option RideCap)
  holdRequest : Bool
  deriving DecidableEq, Repr

/-! ## Bridge firing (chapter 4) -/

/-- The bridge states (R75). -/
inductive BridgeState where
  | blocked
  | deblocking
  | running
  | held
  | retarding
  | lockout
  deriving DecidableEq, Repr

/-- The block causes (Table 7-4). -/
inductive BlockCause where
  | stopDone
  | sync
  | breaker
  | abandoned
  | holdStop
  deriving DecidableEq, Repr

/-- The held causes (R75). -/
inductive HeldCause where
  | step
  | dip
  deriving DecidableEq, Repr

/-- A set of held causes. -/
structure HeldCauses where
  step : Bool
  dip : Bool
  deriving DecidableEq, Repr

/-- A thyristor of a bridge, 1..6 in firing order (0.4.6). -/
abbrev Thyristor := Nat

/-- The next thyristor with its due angle and scheduled α; the three are present together (R75). -/
structure Scheduled where
  thyristor : Thyristor
  /-- cd -/
  due : Nat
  /-- cd -/
  alpha : Nat
  deriving DecidableEq, Repr

/-- The thyristor last fired and its α (R77). -/
structure Fired where
  thyristor : Thyristor
  /-- α_last, in cd -/
  alpha : Nat
  deriving DecidableEq, Repr

/-- An active gate pulse: the fired thyristor, its predecessor, and the expiry tick (R77). -/
structure Pulse where
  incoming : Thyristor
  conducting : Thyristor
  expiry : Tick
  deriving DecidableEq, Repr

/-- A bridge's record (Table 4-1). -/
structure Bridge where
  state : BridgeState
  blockCause : Option BlockCause
  heldCauses : HeldCauses
  next : Option Scheduled
  lastFired : Option Fired
  pulse : Option Pulse
  retardTurns : Nat
  deriving DecidableEq, Repr

/-! ## Bridge regulators (chapter 5) -/

/-- A regulator's record (Table 5-1). -/
structure Regulator where
  /-- the integral X, in mV -/
  integral : Int
  /-- accumulator sum, in A -/
  sum : Int
  /-- accumulator count -/
  count : Nat
  /-- last interval mean I_mean, in A -/
  mean : Option Int
  /-- last α_req, in cd -/
  alphaReq : Option Nat
  lastLimited : Bool
  deriving DecidableEq, Repr

/-! ## Stack channels (chapter 6) -/

/-- The channel states (R124). -/
inductive ChannelState where
  | idle
  | active
  | pausing
  | paused
  | standby
  deriving DecidableEq, Repr

/-- The wait of a course step (R122). -/
inductive CourseWait where
  | release
  /-- the barrier tag and the mask, channel k in bit k -/
  | barrier (tag : Byte) (mask : BitVec 4)
  deriving DecidableEq, Repr

/-- A course step (R122). A gate of ALWAYS and an absent gate are alike (R202). -/
structure CourseStep where
  /-- A -/
  target : Nat
  /-- A/s, which is mA per advancing millisecond tick -/
  rate : Nat
  /-- ms -/
  hold : Option Nat
  calm : Bool
  wait : Option CourseWait
  tag : Option Byte
  deriving DecidableEq, Repr

/-- The phase of the head of a course queue (R121). -/
inductive HeadPhase where
  | ramp
  | hold
  | wait
  deriving DecidableEq, Repr

/-- A channel's record (Table 6-1). -/
structure Channel where
  state : ChannelState
  /-- course value, in mA -/
  course : Nat
  /-- oldest first; the oldest step is the head -/
  queue : List CourseStep
  headPhase : Option HeadPhase
  /-- ms -/
  remainingHold : Option Nat
  headClamped : Bool
  /-- mA -/
  foldCap : Nat
  foldback : Bool
  safe : Bool
  /-- ms -/
  lowLoadTimer : Nat
  overvoltageScans : Nat
  deriving DecidableEq, Repr

/-! ## Trip unit (chapter 7) -/

/-- The trip unit's state (Table 7-1). -/
structure Trip where
  latched : Bool
  firstOut : Option TripCause
  causes : CauseSet
  tick : Tick
  overcurrentScans : Four Nat
  /-- the external input level: EXTTRIP seen high -/
  externalHigh : Bool
  /-- BKRTRIP asserted -/
  breakerTrip : Bool
  deriving DecidableEq, Repr

/-! ## Disturbance recorder (chapter 8) -/

/-- The recorder states (R161). -/
inductive RecorderState where
  | armed
  | capturing
  | frozen
  deriving DecidableEq, Repr

/-- The trigger sources (Table 8-2a). -/
inductive TriggerSource where
  | episodeStart
  | trip
  | syncLeftLocked
  | bridgeHeld
  | recordTrigger
  deriving DecidableEq, Repr

/-- A trigger event on its way to the recorder: its source, its tick, and whether no bridge was RUNNING
just before it (R165, R166). -/
structure Trigger where
  source : TriggerSource
  tick : Tick
  idle : Bool
  deriving DecidableEq, Repr

/-- A snapshot (Table 8-2). -/
structure Snapshot where
  tick : Tick
  u : Three Int
  i : Four Int
  e : Four Int
  g : Nat
  phase : Option Nat
  sync : SyncState
  monitor : MonitorState
  tripLatched : Bool
  bridges : Four BridgeState
  deriving DecidableEq, Repr

/-- The record header (Table 8-3); its missed-trigger count is kept beside it. -/
structure RecordHeader where
  cause : TriggerSource
  triggerTick : Tick
  preCount : Nat
  plannedLength : Nat
  decimation : Nat
  idle : Bool
  survivedReset : Bool
  deriving DecidableEq, Repr

/-- The recorder's state (Table 8-1). -/
structure Recorder where
  state : RecorderState
  /-- oldest first -/
  ring : List Snapshot
  decimation : Nat
  header : Option RecordHeader
  missed : Nat
  deriving DecidableEq, Repr

/-! ## Links and authority (chapter 9) -/

/-- The break state of a link's receive line (Table 9-1). -/
inductive BreakState where
  | mark
  /-- at space since a tick -/
  | space (since : Tick)
  | inBreak
  deriving DecidableEq, Repr

/-- A record the part sends: its kind, tag and payload (R178). -/
structure OutRecord where
  kind : Byte
  tag : Byte
  payload : List Byte
  deriving DecidableEq, Repr

/-- A record being sent: its bytes, the elapsed count at which the first byte began, and, after a
break, the elapsed count at which the byte in progress ends and the rest is abandoned (R182, R186).
The bytes sent so far follow from the time run. -/
structure Transmission where
  bytes : List Byte
  startedAt : Nat
  cutAt : Option Nat
  deriving DecidableEq, Repr

/-- A byte held by a receiver, with its arrival tick (R179). -/
structure HeldByte where
  byte : Byte
  tick : Tick
  deriving DecidableEq, Repr

/-- The nine notice kinds as a set: bit k for kind 0x80 + k (R196). -/
abbrev NoticeMask := BitVec 9

/-- The 13 event summary flags: bit k for the flag of code k + 1 (Table 9-4, R196). -/
abbrev Summary := BitVec 13

/-- The state of one link (Table 9-1). The receiver is HUNTING when it holds no byte and COLLECTING
otherwise (R179). -/
structure LinkState where
  heldBytes : List HeldByte
  frameErrors : Nat
  brk : BreakState
  /-- oldest first -/
  replies : List OutRecord
  /-- oldest first -/
  notices : List OutRecord
  transmitter : Option Transmission
  mask : NoticeMask
  summary : Summary
  deriving DecidableEq, Repr

/-- The link rate chosen by the RATE strap (R177). -/
inductive LinkRate where
  | slow
  | fast
  deriving DecidableEq, Repr

/-- The cause a BRIDGE event carries (R100). -/
inductive BridgeCause where
  | none
  | block (c : BlockCause)
  | held (c : HeldCause)
  deriving DecidableEq, Repr

/-- An event a block raises to the link unit: the first nine rows of Table 9-4, with the contents of
its notice (Table 10-9). -/
inductive Event where
  | sync (state : SyncState) (delta : Option Int)
  | bridge (b : Index) (state : BridgeState) (cause : BridgeCause)
  | stepDone (c : Index) (tag : Byte) (clamped : Bool)
  | channel (c : Index) (state : ChannelState) (safe : Bool)
  | episode (ended : Bool) (kind : EpisodeKind) (outcome : Outcome) (extreme : Nat) (tripped : Bool)
  | trip (firstOut : TripCause) (causes : CauseSet) (tick : Tick)
  | record (frozen : Bool) (cause : TriggerSource)
  | authority (holder : Link)
  | supervision
  deriving DecidableEq, Repr

end Sys2Proof.Machine
end

