-- ==== Sys2Proof/Machine/Resets.lean ====
section
/-! DEFINITION. The state each block takes at a reset: the last columns of Tables 1-5, 2-1, 3-1, 4-1, 5-1,
6-1, 7-1, 8-1, 9-1 and 9-2. The manual gives a value for every item; the levels of input lines come
from the lines themselves (`Pins`). -/

namespace Sys2Proof.Machine

/-- Table 1-5; the comparator levels are those seen after the release (R14). -/
def Scanner.atReset (levels : Three Bool) : Scanner where
  scanAt := 0
  u := .fill 0
  i := .fill 0
  e := .fill 0
  uSaturated := .fill false
  iSaturated := .fill false
  eSaturated := .fill false
  squares := .fill []
  rms := .fill 0
  g := 0
  uAvg := 0
  vCell := .fill 0
  level := levels
  lastEdge := .fill none
  chatter := .fill 0
  filtered := .fill 0

/-- Table 2-1. -/
def Sync.atReset : Sync where
  state := .acquiring
  unanchored := true
  anchorTick := 0
  anchorAngle := 0
  period := Settings.default.nominalPeriod
  good := 0
  bad := 0
  consistency := 0
  previous := none
  window := none
  coastTurns := 0
  lastStep := none
  stray := 0
  mismatch := 0
  frequencyLimit := false
  turn := .unmarked

/-- The default LOW table (Table 3-2). -/
def defaultLowTable : List EnvelopePoint := [⟨0, 0⟩, ⟨150, 0⟩, ⟨700, 700⟩, ⟨1500, 850⟩]

/-- The default HIGH table (Table 3-2). -/
def defaultHighTable : List EnvelopePoint := [⟨0, 1300⟩, ⟨100, 1200⟩, ⟨1000, 1100⟩]

/-- Table 3-1. -/
def Monitor.atReset : Monitor where
  state := .normal
  episode := none
  elapsedTime := 0
  recent := []
  lowTable := defaultLowTable
  highTable := defaultHighTable
  recoveryTimer := 0
  excursionTimer := 0
  excursionTripped := false
  refStart := .fill 0
  cap := .fill none
  holdRequest := false

/-- Table 4-1. -/
def Bridge.atReset : Bridge where
  state := .blocked
  blockCause := none
  heldCauses := ⟨false, false⟩
  next := none
  lastFired := none
  pulse := none
  retardTurns := 0

/-- Table 5-1. -/
def Regulator.atReset : Regulator where
  integral := 0
  sum := 0
  count := 0
  mean := none
  alphaReq := none
  lastLimited := false

/-- Table 6-1. -/
def Channel.atReset : Channel where
  state := .idle
  course := 0
  queue := []
  headPhase := none
  remainingHold := none
  headClamped := false
  foldCap := 0
  foldback := false
  safe := false
  lowLoadTimer := 0
  overvoltageScans := 0

/-- Table 7-1. -/
def Trip.atReset : Trip where
  latched := false
  firstOut := none
  causes := 0
  tick := 0
  overcurrentScans := .fill 0
  externalHigh := false
  breakerTrip := false

/-- Table 8-1, after power-on reset, and after the reset line where no record was FROZEN. -/
def Recorder.atReset : Recorder where
  state := .armed
  ring := []
  decimation := 0
  header := none
  missed := 0

/-- Table 8-1, after the reset line: a FROZEN record is kept with its survived-reset flag set, and
anything else is as after power-on (R174). -/
def Recorder.afterResetLine (r : Recorder) : Recorder :=
  match r.state with
  | .frozen =>
    { r with
      decimation := 0
      header := r.header.map (fun h => { h with survivedReset := true }) }
  | _ => Recorder.atReset

/-- Table 9-1; a receive line at space at the release is watched from then on (R181). -/
def LinkState.atReset (atSpace : Bool) : LinkState where
  heldBytes := []
  frameErrors := 0
  brk := if atSpace then .space 0 else .mark
  replies := []
  notices := []
  transmitter := none
  mask := BitVec.allOnes 9
  summary := 0

/-- The rate the strap selects (R177). -/
def LinkRate.ofStrap (high : Bool) : LinkRate := if high then .fast else .slow

end Sys2Proof.Machine
end

