-- ==== Sys2Proof/Machine/State.lean ====
section
/-! DEFINITION. The state of the whole part, the machine right after reset, and the reasons a step can
stop. -/

namespace Sys2Proof.Machine

/-- The state of the part: every block's records, the settings in force, the input levels that the
rules read, and the queue of commands that wait. -/
structure State where
  /-- ticks since the last reset, not wrapped; the tick counter is this count modulo 2^32 (R3) -/
  elapsed : Nat
  /-- the elapsed count at the latest millisecond tick, 0 before the first (R5) -/
  millisecondAt : Nat
  /-- RSTN is held low (R3) -/
  inReset : Bool
  /-- the link rate fixed at the release of reset (R177) -/
  rate : LinkRate
  /-- BKRCL seen high (R93) -/
  breakerClosed : Bool
  settings : Settings
  scanner : Scanner
  sync : Sync
  monitor : Monitor
  bridges : Four Bridge
  regulators : Four Regulator
  channels : Four Channel
  trip : Trip
  recorder : Recorder
  links : Both LinkState
  /-- the holder of control authority (Table 9-2) -/
  holder : Link
  /-- the watchdog count (Table 9-2) -/
  watchdog : Nat
  /-- the model's own: the events raised within the command under way whose notices the link unit has
  not yet queued; empty between commands (R185) -/
  outbox : List Event
  /-- the model's own: the trigger events raised within the command under way that the recorder has not
  yet taken; empty between commands (R165, R175) -/
  triggers : List Trigger
  /-- the commands that wait, first in, first out -/
  pending : List Instr
  deriving DecidableEq, Repr

/-- The part right after a reset, with the lines as they stand and the recorder as the reset leaves
it. Every item is at the value its table states. -/
def State.afterReset (pins : Pins) (recorder : Recorder) : State where
  elapsed := 0
  millisecondAt := 0
  inReset := false
  rate := LinkRate.ofStrap pins.rateHigh
  breakerClosed := pins.bkrcl
  settings := Settings.default
  scanner := Scanner.atReset pins.crossing
  sync := Sync.atReset
  monitor := Monitor.atReset
  bridges := .fill Bridge.atReset
  regulators := .fill Regulator.atReset
  channels := .fill Channel.atReset
  trip := Trip.atReset
  recorder := recorder
  links := ⟨LinkState.atReset pins.rxSpace.p, LinkState.atReset pins.rxSpace.s⟩
  holder := .p
  watchdog := 0
  outbox := []
  triggers := []
  pending := []

/-- The machine right after power-on reset. The manual gives every item but the levels of the input
lines, which are the environment's: here the RATE strap, the comparators and BKRCL are low and both
receive lines are at mark (DESIGN CHOICE, notes/assumptions/3.md). -/
def State.reset : State :=
  State.afterReset ⟨false, .fill false, false, .fill false⟩ Recorder.atReset

/-- The faults a step can stop with. There is none: the manual gives every command an effect in every
state, and the part has no condition that stops it (safe). -/
inductive Fault where
  deriving DecidableEq, Repr

/-- The refusals a step can stop with. -/
inductive Refusal where
  /-- Raised by no arm of this model: every command of the table has its meaning. It would say that a
  command has no meaning yet (safe). -/
  | notModelled (mnemonic : String)
  deriving DecidableEq, Repr

end Sys2Proof.Machine
end

