-- ==== Sys2Proof/Machine/Ops.lean ====
section
/-! DEFINITION. The shared operations every block uses: the time base (R3 to R5), the tracked phase and
frequency (R20, R23), the effective reference (R135), sets held as bit fields (R196), and the updates
of one bridge's, regulator's, channel's or link's record. -/

namespace Sys2Proof.Machine

/-! ## Time -/

/-- The tick counter: the elapsed count modulo 2^32 (R3). -/
def State.counter (s : State) : Tick := BitVec.ofNat 32 s.elapsed

/-- The ticks from an earlier reading of the counter to now, modulo 2^32 (R3). -/
def State.since (s : State) (t : Tick) : Nat := (s.counter - t).toNat

/-- Time runs on by `d` ticks. -/
def State.runFor (s : State) (d : Nat) : State := { s with elapsed := s.elapsed + d }

/-- Time runs on to an elapsed count, unless that is past already. -/
def State.runTo (s : State) (t : Nat) : State := { s with elapsed := max s.elapsed t }

/-- Time runs on until `d` ticks have passed since the reading `t`, unless they have already. -/
def State.runUntilSince (s : State) (t : Tick) (d : Nat) : State := s.runFor (d - s.since t)

/-- Time runs on to the reading `t` of the counter, unless that reading is past; a reading less than
2^31 ticks ahead is to come (R3). -/
def State.runToTick (s : State) (t : Tick) : State :=
  let d := (t - s.counter).toNat
  if d < Config.longestInterval then s.runFor d else s

/-- The next multiple of `period` that the elapsed count reaches and that lies after `last`, the
elapsed count at which the periodic event was last taken (R4, R5). -/
def nextMultiple (period elapsed last : Nat) : Nat :=
  if elapsed % period = 0 ∧ last < elapsed then elapsed else (elapsed / period + 1) * period

/-- The elapsed count of the next scan (R4). -/
def State.nextScan (s : State) : Nat := nextMultiple Config.scanTicks s.elapsed s.scanner.scanAt

/-- The elapsed count of the next millisecond tick (R5). -/
def State.nextMillisecond (s : State) : Nat :=
  nextMultiple Config.millisecondTicks s.elapsed s.millisecondAt

/-- The scan tick of the latest scan: the counter value at its completion (R4). -/
def Scanner.scanTick (c : Scanner) : Tick := BitVec.ofNat 32 c.scanAt

/-! ## Records of one bridge, channel or link -/

/-- One bridge's record changed. -/
def State.mapBridge (s : State) (b : Index) (f : Bridge → Bridge) : State :=
  { s with bridges := s.bridges.set b (f (s.bridges.get b)) }

/-- One regulator's record changed. -/
def State.mapRegulator (s : State) (b : Index) (f : Regulator → Regulator) : State :=
  { s with regulators := s.regulators.set b (f (s.regulators.get b)) }

/-- One channel's record changed. -/
def State.mapChannel (s : State) (c : Index) (f : Channel → Channel) : State :=
  { s with channels := s.channels.set c (f (s.channels.get c)) }

/-- One link's state changed. -/
def State.mapLink (s : State) (l : Link) (f : LinkState → LinkState) : State :=
  { s with links := s.links.set l (f (s.links.get l)) }

/-- The scanner's state changed. -/
def State.mapScanner (s : State) (f : Scanner → Scanner) : State := { s with scanner := f s.scanner }

/-- The synchroniser's state changed. -/
def State.mapSync (s : State) (f : Sync → Sync) : State := { s with sync := f s.sync }

/-- The monitor's state changed. -/
def State.mapMonitor (s : State) (f : Monitor → Monitor) : State := { s with monitor := f s.monitor }

/-- The trip unit's state changed. -/
def State.mapTrip (s : State) (f : Trip → Trip) : State := { s with trip := f s.trip }

/-- The recorder's state changed. -/
def State.mapRecorder (s : State) (f : Recorder → Recorder) : State :=
  { s with recorder := f s.recorder }

/-- The state of one bridge. -/
def State.bridgeState (s : State) (b : Index) : BridgeState := (s.bridges.get b).state

/-- An action taken for each of the four bridges or channels, in an order of them. -/
def State.forAll (s : State) (order : List Index) (f : Index → State → State) : State :=
  order.foldl (fun t i => f i t) s

/-- Some bridge is RUNNING. -/
def State.anyRunning (s : State) : Bool :=
  s.bridges.toList.any (fun b => b.state == .running)

/-- Every bridge is BLOCKED or LOCKOUT, the condition of a stopped-class SET and of SYNC_RESTART
(R43, R200). -/
def State.stopped (s : State) : Bool :=
  s.bridges.toList.all (fun b => b.state == .blocked || b.state == .lockout)

/-! ## Sets held as bit fields -/

/-- Bit k is in the set. -/
def hasBit {w : Nat} (x : BitVec w) (k : Nat) : Bool := x.getLsbD k

/-- The set with bit k added. -/
def addBit {w : Nat} (x : BitVec w) (k : Nat) : BitVec w := x ||| (1#w <<< k)

/-- The bit of a trip cause: its code less 1 (R196). -/
def TripCause.bit (c : TripCause) : Nat :=
  match c with
  | .overcurrent => 0
  | .envelopeLow => 1
  | .envelopeHigh => 2
  | .repeated => 3
  | .frequency => 4
  | .retardTimeout => 5
  | .cellOvervoltage => 6
  | .external => 7

/-- The bit of a trigger source in REC_TRIGGERS: its code less 1 (R198). -/
def TriggerSource.bit (c : TriggerSource) : Nat :=
  match c with
  | .episodeStart => 0
  | .trip => 1
  | .syncLeftLocked => 2
  | .bridgeHeld => 3
  | .recordTrigger => 4

/-! ## The tracked phase -/

/-- The phase run from the anchor in `x` ticks, not wrapped (R20). -/
def phaseRun (period x : Nat) : Nat := roundNat (x * fullTurn) period

/-- The tracked phase at a tick, absent while the unanchored flag is set and in LOST (R20). -/
def Sync.phaseAt (y : Sync) (t : Tick) : Option Nat :=
  if y.unanchored || y.state == .lost then none
  else some ((y.anchorAngle + phaseRun y.period (t - y.anchorTick).toNat) % fullTurn)

/-- The tracked phase now. -/
def State.phase (s : State) : Option Nat := s.sync.phaseAt s.counter

/-- The ticks from the anchor to now. -/
def State.sinceAnchor (s : State) : Nat := s.since s.sync.anchorTick

/-- The least number of ticks from the anchor by which the phase has run `angle` cd, for angle above
0: the first x with phaseRun period x ≥ angle (R20). -/
def ticksToRun (period angle : Nat) : Nat := (2 * period * angle - period + 71999) / 72000

/-- Time runs on to the first tick, from now on, at which the running phase equals `angle`; now, where
it equals it now (R20). Nothing changes while the phase is absent. -/
def State.runToAngle (s : State) (angle : Nat) : State :=
  match s.phase with
  | none => s
  | some θ =>
    let x := s.sinceAnchor
    let ahead := forwardArc θ angle
    if ahead = 0 then s
    else s.runFor (ticksToRun s.sync.period (phaseRun s.sync.period x + ahead) - x)

/-- The phase has run to its present value at this very tick: it stood one lower at the tick before
(R20). -/
def State.phaseJustReached (s : State) : Bool :=
  let x := s.sinceAnchor
  decide (0 < x) && phaseRun s.sync.period (x - 1) != phaseRun s.sync.period x

/-- A turn boundary by running is to be taken now: the phase reached 0 at this very tick and that
passage is not yet taken, or it did so before a good arrival of this tick moved the anchor (R20, R24). -/
def State.turnPending (s : State) : Bool :=
  s.sync.turn == .due s.elapsed ||
    (s.phase == some 0 && s.phaseJustReached && s.sync.turn != .taken s.elapsed)

/-- The mark that a correction step of `size` cd leaves in LOCKED: a passage of 0 by running that its tick
brought is still to be taken, unless the step goes back and 0 is reached again later (R21, R24;
notes/assumptions/4.md). -/
def State.turnAfterStep (s : State) (size : Int) : TurnMark :=
  if s.turnPending = true ∧ 0 ≤ size then .due s.elapsed else .unmarked

/-- Time runs on to the next turn boundary reached by running: now, if one is to be taken now, or else
the next passage of 0 (R20, R24). -/
def State.runToTurn (s : State) : State :=
  match s.phase with
  | none => s
  | some θ =>
    let x := s.sinceAnchor
    if s.turnPending then s
    else s.runFor (ticksToRun s.sync.period (phaseRun s.sync.period x + (fullTurn - θ)) - x)

/-- The grid frequency f in mHz, reported in LOCKED and in COAST (R23). -/
def Sync.frequency (y : Sync) : Option Nat :=
  match y.state with
  | .locked | .coast => some (roundNat 10000000000 y.period)
  | .acquiring | .lost => none

/-! ## The effective reference -/

/-- The least of the terms in force (R135). -/
def effectiveOf (course iMax foldCap : Nat) (cap : Option RideCap) : Nat :=
  let m := min (min course (iMax * 1000)) foldCap
  match cap with
  | none => m
  | some k => min m k.value

/-- The effective reference I_eff of a channel, in mA: 0 unless its bridge is RUNNING (R135). -/
def State.effectiveReference (s : State) (c : Index) : Nat :=
  if s.bridgeState c = .running then
    effectiveOf (s.channels.get c).course (s.settings.iMax.get c) (s.channels.get c).foldCap
      (s.monitor.cap.get c)
  else 0

/-! ## Bytes on a link -/

/-- Ticks of one byte, 10 bit times (R177). -/
def LinkRate.byteTicks (r : LinkRate) : Nat :=
  match r with
  | .slow => 868
  | .fast => 100

/-- Ticks of 20 bit times, the length of a break (R181). -/
def LinkRate.breakTicks (r : LinkRate) : Nat :=
  match r with
  | .slow => 1736
  | .fast => 200

/-- A gate output as it stands: high while the bridge's pulse is active and names the thyristor, and
low while RSTN is held low (R75, R77). -/
def State.gate (s : State) (b : Index) (n : Thyristor) : Bool :=
  !s.inReset &&
    match (s.bridges.get b).pulse with
    | none => false
    | some p => p.incoming == n || p.conducting == n

end Sys2Proof.Machine
end

