-- ==== Sys2Proof/Machine/Operands.lean ====
section
/-! DEFINITION. The operands of the block's records: how values are written into and read from payload
bytes (R195), the codes of states, causes and kinds (R196), the record frame and its check (R178), and
the layout of a course step (R202, R203). -/

namespace Sys2Proof.Machine

/-! ## Bytes of a value, most significant first (R195) -/

/-- An unsigned 8-bit field. -/
def byteOf (n : Nat) : Byte := BitVec.ofNat 8 n

/-- An unsigned 16-bit field. -/
def field16 (n : Nat) : List Byte := [byteOf (n / 256), byteOf n]

/-- An unsigned 24-bit field. -/
def field24 (n : Nat) : List Byte := [byteOf (n / 65536), byteOf (n / 256), byteOf n]

/-- An unsigned 32-bit field. -/
def field32 (n : Nat) : List Byte :=
  [byteOf (n / 16777216), byteOf (n / 65536), byteOf (n / 256), byteOf n]

/-- A signed 16-bit field, two's complement. -/
def signed16 (x : Int) : List Byte := field16 (x % 65536).toNat

/-- A signed 32-bit field, two's complement. -/
def signed32 (x : Int) : List Byte := field32 (x % 4294967296).toNat

/-- A reading of the tick counter. -/
def fieldTick (t : Tick) : List Byte := field32 t.toNat

/-- A flag as a byte. -/
def flagByte (b : Bool) : Byte := if b then 1 else 0

/-- A flag as the bit of weight 2^k. -/
def flagBit (b : Bool) (k : Nat) : Nat := if b then 2 ^ k else 0

/-- A bridge current, sent as the current plus 2,000 (R195). -/
def fieldCurrent (i : Int) : List Byte := field16 (i + 2000).toNat

/-- The value of a field read most significant byte first. -/
def valueOf (bytes : List Byte) : Nat := bytes.foldl (fun n b => n * 256 + b.toNat) 0

/-- The value of a signed 32-bit field. -/
def signedValueOf (bytes : List Byte) : Int :=
  let n := valueOf bytes
  if n < 2147483648 then (n : Int) else (n : Int) - 4294967296

/-! ## Codes (Table 10-1) -/

/-- The result codes. -/
inductive Result where
  | ok
  | refusedFormat
  | refusedKind
  | refusedValue
  | refusedAuthority
  | refusedState
  | refusedFull
  | refusedActive
  | refusedLink
  deriving DecidableEq, Repr

def Result.code (r : Result) : Nat :=
  match r with
  | .ok => 0
  | .refusedFormat => 1
  | .refusedKind => 2
  | .refusedValue => 3
  | .refusedAuthority => 4
  | .refusedState => 5
  | .refusedFull => 6
  | .refusedActive => 7
  | .refusedLink => 8

/-- A result as the byte a reply carries. -/
def Result.byte (r : Result) : Byte := byteOf r.code

def SyncState.code (x : SyncState) : Nat :=
  match x with
  | .acquiring => 0
  | .locked => 1
  | .coast => 2
  | .lost => 3

def Crossing.code (x : Crossing) : Nat :=
  match x with
  | .abRise => 1
  | .caFall => 2
  | .bcRise => 3
  | .abFall => 4
  | .caRise => 5
  | .bcFall => 6

def WindowStatus.code (x : WindowStatus) : Nat :=
  match x with
  | .waiting => 1
  | .opened => 2
  | .consumed => 3

def MonitorState.code (x : MonitorState) : Nat :=
  match x with
  | .normal => 0
  | .low => 1
  | .high => 2
  | .recovering => 3
  | .long => 4

def EpisodeKind.code (x : EpisodeKind) : Nat :=
  match x with
  | .low => 1
  | .high => 2

def Outcome.code (x : Outcome) : Nat :=
  match x with
  | .opened => 0
  | .recovered => 1
  | .superseded => 2
  | .sustained => 3

def BridgeState.code (x : BridgeState) : Nat :=
  match x with
  | .blocked => 0
  | .deblocking => 1
  | .running => 2
  | .held => 3
  | .retarding => 4
  | .lockout => 5

def BlockCause.code (x : BlockCause) : Nat :=
  match x with
  | .stopDone => 1
  | .sync => 2
  | .breaker => 3
  | .abandoned => 4
  | .holdStop => 5

def BridgeCause.code (x : BridgeCause) : Nat :=
  match x with
  | .none => 0
  | .block c => c.code
  | .held .step => 6
  | .held .dip => 7

def HeldCauses.code (x : HeldCauses) : Nat := flagBit x.step 0 + flagBit x.dip 1

def ChannelState.code (x : ChannelState) : Nat :=
  match x with
  | .idle => 0
  | .active => 1
  | .pausing => 2
  | .paused => 3
  | .standby => 4

def HeadPhase.code (x : HeadPhase) : Nat :=
  match x with
  | .ramp => 1
  | .hold => 2
  | .wait => 3

def CapMode.code (x : CapMode) : Nat :=
  match x with
  | .dip => 1
  | .ramp => 2

def TripCause.code (x : TripCause) : Nat := x.bit + 1

def RecorderState.code (x : RecorderState) : Nat :=
  match x with
  | .armed => 0
  | .capturing => 1
  | .frozen => 2

def TriggerSource.code (x : TriggerSource) : Nat := x.bit + 1

def LinkRate.code (x : LinkRate) : Nat :=
  match x with
  | .slow => 0
  | .fast => 1

def linkCode (l : Link) : Nat :=
  match l with
  | .p => 0
  | .s => 1

/-- The code of an item that may be absent: 0 marks its absence (R195). -/
def codeOr0 {α : Type} (f : α → Nat) (x : Option α) : Nat := (x.map f).getD 0

/-- An unsigned 16-bit angle, 65,535 when absent (R195). -/
def fieldAngle (x : Option Nat) : List Byte := field16 (x.getD 65535)

/-! ## The record frame (R178) -/

/-- One bit of the check: the register shifted with the generator x^16 + x^12 + x^5 + 1. -/
def checkBit (crc : BitVec 16) : BitVec 16 :=
  if crc.getLsbD 15 then (crc <<< 1) ^^^ 0x1021#16 else crc <<< 1

/-- `k` bits of the check. -/
def checkBits : Nat → BitVec 16 → BitVec 16
  | 0, crc => crc
  | k + 1, crc => checkBits k (checkBit crc)

/-- One byte fed into the check, most significant bit first. -/
def checkByte (crc : BitVec 16) (b : Byte) : BitVec 16 :=
  checkBits 8 (crc ^^^ (b.zeroExtend 16 <<< 8))

/-- The check over the length, kind, tag and payload bytes: the register starts at 0xFFFF (R178). -/
def checkOf (bytes : List Byte) : BitVec 16 := bytes.foldl checkByte 0xFFFF#16

/-- The bytes of a record on the line: sync, length, kind, tag, payload and check (R178). -/
def OutRecord.frame (r : OutRecord) : List Byte :=
  let body := byteOf (r.payload.length + 2) :: r.kind :: r.tag :: r.payload
  byteOf Config.syncByte :: (body ++ field16 (checkOf body).toNat)

/-! ## Notices (R206) -/

/-- The row of Table 9-4 an event belongs to: its flag is the bit of this number in the summary, and
its notice is of kind 0x80 plus this number (R196). -/
def Event.row (e : Event) : Nat :=
  match e with
  | .sync _ _ => 0
  | .bridge _ _ _ => 1
  | .stepDone _ _ _ => 2
  | .channel _ _ _ => 3
  | .episode _ _ _ _ _ => 4
  | .trip _ _ _ => 5
  | .record _ _ => 6
  | .authority _ => 7
  | .supervision => 8

/-- The notice payload of an event (Table 10-9). -/
def Event.payload (e : Event) : List Byte :=
  match e with
  | .sync st delta => byteOf st.code :: signed16 (delta.getD (-32768))
  | .bridge b st cause => [byteOf b.val, byteOf st.code, byteOf cause.code]
  | .stepDone c tag clamped => [byteOf c.val, tag, flagByte clamped]
  | .channel c st safe => [byteOf c.val, byteOf st.code, flagByte safe]
  | .episode ended kind outcome extreme tripped =>
    [flagByte ended, byteOf kind.code, byteOf outcome.code] ++ field16 extreme ++
      [flagByte tripped]
  | .trip first causes tick => byteOf first.code :: byteOf causes.toNat :: fieldTick tick
  | .record frozen cause => [flagByte frozen, byteOf cause.code]
  | .authority holder => [byteOf (linkCode holder)]
  | .supervision => []

/-- The notice of an event: kind 0x80 + k, tag 0 and the event's contents (R206). -/
def Event.notice (e : Event) : OutRecord := ⟨byteOf (128 + e.row), 0, e.payload⟩

/-- The source of an event: events of one source keep the order their own rule gives them, and events
of different sources are taken by the link unit in either order (R185). Each bridge and each channel
is a source of its own, for they act on separate records (R99, R144). -/
def Event.source (e : Event) : Nat :=
  match e with
  | .sync _ _ => 0
  | .bridge b _ _ => 1 + b.val
  | .stepDone c _ _ => 5 + c.val
  | .channel c _ _ => 5 + c.val
  | .episode _ _ _ _ _ => 9
  | .trip _ _ _ => 10
  | .record _ _ => 11
  | .authority _ => 12
  | .supervision => 12

/-! ## Course steps (R202, R203) -/

/-- The size in bytes that a presence byte gives a course step. -/
def stepSize (presence : Byte) : Nat :=
  5 + (if hasBit presence 0 then 4 else 0) + (if hasBit presence 3 then 2 else 0) +
    (if hasBit presence 4 then 1 else 0)

/-- The presence byte of a course step (Table 10-6). -/
def CourseStep.presence (p : CourseStep) : Byte :=
  byteOf (flagBit p.hold.isSome 0 + flagBit p.calm 1 + flagBit p.wait.isSome 2 +
    (match p.wait with | some (.barrier _ _) => 8 | _ => 0) + flagBit p.tag.isSome 4)

/-- A course step as written in a READ_COURSE reply (Table 10-6). -/
def CourseStep.bytes (p : CourseStep) : List Byte :=
  p.presence :: (field16 p.target ++ field16 p.rate ++
    (match p.hold with | some h => field32 h | none => []) ++
    (match p.wait with | some (.barrier tag mask) => [tag, byteOf mask.toNat] | _ => []) ++
    (match p.tag with | some t => [t] | none => []))

/-- A channel or bridge number sent as one byte, none above 3. -/
def indexOf (b : Byte) : Option Index :=
  if h : b.toNat < 4 then some ⟨b.toNat, h⟩ else none

/-- The bridges or channels a mask byte names: none where it names no one or names a number above 3
(R81, R131). -/
def maskOf (b : Byte) : Option (BitVec 4) :=
  if 0 < b.toNat ∧ b.toNat < 16 then some (BitVec.ofNat 4 b.toNat) else none

/-- The optional parts of a step's bytes, of the size the presence byte gives: hold, barrier and tag
fields in their order (Table 10-6). -/
def stepParts (presence : Byte) (rest : List Byte) : List Byte × List Byte × List Byte :=
  let nh := if hasBit presence 0 then 4 else 0
  let nb := if hasBit presence 3 then 2 else 0
  (rest.take nh, (rest.drop nh).take nb, rest.drop (nh + nb))

/-- The course step a payload of the right size carries for channel `c`, or none where it is invalid by
R122 and R203. `rest` is what follows the presence byte. -/
def readStep (c : Index) (presence : Byte) (rest : List Byte) : Option CourseStep :=
  let target := valueOf (rest.take 2)
  let rate := valueOf ((rest.drop 2).take 2)
  let parts := stepParts presence (rest.drop 4)
  let hold := valueOf parts.1
  let bmask := (parts.2.1.getD 1 0)
  if 32 ≤ presence.toNat then none
  else if hasBit presence 1 && !hasBit presence 0 then none
  else if hasBit presence 3 && !hasBit presence 2 then none
  else if 40000 < target then none
  else if rate = 0 ∨ 20000 < rate then none
  else if hasBit presence 0 && (hold == 0 || decide (3600000 < hold)) then none
  else if hasBit presence 3 && (bmask == 0 || decide (16 ≤ bmask.toNat) || !hasBit bmask c.val)
    then none
  else
    some
      { target := target
        rate := rate
        hold := if hasBit presence 0 then some hold else none
        calm := hasBit presence 1
        wait :=
          if hasBit presence 3 then
            some (.barrier (parts.2.1.getD 0 0) (BitVec.ofNat 4 bmask.toNat))
          else if hasBit presence 2 then some .release
          else none
        tag := if hasBit presence 4 then some (parts.2.2.getD 0 0) else none }

end Sys2Proof.Machine
end

