-- ==== Sys2Proof/Machine/Flags.lean ====
section
/-! DEFINITION. Event summary flags, notices and triggers: what the link unit does with an event (R185),
the flags of a link's own (Table 9-4), and how the recorder takes trigger events (R165 to R168). An
event sets its flag on both links at once; its notices are queued, and its trigger is taken, when the
command under way has raised all its events, in orders of the events of different blocks that the
command's schedule gives. A scan's snapshot comes after what was raised before it
(Machine/Recorder.lean). -/

namespace Sys2Proof.Machine

/-- The summary flags that belong to one link alone (Table 9-4). -/
inductive OwnFlag where
  | noticeLost
  | replyOverrun
  | frameError
  | brk
  deriving DecidableEq, Repr

/-- The bit of a link's own flag in its summary: the code less 1 (R196). -/
def OwnFlag.bit (f : OwnFlag) : Nat :=
  match f with
  | .noticeLost => 9
  | .replyOverrun => 10
  | .frameError => 11
  | .brk => 12

/-- A link's own flag set. -/
def LinkState.setFlag (k : LinkState) (f : OwnFlag) : LinkState :=
  { k with summary := addBit k.summary f.bit }

/-- A block raises an event: its flag is set on both links, and the event waits for its notices to be
queued (R185). -/
def State.raise (s : State) (e : Event) : State :=
  { s with
    links := s.links.map (fun k => { k with summary := addBit k.summary e.row })
    outbox := s.outbox ++ [e] }

/-- One link takes an event's notice: it joins the queue where the mask enables its kind and the queue
holds fewer than 8, and is dropped with NOTICE_LOST set where the queue is full (R185). -/
def LinkState.offer (k : LinkState) (e : Event) : LinkState :=
  if hasBit k.mask e.row then
    if k.notices.length < Config.noticeQueueMax then { k with notices := k.notices ++ [e.notice] }
    else k.setFlag .noticeLost
  else k

/-- The link unit takes the events raised so far: each is offered to both links, in the order `k` gives
among those of different sources (R185). They join the queues together, so a TRANSMIT_START or a break
of the same tick, as any other command, comes before all of them or after all: a DESIGN CHOICE, for R185
and R194 leave open whether it may come between two (notes/assumptions/30.md). -/
def State.takeNotices (s : State) (k : Nat) : State :=
  let evs := takenOrder Event.source s.outbox.length k s.outbox
  { s with links := s.links.map (fun l => evs.foldl LinkState.offer l), outbox := [] }

/-! ## Triggers -/

/-- An event that is a trigger of the recorder is raised: where REC_TRIGGERS enables its source it waits
for the recorder to take it, with its tick and the idle flag read from the bridges as they stand, just
before the event acts on them. A source that is not enabled does not reach the recorder (R165, R166). -/
def State.trigger (s : State) (source : TriggerSource) : State :=
  if hasBit s.settings.recTriggers source.bit then
    { s with triggers := s.triggers ++ [⟨source, s.counter, !s.anyRunning⟩] }
  else s

/-- A trigger taken while the recorder is ARMED starts a capture: the header is created, the snapshots
held become the pre-trigger part, and a RECORD event is raised (R166). -/
def State.startCapture (s : State) (x : Trigger) : State :=
  let header : RecordHeader :=
    { cause := x.source
      triggerTick := x.tick
      preCount := s.recorder.ring.length
      plannedLength := s.recorder.ring.length + (Config.recordMax - s.settings.recPre)
      decimation := s.settings.recDecim
      idle := x.idle
      survivedReset := false }
  (s.mapRecorder (fun r => { r with state := .capturing, header := some header, missed := 0 })).raise
    (.record false x.source)

/-- The recorder takes a trigger: it starts a capture in ARMED and is counted as missed otherwise
(R166, R168). -/
def State.takeTrigger (s : State) (x : Trigger) : State :=
  match s.recorder.state with
  | .armed => s.startCapture x
  | _ => s.mapRecorder (fun r => { r with missed := countUp r.missed Config.missedMax })

/-- The triggers raised up to the first TRIP, with it. -/
def upToTrip : List Trigger → List Trigger
  | [] => []
  | x :: rest => if x.source = .trip then [x] else x :: upToTrip rest

/-- The triggers that may be taken next: of each source the oldest raised up to the first TRIP. The
recorder takes a TRIP at its own event, so none raised after it comes before it (R150, R153); one raised
before it may be taken first or wait (R175). -/
def nextTriggers (l : List Trigger) : List Trigger := firstOfSources Trigger.source (upToTrip l)

/-- The `k`-th, counted by digits, of the orders in which triggers may be taken; the first argument is
how many there are. -/
def triggerOrder : Nat → Nat → List Trigger → List Trigger
  | 0, _, _ => []
  | fuel + 1, k, l =>
    let next := nextTriggers l
    match next[k % next.length]? with
    | none => []
    | some x => x :: triggerOrder fuel (k / next.length) (l.erase x)

/-- The recorder takes every trigger that waits, in the order `k` gives (R175, Table 8-5). -/
def State.takeTriggers (s : State) (k : Nat) : State :=
  (triggerOrder s.triggers.length k s.triggers).foldl State.takeTrigger { s with triggers := [] }

/-! ## Taking a command -/

/-- What a command raised is taken: the triggers by the recorder, then all its events by the link unit
(R175, R185). -/
def State.settle (s : State) (order : Schedule) : State :=
  (s.takeTriggers order.triggers).takeNotices order.notices

/-- A command taken by the part: nothing happens while RSTN is held low, for the part is then in reset
(R3, R147, R161, R176); otherwise the effect, after which what it raised is taken. -/
def State.take (s : State) (order : Schedule) (effect : State → State) :
    Host.Outcome State Fault Refusal :=
  .next (if s.inReset then s else (effect s).settle order)

/-- The effect of a row that names something that comes about inside another step: that step, where it
brings it about; where it does not, no such event occurs and nothing changes
(notes/assumptions/5.md). -/
def State.takenIf (s : State) (happened : State → State → Bool) (step : State → State) : State :=
  let s' := step s
  if happened s s' then s' else s

end Sys2Proof.Machine
end

