-- ==== Sys2Proof/Machine/Recorder.lean ====
section
/-! DEFINITION. The disturbance recorder (chapter 8): the snapshot a scan takes, the completion of a
capture, and the recorder's share of a scan. -/

namespace Sys2Proof.Machine

/-- The snapshot of the scan just taken (R162). -/
def State.snapshotNow (s : State) : Snapshot where
  tick := s.scanner.scanTick
  u := s.scanner.u
  i := s.scanner.i
  e := s.scanner.e
  g := s.scanner.g
  phase := s.sync.phaseAt s.scanner.scanTick
  sync := s.sync.state
  monitor := s.monitor.state
  tripLatched := s.trip.latched
  bridges := s.bridges.map (fun b => b.state)

/-- The ring of an armed recorder with a snapshot joined: the newest REC_PRE are kept (R164). -/
def joinRing (recPre : Nat) (ring : List Snapshot) (x : Snapshot) : List Snapshot :=
  let ring' := ring ++ [x]
  ring'.drop (ring'.length - recPre)

/-- A snapshot joins the ring in ARMED and the record in CAPTURING; the record that then holds its
planned length is frozen, with a RECORD event (R164, R167). -/
def State.keepSnapshot (s : State) (x : Snapshot) : State :=
  match s.recorder.state with
  | .frozen => s
  | .armed => s.mapRecorder (fun r => { r with ring := joinRing s.settings.recPre r.ring x })
  | .capturing =>
    let t := s.mapRecorder (fun r => { r with ring := r.ring ++ [x] })
    match s.recorder.header with
    | none => t
    | some h =>
      if t.recorder.ring.length = h.plannedLength then
        (t.mapRecorder (fun r => { r with state := .frozen, decimation := 0 })).raise
          (.record true h.cause)
      else t

/-- The scan takes a snapshot: the recorder is not FROZEN and the decimation counter reaches REC_DECIM
(R163). -/
def State.snapshotDue (s : State) : Bool :=
  s.recorder.state != .frozen && s.recorder.decimation + 1 == s.settings.recDecim

/-- The recorder's decimation at a scan, with its snapshot (R163). -/
def State.recorderScan (s : State) : State :=
  match s.recorder.state with
  | .frozen => s
  | _ =>
    if s.snapshotDue then
      (s.mapRecorder (fun r => { r with decimation := 0 })).keepSnapshot s.snapshotNow
    else s.mapRecorder (fun r => { r with decimation := r.decimation + 1 })

/-- The recorder's share of a scan: the triggers raised before it are taken, in the order `k` gives, and
then the scan is (R163, R175). -/
def State.recorderShare (s : State) (k : Nat) : State := (s.takeTriggers k).recorderScan

/-- The recorder emptied: RECORD_RELEASE of a FROZEN record (R172). -/
def Recorder.released (_ : Recorder) : Recorder := Recorder.atReset

/-- The ring emptied and the decimation counter set to 0 by an accepted SET of REC_PRE or REC_DECIM,
whose class permits it in ARMED only (R173). -/
def Recorder.restarted (r : Recorder) : Recorder := { r with ring := [], decimation := 0 }

end Sys2Proof.Machine
end

