-- ==== Sys2Proof/Machine/Firing.lean ====
section
/-! DEFINITION. Bridge firing (chapter 4): due angles and the choice of the next thyristor, the changes
of a bridge's state, and what each input of the firing unit does to a bridge. The regulator's preset
stands here too, for a bridge's acceptance and resume apply it (R114). -/

namespace Sys2Proof.Machine

/-! ## Due angles -/

/-- The thyristor after n in firing order (0.4.6). -/
def successor (n : Thyristor) : Thyristor := n % 6 + 1

/-- The thyristor before n in firing order (0.4.6). -/
def predecessor (n : Thyristor) : Thyristor := (n + 4) % 6 + 1

/-- The due angle of thyristor n at α (R76). -/
def dueAngle (shift n alpha : Nat) : Nat := (n * 6000 + shift + alpha) % fullTurn

/-- A thyristor scheduled at α, with its due angle (R76). -/
def State.scheduleAt (s : State) (b : Index) (n alpha : Nat) : Scheduled :=
  ⟨n, dueAngle (s.settings.shift.get b) n alpha, alpha⟩

/-- The distance forward from the phase to a due angle, a distance of 0 read as a full turn (R82). -/
def distanceAhead (phase due : Nat) : Nat :=
  let d := forwardArc phase due
  if d = 0 then fullTurn else d

/-- The candidate with the smaller distance ahead. -/
def nearer (phase : Nat) (x y : Scheduled) : Scheduled :=
  if distanceAhead phase y.due < distanceAhead phase x.due then y else x

/-- The first thyristor: the one whose due angle at ALPHA_START lies nearest strictly ahead of the
phase (R82, R91). -/
def State.firstThyristor (s : State) (b : Index) (phase : Nat) : Scheduled :=
  let at' := fun n => s.scheduleAt b n s.settings.alphaStart
  [at' 2, at' 3, at' 4, at' 5, at' 6].foldl (nearer phase) (at' 1)

/-! ## The regulator's preset -/

/-- The ideal DC voltage V_d0 in mV: round(1.3505 × U_avg × 1,000) (R109). -/
def idealVoltage (uAvg : Nat) : Nat := roundNat (13505 * uAvg) 10

/-- The feed-forward term E_ff in mV (R107). -/
def State.feedForward (s : State) (b : Index) : Int :=
  if s.settings.feedFwd then s.scanner.e.get b * 100 else 0

/-- The integral's limit in mV (R106). -/
def State.integralLimit (s : State) : Int := (s.settings.xLim : Int) * 1000

/-- An integral limited to ±X_LIM × 1,000 (R106). -/
def State.limitIntegral (s : State) (x : Int) : Int :=
  clampInt x (-s.integralLimit) s.integralLimit

/-- The integral the preset sets: round(V_d0 × cos(ALPHA_START)) − E_ff, limited (R114). -/
def State.presetIntegral (s : State) (b : Index) : Int :=
  s.limitIntegral
    (roundInt ((idealVoltage s.scanner.uAvg : Int) * cosineOf s.settings.alphaStart) fixedOne
      - s.feedForward b)

/-- The preset: the integral placed, the accumulator and the last-limited flag cleared, the last α_req
absent; the last interval mean stays (R114). -/
def State.preset (s : State) (b : Index) : State :=
  s.mapRegulator b (fun r =>
    { r with
      integral := s.presetIntegral b, sum := 0, count := 0, lastLimited := false,
      alphaReq := none })

/-! ## Changes of a bridge's state -/

/-- A bridge enters BLOCKED with a cause; its schedule becomes absent, an active pulse runs to its
expiry, and a BRIDGE event is raised (R75, R80, R100). -/
def State.blockBridge (s : State) (b : Index) (cause : BlockCause) : State :=
  (s.mapBridge b (fun r =>
    { r with state := .blocked, blockCause := some cause, next := none })).raise
    (.bridge b .blocked (.block cause))

/-- The set of held causes with one added. -/
def HeldCauses.add (h : HeldCauses) (c : HeldCause) : HeldCauses :=
  match c with
  | .step => { h with step := true }
  | .dip => { h with dip := true }

/-- The set of held causes with one removed. -/
def HeldCauses.drop (h : HeldCauses) (c : HeldCause) : HeldCauses :=
  match c with
  | .step => { h with step := false }
  | .dip => { h with dip := false }

/-- A cause is in the set. -/
def HeldCauses.has (h : HeldCauses) (c : HeldCause) : Bool :=
  match c with
  | .step => h.step
  | .dip => h.dip

/-- No held cause. -/
def HeldCauses.empty : HeldCauses := ⟨false, false⟩

/-- A RUNNING bridge enters HELD with one cause; its schedule becomes absent, a BRIDGE event carries
the cause, and the recorder takes it as its BRIDGE_HELD trigger (R89, R96, R165). -/
def State.holdBridge (s : State) (b : Index) (cause : HeldCause) : State :=
  ((s.trigger .bridgeHeld).mapBridge b (fun r =>
    { r with state := .held, heldCauses := HeldCauses.empty.add cause, next := none })).raise
    (.bridge b .held (.held cause))

/-- A bridge resumes from HELD: RUNNING with no held cause, the next thyristor chosen ahead of the
phase and scheduled at ALPHA_START, the regulator preset, and a BRIDGE event (R91). A HELD bridge has
a phase, for the synchroniser's loss of it blocks the bridge (R92). -/
def State.resumeBridge (s : State) (b : Index) : State :=
  ((s.mapBridge b (fun r =>
    { r with
      state := .running
      heldCauses := HeldCauses.empty
      next := s.phase.map (s.firstThyristor b) })).preset b).raise
    (.bridge b .running .none)

/-- A held cause clears; the bridge whose last cause clears resumes (R90, R91). -/
def State.clearHeld (s : State) (b : Index) (cause : HeldCause) : State :=
  let h := (s.bridges.get b).heldCauses
  if s.bridgeState b = .held ∧ h.has cause = true then
    if h.drop cause = HeldCauses.empty then s.resumeBridge b
    else s.mapBridge b (fun r => { r with heldCauses := h.drop cause })
  else s

/-- STOP applied to one bridge (Table 4-3). -/
def State.stopBridge (s : State) (b : Index) : State :=
  match s.bridgeState b with
  | .deblocking => s.blockBridge b .abandoned
  | .running =>
    (s.mapBridge b (fun r => { r with state := .retarding, retardTurns := 0 })).raise
      (.bridge b .retarding .none)
  | .held => s.blockBridge b .holdStop
  | .blocked | .retarding | .lockout => s

/-- The hold request turns on, for one bridge (R83, R88, R89). -/
def State.holdRequestOn (s : State) (b : Index) : State :=
  match s.bridgeState b with
  | .running => s.holdBridge b .dip
  | .held => s.mapBridge b (fun r => { r with heldCauses := r.heldCauses.add .dip })
  | .retarding => s.blockBridge b .holdStop
  | .deblocking => s.blockBridge b .abandoned
  | .blocked | .lockout => s

/-- The breaker opens, for one bridge (R83, R93). -/
def State.breakerOpens (s : State) (b : Index) : State :=
  match s.bridgeState b with
  | .deblocking | .running | .held | .retarding => s.blockBridge b .breaker
  | .blocked | .lockout => s

/-- The synchroniser enters ACQUIRING or LOST, for one bridge (R92). -/
def State.phaseLost (s : State) (b : Index) : State :=
  match s.bridgeState b with
  | .running | .held | .retarding => s.blockBridge b .sync
  | .deblocking => s.blockBridge b .abandoned
  | .blocked | .lockout => s

/-- The synchroniser leaves LOCKED for COAST, for one bridge (R92). -/
def State.coastBegins (s : State) (b : Index) : State :=
  match s.bridgeState b with
  | .deblocking => s.blockBridge b .abandoned
  | _ => s

/-- A trip latches, for one bridge: LOCKOUT with its pulse cut, no block cause, no held cause and no
schedule, and a BRIDGE event where the state changes (R94). -/
def State.lockoutBridge (s : State) (b : Index) : State :=
  let t := s.mapBridge b (fun r =>
    { r with
      state := .lockout, blockCause := none, heldCauses := HeldCauses.empty, next := none,
      pulse := none })
  if s.bridgeState b = .lockout then t else t.raise (.bridge b .lockout .none)

/-- An accepted TRIP_CLEAR, for one bridge: LOCKOUT becomes BLOCKED with no block cause (R95). -/
def State.unlockBridge (s : State) (b : Index) : State :=
  if s.bridgeState b = .lockout then
    (s.mapBridge b (fun r => { r with state := .blocked, blockCause := none })).raise
      (.bridge b .blocked .none)
  else s

/-- A due angle lies in the arc a forward step sweeps: from the old phase, exclusive, to the new one,
inclusive (R21, R97). -/
def swept (old new due : Nat) : Bool :=
  let d := forwardArc old due
  decide (0 < d) && decide (d ≤ forwardArc old new)

/-- A re-anchor step from `old` to `new` of Δ cd, for one bridge (R96, R97). -/
def State.reanchorStep (s : State) (b : Index) (old new : Nat) (delta : Int) : State :=
  if (s.settings.stepLimit : Int) < |delta| then
    match s.bridgeState b with
    | .running => s.holdBridge b .step
    | .held => s.mapBridge b (fun r => { r with heldCauses := r.heldCauses.add .step })
    | .retarding => s.blockBridge b .holdStop
    | .blocked | .lockout | .deblocking => s
  else if 0 < delta then
    match (s.bridges.get b).next with
    | none => s
    | some n =>
      if swept old new n.due then
        match s.bridgeState b with
        | .running => s.holdBridge b .step
        | .retarding => s.blockBridge b .holdStop
        | .held | .blocked | .lockout | .deblocking => s
      else s
  else s

end Sys2Proof.Machine
end

