-- ==== Sys2Proof/Machine/Regulation.lean ====
section
/-! DEFINITION. Current regulation and the firing itself (chapter 5, R77, R78): the interval
accumulator, the computation of α_req, and the scheduling of the next thyristor. -/

namespace Sys2Proof.Machine

/-! ## The interval accumulator -/

/-- One regulator's share of a scan: the bridge current joins the accumulator while the bridge is
DEBLOCKING, RUNNING or RETARDING (R103). -/
def State.accumulate (s : State) (b : Index) : State :=
  match s.bridgeState b with
  | .deblocking | .running | .retarding =>
    s.mapRegulator b (fun r => { r with sum := r.sum + s.scanner.i.get b, count := r.count + 1 })
  | .blocked | .held | .lockout => s

/-- The interval mean current: of the scans summed, or the latest scan's current where there is none
(R104). -/
def intervalMean (r : Regulator) (latest : Int) : Int :=
  if 0 < r.count then roundInt r.sum r.count else latest

/-! ## From reference to firing angle -/

/-- The updated integral: integrated where the last-limited flag is clear, and limited (R106). -/
def State.integrate (s : State) (r : Regulator) (err : Int) : Int :=
  if r.lastLimited then r.integral
  else s.limitIntegral (r.integral + roundInt (err * (s.settings.ki : Int)) 16)

/-- round(V_dem / V_d0 × 16,384) limited to the cosine's range −1..+1 (R110). A ratio beyond the
cosines of ALPHA_MIN and ALPHA_MAX gives those angles, by the clamp of `angleFor`. -/
def cosineRatio (demand : Int) (ideal : Nat) : Int :=
  clampInt (roundInt (demand * (Config.cosineSteps : Int)) ideal)
    (-(Config.cosineSteps : Int)) (Config.cosineSteps : Int)

/-- α_req for a voltage demand: ALPHA_MIN under a collapsed line voltage; otherwise the rounded arccos
of the quantised ratio, limited to ALPHA_MIN..ALPHA_MAX. Since the arccos falls as the ratio rises,
limiting the angle is limiting the cosine to cos(ALPHA_MAX)..cos(ALPHA_MIN) (R110, R111). -/
def State.angleFor (s : State) (demand : Int) (ideal : Nat) : Nat :=
  if ideal < Config.collapsedVoltage then s.settings.alphaMin
  else clampNat (arccosSteps (cosineRatio demand ideal)) s.settings.alphaMin s.settings.alphaMax

/-- The regulator's computation at a firing in RUNNING: the interval mean, the integral and α_req, with
the accumulator cleared (R104 to R111). -/
def State.regulate (s : State) (b : Index) : Regulator :=
  let r := s.regulators.get b
  let mean := intervalMean r (s.scanner.i.get b)
  let err : Int := ((s.effectiveReference b / 1000 : Nat) : Int) - mean
  let x := s.integrate r err
  let demand := s.feedForward b + err * (s.settings.kp : Int) + x
  { r with
    integral := x
    sum := 0
    count := 0
    mean := some mean
    alphaReq := some (s.angleFor demand (idealVoltage s.scanner.uAvg)) }

/-- The regulator at a firing in RETARDING: the interval mean is formed and the accumulator cleared,
and nothing else changes (R113). -/
def State.regulateRetard (s : State) (b : Index) : Regulator :=
  let r := s.regulators.get b
  { r with sum := 0, count := 0, mean := some (intervalMean r (s.scanner.i.get b)) }

/-- The slew and range limits: α_sched from α_req and α_last (R78, step 3). -/
def State.slew (s : State) (alphaReq alphaLast : Nat) : Nat :=
  clampNat
    (clampNat alphaReq (alphaLast - s.settings.dalphaMax) (alphaLast + s.settings.dalphaMax))
    s.settings.alphaMin s.settings.alphaMax

/-- The pulse of a firing of thyristor n (R77). -/
def State.newPulse (s : State) (n : Thyristor) : Pulse :=
  ⟨n, predecessor n,
    s.counter + BitVec.ofNat 32 (s.settings.pulseWidth * Config.ticksPerMicrosecond)⟩

/-- The pulse starts and the fired thyristor is recorded (R77). -/
def State.startPulse (s : State) (b : Index) (n : Scheduled) : State :=
  s.mapBridge b (fun r =>
    { r with
      pulse := some (s.newPulse n.thyristor), lastFired := some ⟨n.thyristor, n.alpha⟩ })

/-- Step 1 of R78: a DEBLOCKING bridge becomes RUNNING at its first firing. -/
def State.firstFiring (s : State) (b : Index) : State :=
  if s.bridgeState b = .deblocking then
    (s.mapBridge b (fun r => { r with state := .running })).raise (.bridge b .running .none)
  else s

/-- Steps 2 to 6 of R78 for the thyristor `n` just fired: the regulator's share, the slew, the next
thyristor, the last-limited flag (R112), and the completion test of a retard (R86). -/
def State.scheduleNext (s : State) (b : Index) (n : Scheduled) : State :=
  let retarding := s.bridgeState b == .retarding
  let r := if retarding then s.regulateRetard b else s.regulate b
  let req := if retarding then s.settings.alphaMax else r.alphaReq.getD s.settings.alphaMax
  let sched := s.slew req n.alpha
  let t :=
    (s.mapRegulator b (fun _ => { r with lastLimited := sched != req })).mapBridge b
      (fun k => { k with next := some (s.scheduleAt b (successor n.thyristor) sched) })
  if retarding && sched == s.settings.alphaMax &&
      decide (r.mean.getD 0 < (s.settings.iZero : Int)) then
    t.blockBridge b .stopDone
  else t

/-- A firing of the thyristor scheduled: the pulse, and all of R78 (R77, R78). -/
def State.fire (s : State) (b : Index) (n : Scheduled) : State :=
  ((s.startPulse b n).firstFiring b).scheduleNext b n

/-- The phase reaches a bridge's due angle: the thyristor fires, but a DEBLOCKING bridge is abandoned
where the hold request is on (R76, R83, R84, R86). -/
def State.dueReached (s : State) (b : Index) : State :=
  match (s.bridges.get b).next with
  | none => s
  | some n =>
    match s.bridgeState b with
    | .deblocking => if s.monitor.holdRequest then s.blockBridge b .abandoned else s.fire b n
    | .running | .retarding => s.fire b n
    | .blocked | .held | .lockout => s

/-- A bridge waits for a due angle: it is DEBLOCKING, RUNNING or RETARDING and has a schedule (R75). -/
def State.awaitsDue (s : State) (b : Index) : Option Scheduled :=
  match s.bridgeState b with
  | .deblocking | .running | .retarding => (s.bridges.get b).next
  | .blocked | .held | .lockout => none

/-- A forward correction step fires the thyristor whose due angle it sweeps, at the correction itself
(R79). A due angle equal to the old phase is not in the arc (R21), so a thyristor whose FIRING of this tick
is not yet taken is not fired here, and fires where the phase next equals its angle: a DESIGN CHOICE, for
R79 and R99 are silent on it (notes/assumptions/32.md). -/
def State.correctionFiring (s : State) (b : Index) (old new : Nat) : State :=
  match s.awaitsDue b with
  | none => s
  | some n => if swept old new n.due then s.dueReached b else s

end Sys2Proof.Machine
end

