-- ==== Sys2Proof/Machine/Channels.lean ====
section
/-! DEFINITION. Stack channels and course queues (chapter 6): the flush, the execution of the head, the
barrier test, foldback, the low-load timer, the re-seed and the safe step. -/

namespace Sys2Proof.Machine

/-! ## States and the queue -/

/-- A CHANNEL event of a channel as it stands (R124). -/
def State.channelEvent (s : State) (c : Index) : State :=
  s.raise (.channel c (s.channels.get c).state (s.channels.get c).safe)

/-- The queue emptied with its head (R132). -/
def Channel.emptied (k : Channel) : Channel :=
  { k with queue := [], headPhase := none, remainingHold := none, headClamped := false }

/-- A channel moved to a state, with a CHANNEL event where that is a change (R124). -/
def State.setChannelState (s : State) (c : Index) (st : ChannelState) : State :=
  if (s.channels.get c).state = st then s
  else (s.mapChannel c (fun k => { k with state := st })).channelEvent c

/-- FLUSH of one channel (R132). -/
def State.flushChannel (s : State) (c : Index) : State :=
  match (s.channels.get c).state with
  | .standby => s
  | _ => (s.mapChannel c Channel.emptied).setChannelState c .idle

/-- A trip latches, for one channel: flushed, course value 0, low-load timer 0, and IDLE unless it is
STANDBY (R143). -/
def State.tripFlush (s : State) (c : Index) : State :=
  let t := s.mapChannel c (fun k => { k.emptied with course := 0, lowLoadTimer := 0 })
  match (s.channels.get c).state with
  | .standby => t
  | _ => t.setChannelState c .idle

/-! ## Executing the head -/

/-- A millisecond tick is advancing for a channel: it is ACTIVE, its bridge is RUNNING and the monitor
is NORMAL or LONG (R125). -/
def State.advancing (s : State) (c : Index) : Bool :=
  (s.channels.get c).state == .active && s.bridgeState c == .running &&
    (s.monitor.state == .normal || s.monitor.state == .long)

/-- A CALM hold counts this tick (R127). -/
def State.calmTick (s : State) : Bool :=
  s.sync.state == .locked && s.monitor.state == .normal

/-- The course value moved toward its target by the rate (R126). -/
def rampToward (course target rate : Nat) : Nat :=
  if course < target then min (course + rate) target else max (course - rate) target

/-- The phase after arrival or after the hold: WAIT where a wait is present, and otherwise none, for
the step then completes (R126, R127). -/
def CourseStep.afterHold (p : CourseStep) : Option HeadPhase := p.wait.map (fun _ => .wait)

/-- One advancing tick of the head: the channel after it, whose head phase is none where the step is to
complete (R126, R127). -/
def Channel.advanceHead (k : Channel) (iMax : Nat) (calm : Bool) : Channel :=
  match k.queue with
  | [] => k
  | p :: _ =>
    match k.headPhase with
    | none => k
    | some .wait => k
    | some .ramp =>
      let target := min p.target iMax * 1000
      let course := rampToward k.course target p.rate
      let k' := { k with course := course, headClamped := k.headClamped || decide (iMax < p.target) }
      if course = target then
        match p.hold with
        | some h => { k' with headPhase := some .hold, remainingHold := some h }
        | none => { k' with headPhase := p.afterHold }
      else k'
    | some .hold =>
      if p.calm && !calm then k
      else
        match k.remainingHold with
        | none => k
        | some r =>
          if r ≤ 1 then { k with remainingHold := none, headPhase := p.afterHold }
          else { k with remainingHold := some (r - 1) }

/-- The head completes: it leaves the queue, a tagged step raises STEP_DONE, and the next step becomes
the head in RAMP, or the channel becomes IDLE (R130). -/
def State.completeHead (s : State) (c : Index) : State :=
  match (s.channels.get c).queue with
  | [] => s
  | p :: rest =>
    let clamped := (s.channels.get c).headClamped
    let s1 := match p.tag with | none => s | some t => s.raise (.stepDone c t clamped)
    let s2 := s1.mapChannel c (fun k =>
      { k with
        queue := rest
        headClamped := false
        remainingHold := none
        headPhase := if rest.isEmpty then none else some .ramp })
    if rest.isEmpty then s2.setChannelState c .idle else s2

/-- The head's share of an advancing tick, with its completion (R126, R127, R130). -/
def State.advance (s : State) (c : Index) : State :=
  let k := (s.channels.get c).advanceHead (s.settings.iMax.get c) s.calmTick
  let t := s.mapChannel c (fun _ => k)
  if k.headPhase = none then t.completeHead c else t

/-! ## The barrier test -/

/-- A channel waits at a barrier of a tag on an advancing tick (R129). -/
def Channel.waitsAt (k : Channel) (tag : Byte) : Bool :=
  k.headPhase == some .wait &&
    match k.queue with
    | p :: _ => (match p.wait with | some (.barrier t _) => t == tag | _ => false)
    | [] => false

/-- The mask a channel's barrier releases where it is satisfied at this tick, and no channel otherwise
(R129). `adv` tells which channels the tick is advancing for. -/
def State.releasedBy (s : State) (adv : Index → Bool) (c : Index) : BitVec 4 :=
  let k := s.channels.get c
  match k.headPhase, k.queue with
  | some .wait, p :: _ =>
    match p.wait with
    | some (.barrier tag mask) =>
      if Index.all.all (fun m =>
          !hasBit mask m.val || (adv m && (s.channels.get m).waitsAt tag)) then mask
      else 0
    | _ => 0
  | _, _ => 0

/-- The union of the masks of the satisfied barriers (R129). -/
def State.released (s : State) (adv : Index → Bool) : BitVec 4 :=
  Index.all.foldl (fun m c => m ||| s.releasedBy adv c) 0

/-- The barrier test: every channel of the released set completes its head (R129). -/
def State.barrierTest (s : State) (adv : Index → Bool) : State :=
  let set := s.released adv
  s.forAll Index.all (fun c t => if hasBit set c.val then t.completeHead c else t)

/-! ## Foldback -/

/-- The FOLDBACK flag recomputed (R137). -/
def Channel.withFoldback (k : Channel) (iMax : Nat) : Channel :=
  { k with foldback := decide (k.foldCap < iMax * 1000) }

/-- The fold cap after a millisecond tick (R137). -/
def foldedCap (foldCap effective iMax rate : Nat) (vCell fold : Int) : Nat :=
  if fold < vCell then min foldCap effective - rate
  else if vCell < fold - Config.foldHysteresis then min (iMax * 1000) (foldCap + rate)
  else foldCap

/-- Foldback of one channel at a millisecond tick (R137). -/
def State.foldTick (s : State) (c : Index) : State :=
  let eff := s.effectiveReference c
  s.mapChannel c (fun k =>
    { k with
      foldCap :=
        foldedCap k.foldCap eff (s.settings.iMax.get c) s.settings.foldRate
          (s.scanner.vCell.get c) (s.settings.vcellFold : Int) }.withFoldback
      (s.settings.iMax.get c))

/-- An accepted SET of I_MAX_c adjusts the fold cap; `old` is the I_MAX_c before it (R138). -/
def Channel.refold (k : Channel) (old new : Nat) : Channel :=
  { k with
    foldCap := if k.foldCap = old * 1000 then new * 1000 else min k.foldCap (new * 1000)
  }.withFoldback new

/-! ## Low load -/

/-- The low-load condition of a channel (R140). A STANDBY channel does not count. -/
def State.lowLoad (s : State) (c : Index) : Bool :=
  decide (0 < s.settings.iMinLoad.get c) && s.bridgeState c == .running &&
    s.monitor.state == .normal &&
    decide (s.scanner.i.get c < (s.settings.iMinLoad.get c : Int)) &&
    (s.channels.get c).state != .standby

/-- A channel parks itself: its queue emptied, STANDBY, STOP applied to its bridge, timer 0 (R140). -/
def State.park (s : State) (c : Index) : State :=
  (((s.mapChannel c Channel.emptied).setChannelState c .standby).stopBridge c).mapChannel c
    (fun k => { k with lowLoadTimer := 0 })

/-- The low-load timer of a channel at a millisecond tick, after its course step (R140). -/
def State.lowLoadTick (s : State) (c : Index) : State :=
  if s.lowLoad c then
    let timer := (s.channels.get c).lowLoadTimer + 1
    if s.settings.tLowLoad.get c * 1000 ≤ timer then s.park c
    else s.mapChannel c (fun k => { k with lowLoadTimer := timer })
  else s.mapChannel c (fun k => { k with lowLoadTimer := 0 })

/-! ## The millisecond tick -/

/-- The first part of a channel's share of a millisecond tick: foldback, then PAUSING to PAUSED or the
head's advance (R125). `adv` is the advancing condition as the tick is taken. -/
def State.channelTick (s : State) (adv : Index → Bool) (c : Index) : State :=
  let t := s.foldTick c
  match (s.channels.get c).state with
  | .pausing => t.setChannelState c .paused
  | _ => if adv c then t.advance c else t

/-- The channel unit's share of a millisecond tick (R121, R125). -/
def State.channelsTick (s : State) : State :=
  let adv := s.advancing
  ((s.forAll Index.all (fun c t => t.channelTick adv c)).barrierTest adv).forAll Index.all
    (fun c t => t.lowLoadTick c)

/-! ## Re-seed and safe step -/

/-- The head after a re-seed: in HOLD or WAIT it returns to RAMP where its target is no longer met
(R136). -/
def Channel.reseeded (k : Channel) (iMax : Nat) (course : Nat) : Channel :=
  let k' := { k with course := course }
  match k.queue, k.headPhase with
  | p :: _, some .hold | p :: _, some .wait =>
    if course = min p.target iMax * 1000 then k'
    else { k' with headPhase := some .ramp, remainingHold := none }
  | _, _ => k'

/-- The re-seed at the acceptance of DEBLOCK (R136). -/
def State.reseed (s : State) (c : Index) : State :=
  s.mapChannel c (fun k =>
    k.reseeded (s.settings.iMax.get c) ((s.scanner.i.get c).toNat * 1000))

/-- The synthetic step of a supervision loss (R142). -/
def State.safeStep (s : State) : CourseStep where
  target := s.settings.safeCurrent
  rate := s.settings.safeRate
  hold := none
  calm := false
  wait := none
  tag := none

/-- A supervision loss, for one channel (R142). -/
def State.superviseChannel (s : State) (c : Index) : State :=
  if s.bridgeState c = .running then
    (s.mapChannel c (fun k =>
      { k.emptied with
        queue := [s.safeStep], headPhase := some .ramp, state := .active, safe := true })).channelEvent c
  else s

end Sys2Proof.Machine
end

