-- ==== Sys2Proof/Machine/Trips.lean ====
section
/-! DEFINITION. The trip unit (chapter 7): the latch and what every block does at it, causes added, the
overcurrent and cell-overvoltage checks of a scan, the external input, and TRIP_CLEAR. The retard
timeout stands here too, for it raises a cause (R87). -/

namespace Sys2Proof.Machine

/-- A TRIP event, which the recorder takes as its TRIP trigger (R154, R165). The idle flag is read
before the latch acts on the bridges, so the trigger comes first. -/
def State.tripEvent (s : State) : State :=
  (s.trigger .trip).raise (.trip (s.trip.firstOut.getD .overcurrent) s.trip.causes s.trip.tick)

/-- A cause latches a trip: the trip unit's steps, and at the same event every bridge becomes LOCKOUT
and every channel is flushed (R150, R153). -/
def State.latchTrip (s : State) (cause : TripCause) : State :=
  (((s.mapTrip (fun x =>
    { x with
      latched := true
      firstOut := some cause
      causes := addBit 0 cause.bit
      tick := s.counter
      breakerTrip := true })).tripEvent.forAll Index.all (fun b t => t.lockoutBridge b)).forAll
    Index.all (fun c t => t.tripFlush c))

/-- A cause raised: it latches a trip where none is latched, and otherwise joins the cause set, with a
TRIP event, if the set does not hold it (R150, R151). -/
def State.raiseCause (s : State) (cause : TripCause) : State :=
  if s.trip.latched then
    if hasBit s.trip.causes cause.bit then s
    else (s.mapTrip (fun x => { x with causes := addBit x.causes cause.bit })).tripEvent
  else s.latchTrip cause

/-- A scan count after one scan: up to 2 while the limit is exceeded, 0 otherwise (R139, R148). -/
def scanCount (count : Nat) (exceeds : Bool) : Nat := if exceeds then countUp count 2 else 0

/-- The count becomes 2 at this scan, which raises the cause (R139, R148). -/
def completesRun (count : Nat) (exceeds : Bool) : Bool := exceeds && count == 1

/-- A bridge's scan current exceeds I_TRIP_b (R148). -/
def State.overTrip (s : State) (b : Index) : Bool :=
  decide ((s.settings.iTrip.get b : Int) < s.scanner.i.get b)

/-- The overcurrent check of one bridge at a scan (R148). -/
def State.overcurrentScan (s : State) (b : Index) : State :=
  let count := s.trip.overcurrentScans.get b
  let exceeds := s.overTrip b
  let t := s.mapTrip (fun x =>
    { x with overcurrentScans := x.overcurrentScans.set b (scanCount count exceeds) })
  if completesRun count exceeds then t.raiseCause .overcurrent else t

/-- A stack's cell voltage exceeds VCELL_TRIP (R139). -/
def State.overVoltage (s : State) (c : Index) : Bool :=
  decide ((s.settings.vcellTrip : Int) < s.scanner.vCell.get c)

/-- The cell-overvoltage check of one channel at a scan (R139). -/
def State.overvoltageScan (s : State) (c : Index) : State :=
  let count := (s.channels.get c).overvoltageScans
  let exceeds := s.overVoltage c
  let t := s.mapChannel c (fun k => { k with overvoltageScans := scanCount count exceeds })
  if completesRun count exceeds then t.raiseCause .cellOvervoltage else t

/-- EXTTRIP seen high: EXTERNAL is raised where the line was low before (R149). -/
def State.externalHigh (s : State) : State :=
  if s.trip.externalHigh then s
  else (s.mapTrip (fun x => { x with externalHigh := true })).raiseCause .external

/-- EXTTRIP seen low (R149). -/
def State.externalLow (s : State) : State :=
  s.mapTrip (fun x => { x with externalHigh := false })

/-- One of the conditions that hold TRIP_CLEAR back stands: EXTTRIP high, a cell voltage above
VCELL_TRIP, or the monitor not NORMAL (R155). -/
def State.clearHeldBack (s : State) : Bool :=
  s.trip.externalHigh || Index.all.any s.overVoltage || s.monitor.state != .normal

/-- The frequency-excursion timer and flag restarted (R64). -/
def Monitor.excursionCleared (m : Monitor) : Monitor :=
  { m with excursionTimer := 0, excursionTripped := false }

/-- An accepted TRIP_CLEAR that finds a trip latched (R156, R157). -/
def State.clearTrip (s : State) : State :=
  ((s.mapTrip (fun x =>
    { x with
      causes := 0
      latched := false
      breakerTrip := false
      overcurrentScans := .fill 0 })).mapMonitor Monitor.excursionCleared).forAll Index.all
    (fun b t => t.unlockBridge b)

/-! ## Turn boundaries at the firing unit -/

/-- A RETARDING bridge counts a turn boundary (R87). -/
def State.countRetard (s : State) (b : Index) : State :=
  s.mapBridge b (fun r => { r with retardTurns := r.retardTurns + 1 })

/-- RETARD_TIMEOUT is raised for a RETARDING bridge whose count, with this boundary in it, stands at
RETARD_LIMIT or beyond (R87). -/
def State.timeRetard (s : State) (b : Index) : State :=
  if s.bridgeState b = .retarding ∧ s.settings.retardLimit ≤ (s.bridges.get b).retardTurns then
    s.raiseCause .retardTimeout
  else s

/-- A turn boundary at one bridge: a RETARDING bridge counts it, and a HELD bridge clears STEP. `exempt`
holds for a bridge whose STEP cause the step carrying this boundary set (R98). -/
def State.bridgeTurn (s : State) (b : Index) (exempt : Bool) : State :=
  match s.bridgeState b with
  | .retarding => s.countRetard b
  | .held => if exempt then s else s.clearHeld b .step
  | .blocked | .deblocking | .running | .lockout => s

end Sys2Proof.Machine
end

