-- ==== Sys2Proof/Machine/Monitor.lean ====
section
/-! DEFINITION. The ride-through monitor (chapter 3): the envelope limits, episodes and what each state
does at a scan and at a millisecond tick, the recent-episode list, the frequency band, the
ride-through caps and the hold request. -/

namespace Sys2Proof.Machine

/-! ## Envelope tables -/

/-- The limit between two points, truncated toward the earlier point's level (R50). -/
def limitBetween (p q : EnvelopePoint) (t : Nat) : Nat :=
  ((p.level : Int) + Int.tdiv (((q.level : Int) - (p.level : Int)) * ((t : Int) - (p.time : Int)))
    ((q.time : Int) - (p.time : Int))).toNat

/-- The limit of a table at an elapsed time (R50). -/
def limitAt : List EnvelopePoint → Nat → Nat
  | [], _ => 0
  | [p], _ => p.level
  | p :: q :: rest, t => if t < q.time then limitBetween p q t else limitAt (q :: rest) t

/-- The level of a table's last point, which holds after it (R50, R60). -/
def lastLevel (table : List EnvelopePoint) : Nat := (table.getLast?.map (fun p => p.level)).getD 0

/-- The times strictly increase from point to point (R48). -/
def timesRise (table : List EnvelopePoint) : Bool :=
  (table.zip table.tail).all (fun x => decide (x.1.time < x.2.time))

/-- The levels do not decrease (R48). -/
def levelsRise (table : List EnvelopePoint) : Bool :=
  (table.zip table.tail).all (fun x => decide (x.1.level ≤ x.2.level))

/-- The levels do not increase (R48). -/
def levelsFall (table : List EnvelopePoint) : Bool :=
  (table.zip table.tail).all (fun x => decide (x.2.level ≤ x.1.level))

/-- Every point lies within the ranges of R48. -/
def pointsInRange (table : List EnvelopePoint) : Bool :=
  table.all (fun p => decide (p.time ≤ 60000) && decide (p.level ≤ Config.gridLevelMax))

/-- The rules both tables share: points in range, the first at time 0, times rising (R48). -/
def tableForm (table : List EnvelopePoint) : Bool :=
  pointsInRange table && (table.head?.map (fun p => p.time)) == some 0 && timesRise table

/-- A valid LOW table of an allowed number of points (R48). -/
def validLow (dipStart : Nat) (table : List EnvelopePoint) : Bool :=
  decide (2 ≤ table.length) && decide (table.length ≤ 8) && tableForm table && levelsRise table &&
    decide (lastLevel table ≤ dipStart)

/-- A valid HIGH table of an allowed number of points (R48). -/
def validHigh (swellStart : Nat) (table : List EnvelopePoint) : Bool :=
  decide (2 ≤ table.length) && decide (table.length ≤ 4) && tableForm table && levelsFall table &&
    decide (swellStart ≤ lastLevel table)

/-! ## The episode record -/

/-- The episode record changed, where there is one. -/
def Monitor.mapEpisode (m : Monitor) (f : Episode → Episode) : Monitor :=
  { m with episode := m.episode.map f }

/-- A cause among the causes raised sets the tripped flag (R54). -/
def Episode.withCause (e : Episode) (c : TripCause) : Episode :=
  { e with causes := addBit e.causes c.bit, tripped := true }

/-- The extreme level after a scan: the lowest of a LOW episode, the highest of a HIGH one (R54, R55). -/
def Episode.noteLevel (e : Episode) (g : Nat) : Episode :=
  match e.kind with
  | .low => { e with extreme := min e.extreme g }
  | .high => { e with extreme := max e.extreme g }

/-- The scan's grid level joins the extreme level (R54, R55, R60). -/
def State.noteLevel (s : State) : State :=
  s.mapMonitor (fun m => m.mapEpisode (fun e => e.noteLevel s.scanner.g))

/-- An envelope cause is raised where its limit is breached and the episode has not raised it yet
(R54, R55, R60, R71). -/
def State.breach (s : State) (cause : TripCause) (breached : Bool) : State :=
  match s.monitor.episode with
  | none => s
  | some e =>
    if breached && !hasBit e.causes cause.bit then
      (s.raiseCause cause).mapMonitor (fun m => m.mapEpisode (fun x => x.withCause cause))
    else s

/-- An EPISODE event of the record as it stands (R53, R58, R59). -/
def State.episodeEvent (s : State) (ended : Bool) : State :=
  match s.monitor.episode with
  | none => s
  | some e => s.raise (.episode ended e.kind e.outcome e.extreme e.tripped)

/-! ## The hold request -/

/-- The hold request turns on, and the firing unit takes it at the same event (R70, R88). -/
def State.turnHoldOn (s : State) : State :=
  (s.mapMonitor (fun m => { m with holdRequest := true })).forAll Index.all
    (fun b t => t.holdRequestOn b)

/-- The hold request turns off where it is on: the cause DIP clears on every bridge (R70, R90). -/
def State.turnHoldOff (s : State) : State :=
  if s.monitor.holdRequest then
    (s.mapMonitor (fun m => { m with holdRequest := false })).forAll Index.all
      (fun b t => t.clearHeld b .dip)
  else s

/-- The hold request at a scan in LOW (R70). -/
def State.updateHold (s : State) : State :=
  if s.monitor.holdRequest then
    if s.settings.holdLevel + Config.holdHysteresis ≤ s.scanner.g then s.turnHoldOff else s
  else if 0 < s.settings.holdLevel ∧ s.scanner.g < s.settings.holdLevel then s.turnHoldOn
  else s

/-! ## The ride-through caps -/

/-- A DIP cap for a channel of reference `refStart` at grid level g (R66, R67). -/
def dipCap (refStart g capFloor : Nat) : Nat := refStart * max g capFloor / 1000

/-- ref_start and the caps fixed at a LOW start (R66). -/
def State.fixCaps (s : State) : State :=
  let ref := Four.tabulate s.effectiveReference
  s.mapMonitor (fun m =>
    { m with
      refStart := ref
      cap := ref.map (fun r =>
        if 0 < r then some ⟨.dip, dipCap r s.scanner.g s.settings.capFloor⟩ else none) })

/-- A DIP cap changes to RAMP mode and keeps its value (R68). -/
def RideCap.toRamp (k : RideCap) : RideCap := { k with mode := .ramp }

/-- Every DIP cap starts its recovery ramp (R68). -/
def Monitor.rampCaps (m : Monitor) : Monitor :=
  { m with cap := m.cap.map (fun k => k.map RideCap.toRamp) }

/-- One cap at a millisecond tick: a DIP cap follows g in LOW, and a RAMP cap rises and is removed at
ref_start (R67, R68). -/
def capTick (low : Bool) (g capFloor rate refStart : Nat) (k : RideCap) : Option RideCap :=
  match k.mode with
  | .dip => some (if low then { k with value := dipCap refStart g capFloor } else k)
  | .ramp => if refStart ≤ k.value + rate then none else some { k with value := k.value + rate }

/-- The caps at a millisecond tick (R67, R68). -/
def State.capsTick (s : State) : State :=
  s.mapMonitor (fun m =>
    { m with
      cap := Four.tabulate (fun c =>
        (m.cap.get c).bind (capTick (m.state == .low) s.scanner.g s.settings.capFloor
          s.settings.recoveryRate (m.refStart.get c))) })

/-! ## Episode starts -/

/-- The recent-episode list with the entries beyond REPEAT_WINDOW removed (R62). -/
def prunedRecent (window : Nat) (recent : List RecentEpisode) : List RecentEpisode :=
  recent.filter (fun x => decide (x.age < window * 1000))

/-- The recent-episode list stands full at an episode start (R62). -/
def State.recentFull (s : State) : Bool :=
  decide (s.settings.repeatMax ≤ (prunedRecent s.settings.repeatWindow s.monitor.recent).length)

/-- Step 1 of R53: the list updated, and REPEAT raised where it is full (R62). -/
def State.listStart (s : State) : State :=
  let pruned := prunedRecent s.settings.repeatWindow s.monitor.recent
  let kept := if s.recentFull then pruned.tail else pruned
  let t := if s.recentFull then s.raiseCause .repeated else s
  t.mapMonitor (fun m => { m with recent := kept ++ [⟨s.scanner.scanTick, 0⟩] })

/-- The record of a new episode (R53, step 2). -/
def State.newEpisode (s : State) (kind : EpisodeKind) (repeated : Bool) : Episode :=
  let e : Episode := ⟨kind, s.scanner.scanTick, s.scanner.g, .opened, false, 0⟩
  if repeated then e.withCause .repeated else e

/-- The monitor state of an episode's kind. -/
def EpisodeKind.state (k : EpisodeKind) : MonitorState :=
  match k with
  | .low => .low
  | .high => .high

/-- Steps 2 to 5 of R53: the record, the state, the caps of a LOW start, and the EPISODE event. -/
def State.startEpisode (s : State) (kind : EpisodeKind) (repeated : Bool) : State :=
  let t := s.mapMonitor (fun m =>
    { m with
      episode := some (s.newEpisode kind repeated)
      elapsedTime := 0
      recoveryTimer := 0
      state := kind.state })
  let u := match kind with | .low => t.fixCaps | .high => t
  (u.trigger .episodeStart).episodeEvent false

/-! ## Scans -/

/-- The grid level lies in the recovery band DIP_END..SWELL_END (R57). -/
def State.inBand (s : State) : Bool :=
  decide (s.settings.dipEnd ≤ s.scanner.g) && decide (s.scanner.g ≤ s.settings.swellEnd)

/-- The return to NORMAL from RECOVERING or LONG (R59). -/
def State.endEpisode (s : State) : State :=
  (s.mapMonitor (fun m =>
    { (m.mapEpisode (fun e =>
        { e with outcome := if m.state = .long then .sustained else .recovered })) with
      state := .normal, recoveryTimer := 0 })).episodeEvent true

/-- The recovery timer at a scan in RECOVERING or LONG, and the return where RECOVER_TIME is 0
(R57, R59). -/
def State.recoveryScan (s : State) : State :=
  if s.inBand then
    if s.settings.recoverTime = 0 then s.endEpisode else s
  else s.mapMonitor (fun m => { m with recoveryTimer := 0 })

/-- The entry to RECOVERING (R57). -/
def State.enterRecovering (s : State) : State :=
  (s.mapMonitor (fun m =>
    { m.rampCaps with state := .recovering, recoveryTimer := 0 })).turnHoldOff

/-- A scan's level back past the end threshold of LOW or of HIGH enters RECOVERING (R54, R55). -/
def State.recoverFrom (s : State) (kind : EpisodeKind) : State :=
  let back := match kind with
    | .low => decide (s.settings.dipEnd ≤ s.scanner.g)
    | .high => decide (s.scanner.g ≤ s.settings.swellEnd)
  if back then s.enterRecovering else s

/-- The recovery timer's rule for the scan that enters RECOVERING (R59). -/
def State.recoveryAtEntry (s : State) : State :=
  if s.monitor.state = .recovering then s.recoveryScan else s

/-- The limit of LOW or of HIGH tested at the elapsed time (R54, R55). -/
def State.testLimit (s : State) (kind : EpisodeKind) : State :=
  match kind with
  | .low =>
    s.breach .envelopeLow
      (decide (s.scanner.g < limitAt s.monitor.lowTable s.monitor.elapsedTime))
  | .high =>
    s.breach .envelopeHigh
      (decide (limitAt s.monitor.highTable s.monitor.elapsedTime < s.scanner.g))

/-- The last level of a table tested in LONG (R60). -/
def State.testLastLevel (s : State) (kind : EpisodeKind) : State :=
  match kind with
  | .low => s.breach .envelopeLow (decide (s.scanner.g < lastLevel s.monitor.lowTable))
  | .high => s.breach .envelopeHigh (decide (lastLevel s.monitor.highTable < s.scanner.g))

/-- The steps of a scan in LOW or in HIGH, in the order of R54 and R55; the hold request is a sag's
(R70). -/
def scanSteps (kind : EpisodeKind) : List (State → State) :=
  match kind with
  | .low =>
    [State.noteLevel, (State.testLimit · .low), State.updateHold, (State.recoverFrom · .low),
      State.recoveryAtEntry]
  | .high =>
    [State.noteLevel, (State.testLimit · .high), (State.recoverFrom · .high), State.recoveryAtEntry]

/-- The kind of the episode a scan's level starts, if any (R52, R58). -/
def State.episodeDue (s : State) : Option EpisodeKind :=
  if s.scanner.g < s.settings.dipStart then some .low
  else if s.settings.swellStart < s.scanner.g then some .high
  else none

/-- The episode under way ends with outcome SUPERSEDED (R58). -/
def State.supersede (s : State) : State :=
  (s.mapMonitor (fun m =>
    m.mapEpisode (fun e => { e with outcome := .superseded }))).episodeEvent true

/-- The steps by which a scan starts an episode, and the new state's own at elapsed time 0 (R52, R53). -/
def State.openingSteps (s : State) (kind : EpisodeKind) : List (State → State) :=
  [State.listStart, (State.startEpisode · kind s.recentFull)] ++ scanSteps kind

/-- The steps of the monitor's share of a scan (R52 to R60). Each takes effect before the next, a trip
that it latches included (R71), and each is one event for the recorder (R175). -/
def State.monitorSteps (s : State) : List (State → State) :=
  match s.monitor.state with
  | .normal => match s.episodeDue with | some kind => s.openingSteps kind | none => []
  | .low => scanSteps .low
  | .high => scanSteps .high
  | .recovering =>
    match s.episodeDue with
    | some kind => State.supersede :: s.openingSteps kind
    | none => [State.recoveryScan]
  | .long =>
    [State.noteLevel, (State.testLastLevel · .low), (State.testLastLevel · .high),
      State.recoveryScan]

/-! ## Millisecond ticks -/

/-- The ages of the recent episodes after a millisecond tick (R62). -/
def Monitor.agesTick (m : Monitor) : Monitor :=
  { m with recent := m.recent.map (fun x => { x with age := countUp x.age Config.ageMax }) }

/-- The entry to LONG (R56). -/
def State.enterLong (s : State) : State :=
  (s.mapMonitor (fun m =>
    { (m.rampCaps.mapEpisode (fun e => { e with outcome := .sustained })) with
      state := .long, recoveryTimer := 0 })).turnHoldOff

/-- The elapsed time at a millisecond tick in LOW or HIGH, and the entry to LONG (R51, R56). -/
def State.elapsedTick (s : State) : State :=
  let t := s.mapMonitor (fun m => { m with elapsedTime := m.elapsedTime + 1 })
  if s.settings.episodeMax ≤ t.monitor.elapsedTime then t.enterLong else t

/-- The recovery timer at a millisecond tick in RECOVERING or LONG, and the return to NORMAL
(R57, R59). -/
def State.recoveryTick (s : State) : State :=
  if s.inBand then
    let t := s.mapMonitor (fun m => { m with recoveryTimer := m.recoveryTimer + 1 })
    if 0 < s.settings.recoverTime ∧ s.settings.recoverTime ≤ t.monitor.recoveryTimer then
      t.endEpisode
    else t
  else s

/-- The monitor's episode share of a millisecond tick: ages, caps, and the state's own count. A tick
that enters LONG finds the caps in DIP mode and the timer at 0 and leaves them so (R51, R56, R57, R62,
R67, R68). -/
def State.episodeTick (s : State) : State :=
  let t := (s.mapMonitor Monitor.agesTick).capsTick
  match s.monitor.state with
  | .normal => t
  | .low | .high => t.elapsedTick
  | .recovering | .long => t.recoveryTick

/-- The frequency stands outside the band F_LOW..F_HIGH (R64). -/
def State.frequencyOutside (s : State) (f : Nat) : Bool :=
  decide (f < s.settings.fLow) || decide (s.settings.fHigh < f)

/-- The frequency share of a millisecond tick (R64, R65). -/
def State.frequencyTick (s : State) : State :=
  match s.sync.frequency with
  | none => s.mapMonitor Monitor.excursionCleared
  | some f =>
    if s.frequencyOutside f then
      if s.monitor.excursionTripped then s
      else
        let n := s.monitor.excursionTimer + 1
        let t := s.mapMonitor (fun m => { m with excursionTimer := n })
        if s.settings.fDelay ≤ n then
          (t.raiseCause .frequency).mapMonitor (fun m => { m with excursionTripped := true })
        else t
    else s.mapMonitor Monitor.excursionCleared

end Sys2Proof.Machine
end

