-- ==== Sys2Proof/Machine/Synchroniser.lean ====
section
/-! DEFINITION. The line synchroniser (chapter 2): acquisition, windows and corrections, coasting and
re-anchoring, and what each change of the sync state or of the anchor does to the other blocks. -/

namespace Sys2Proof.Machine

/-! ## Crossing identities -/

/-- The identity of an edge on a line (Table 1-3). -/
def crossingOf (line : Line) (rising : Bool) : Crossing :=
  match line, rising with
  | .ab, true => .abRise
  | .ca, false => .caFall
  | .bc, true => .bcRise
  | .ab, false => .abFall
  | .ca, true => .caRise
  | .bc, false => .bcFall

/-- The nominal angle θk of an identity, in cd (Table 1-3). -/
def Crossing.angle (k : Crossing) : Nat :=
  match k with
  | .abRise => 0
  | .caFall => 6000
  | .bcRise => 12000
  | .abFall => 18000
  | .caRise => 24000
  | .bcFall => 30000

/-- The crossing that follows `k` in the active crossing set (R28). -/
def nextCrossing (set : CrossingSet) (k : Crossing) : Crossing :=
  match set, k with
  | .all6, .abRise => .caFall
  | .all6, .caFall => .bcRise
  | .all6, .bcRise => .abFall
  | .all6, .abFall => .caRise
  | .all6, .caRise => .bcFall
  | .all6, .bcFall => .abRise
  | .abOnly, .abRise => .abFall
  | .abOnly, .caFall => .abFall
  | .abOnly, .bcRise => .abFall
  | .abOnly, .abFall => .abRise
  | .abOnly, .caRise => .abRise
  | .abOnly, .bcFall => .abRise

/-- The nominal advance Δθ from one identity to another; 0 is read as a full turn (R27). -/
def nominalAdvance (k prev : Crossing) : Nat := distanceAhead prev.angle k.angle

/-- The window of crossing `k`, when it becomes current (R30). -/
def windowFor (st : Settings) (k : Crossing) : Window :=
  ⟨k, wrapAngle ((k.angle : Int) - (st.syncWindow : Int)),
    wrapAngle ((k.angle : Int) + (st.syncWindow : Int)), .waiting⟩

/-- The period clamped into its range (R22). -/
def clampPeriod (p : Int) : Nat := (clampInt p Config.periodMin Config.periodMax).toNat

/-- A period lies within its range (R22). -/
def periodInRange (p : Int) : Bool :=
  decide ((Config.periodMin : Int) ≤ p) && decide (p ≤ (Config.periodMax : Int))

/-! ## What an arrival does to the synchroniser -/

/-- The anchor set at an arrival: A = t and θA (R26, R27, R32, R37). -/
def Sync.anchorAt (y : Sync) (a : Arrival) (angle : Nat) : Sync :=
  { y with
    anchorTick := a.tick, anchorAngle := angle, previous := some a, unanchored := false,
    turn := .unmarked }

/-- An arrival while unanchored, or the first in LOST: it anchors the phase at its nominal angle with
P_nom (R26, R39). -/
def Sync.anchored (y : Sync) (st : Settings) (a : Arrival) : Sync :=
  { y.anchorAt a a.crossing.angle with period := st.nominalPeriod, good := 0 }

/-- The period estimate from the previous arrival (R27). -/
def periodEstimate (prev a : Arrival) : Nat :=
  roundNat ((a.tick - prev.tick).toNat * fullTurn) (nominalAdvance a.crossing prev.crossing)

/-- A mismatch in ACQUIRING (R27). -/
def Sync.mismatched (y : Sync) (a : Arrival) : Sync :=
  { y.anchorAt a a.crossing.angle with
    good := 0, mismatch := countUp y.mismatch Config.countMax }

/-- A bad acquisition arrival (R29). -/
def Sync.badAcquisition (y : Sync) (a : Arrival) (est : Nat) : Sync :=
  { y.anchorAt a a.crossing.angle with period := est, good := 0, frequencyLimit := false }

/-- A good acquisition arrival; the good count reaching LOCK_COUNT makes the state LOCKED and the next
window current (R28). -/
def Sync.goodAcquisition (y : Sync) (st : Settings) (a : Arrival) (est : Nat) : Sync :=
  let z :=
    { y.anchorAt a a.crossing.angle with
      period := roundNat (y.period + est) 2, good := y.good + 1, frequencyLimit := false }
  if z.good = st.lockCount then
    { z with
      state := .locked, bad := 0,
      window := some (windowFor st (nextCrossing st.crossSet a.crossing)) }
  else z

/-- An arrival in ACQUIRING (R26 to R29). -/
def Sync.acquire (y : Sync) (st : Settings) (a : Arrival) : Sync :=
  match y.phaseAt a.tick, y.previous with
  | some θ, some prev =>
    let est := periodEstimate prev a
    if periodInRange est then
      if |signedAngle θ a.crossing.angle| ≤ (st.syncWindow : Int) then y.goodAcquisition st a est
      else y.badAcquisition a est
    else y.mismatched a
  | _, _ => y.anchored st a

/-- The phase error e of an arrival against the phase θ (R27, R32). -/
def phaseError (θ : Nat) (k : Crossing) : Int := signedAngle θ k.angle

/-- The phase correction of a good arrival: round(e / 2^PHASE_K) (R32). -/
def phaseCorrection (st : Settings) (e : Int) : Int := roundInt e (2 ^ st.phaseK)

/-- The period before clamping that a good arrival computes (R32). -/
def correctedPeriod (st : Settings) (period : Nat) (e : Int) : Int :=
  (period : Int) + roundInt (roundInt (e * (period : Int)) fullTurn) (2 ^ st.periodK)

/-- A good arrival in LOCKED: the correction of anchor and period, the bad count 0, the window CONSUMED
(R22, R32). -/
def Sync.corrected (y : Sync) (st : Settings) (a : Arrival) (θ : Nat) (w : Window) : Sync :=
  let e := phaseError θ a.crossing
  let p := correctedPeriod st y.period e
  { y.anchorAt a (wrapAngle ((θ : Int) - phaseCorrection st e)) with
    period := clampPeriod p
    frequencyLimit := !periodInRange p
    bad := 0
    window := some { w with status := .consumed } }

/-- A stray arrival: the stray count rises and the arrival becomes the previous one (R33). -/
def Sync.strayed (y : Sync) (a : Arrival) : Sync :=
  { y with stray := countUp y.stray Config.countMax, previous := some a }

/-- An arrival is consistent with the previous one in COAST (R36). -/
def consistentWith (st : Settings) (period : Nat) (prev a : Arrival) : Bool :=
  decide (|((roundNat ((a.tick - prev.tick).toNat * fullTurn) period : Nat) : Int) -
      ((nominalAdvance a.crossing prev.crossing : Nat) : Int)| ≤ (st.syncWindow : Int))

/-- The chain of COAST after an arrival that does not re-anchor (R36). -/
def Sync.chained (y : Sync) (st : Settings) (a : Arrival) : Sync :=
  match y.previous with
  | none => { y with previous := some a }
  | some prev =>
    if consistentWith st y.period prev a then
      { y with consistency := y.consistency + 1, previous := some a }
    else { y with consistency := 0, previous := some a }

/-- The re-anchor: the step recorded, the anchor at the nominal angle, LOCKED, counts 0, and the window
of the crossing after it current (R37). -/
def Sync.reanchored (y : Sync) (st : Settings) (a : Arrival) (delta : Int) : Sync :=
  { y.anchorAt a a.crossing.angle with
    lastStep := some delta
    state := .locked
    bad := 0
    consistency := 0
    window := some (windowFor st (nextCrossing st.crossSet a.crossing)) }

/-- The entry to ACQUIRING with the unanchored flag set (R25). -/
def Sync.restarted (y : Sync) (st : Settings) : Sync :=
  { y with
    state := .acquiring
    unanchored := true
    good := 0
    bad := 0
    consistency := 0
    coastTurns := 0
    previous := none
    window := none
    period := st.nominalPeriod
    frequencyLimit := false
    turn := .unmarked }

/-! ## What the other blocks do at a change of the sync state -/

/-- A SYNC event: the recorder takes the leaving of LOCKED as a trigger, the link unit gets the event,
the firing unit blocks bridges, and the monitor restarts its excursion timer (R40, R64, R92, R165).
`old` is the state before, `delta` the step of a re-anchor. -/
def State.syncEvent (s : State) (old : SyncState) (delta : Option Int) : State :=
  let new := s.sync.state
  let s1 := if old = .locked ∧ new ≠ .locked then s.trigger .syncLeftLocked else s
  let s2 := s1.raise (.sync new delta)
  match new with
  | .acquiring | .lost =>
    (s2.mapMonitor Monitor.excursionCleared).forAll Index.all (fun b t => t.phaseLost b)
  | .coast => if old = .locked then s2.forAll Index.all (fun b t => t.coastBegins b) else s2
  | .locked => s2

/-- The synchroniser's restart, by SYNC_RESTART or a change of F_NOM or CROSS_SET (R25, R43, R44). -/
def State.restartSync (s : State) : State :=
  (s.mapSync (fun y => y.restarted s.settings)).syncEvent s.sync.state none

/-! ## Turn boundaries -/

/-- The orders of the four bridges, counted by `k` (R99). -/
def bridgeOrder (k : Nat) : List Index := inOrder k Index.all

/-- The firing unit takes a turn boundary: every RETARDING bridge counts it and every HELD bridge clears
STEP, and only then is RETARD_TIMEOUT raised where a count reaches its limit, so that its latch keeps
no bridge from counting (R87, R98). -/
def State.firingTurn (s : State) (order : List Index) (exempt : Index → Bool) : State :=
  (s.forAll order (fun b t => t.bridgeTurn b (exempt b))).forAll order (fun b t => t.timeRetard b)

/-- The synchroniser takes a turn boundary reached by running: in COAST the turn count rises, and at
COAST_LIMIT the state becomes LOST (R38). -/
def State.syncTurn (s : State) : State :=
  if s.sync.state = .coast then
    let n := s.sync.coastTurns + 1
    if s.settings.coastLimit ≤ n then
      (s.mapSync (fun y =>
        { y with
          coastTurns := n, state := .lost, unanchored := true, previous := none,
          window := none })).syncEvent .coast none
    else s.mapSync (fun y => { y with coastTurns := n })
  else s

/-- The two parts of a turn boundary reached by running. -/
inductive TurnShare where
  | synchroniser
  | firing
  deriving DecidableEq, Repr

/-- One part of a turn boundary. -/
def State.turnShare (s : State) (order : List Index) (x : TurnShare) : State :=
  match x with
  | .synchroniser => s.syncTurn
  | .firing => s.firingTurn order (fun _ => false)

/-- A turn boundary reached by running, at the tick it is reached: the synchroniser and the firing unit
take it, in either order (R24, R38, R98). -/
def State.turnReached (s : State) (k : Nat) : State :=
  (inOrder (k % 2) [TurnShare.synchroniser, TurnShare.firing]).foldl
    (fun t x => t.turnShare (bridgeOrder (k / 2)) x)
    (s.mapSync (fun y => { y with turn := .taken s.elapsed }))

/-- A turn boundary taken: time runs to it, where the phase is present (R24). -/
def State.takeTurn (s : State) (k : Nat) : State :=
  if s.phase.isSome then s.runToTurn.turnReached k else s

/-! ## Steps -/

/-- A forward step from `old` to `new` reaches 0, and so carries a turn boundary (R21, R24). -/
def carriesTurn (old new : Nat) (size : Int) : Bool := decide (0 < size) && swept old new 0

/-- The two parts of a correction step at the firing unit. -/
inductive StepShare where
  | firings
  | turn
  deriving DecidableEq, Repr

/-- One part of a correction step. -/
def State.stepShare (s : State) (order : List Index) (old new : Nat) (size : Int) (x : StepShare) :
    State :=
  match x with
  | .firings =>
    if 0 < size then s.forAll order (fun b t => t.correctionFiring b old new) else s
  | .turn => if carriesTurn old new size then s.firingTurn order (fun _ => false) else s

/-- A correction step from `old` to `new`: it fires the due angles it sweeps and carries the turn
boundary it reaches, in either order (R21, R79, R98, R99). -/
def State.correctionStep (s : State) (k : Nat) (old new : Nat) : State :=
  (inOrder (k % 2) [StepShare.firings, StepShare.turn]).foldl
    (fun t x => t.stepShare (bridgeOrder (k / 2)) old new (signedAngle new old) x) s

/-- A bridge's STEP cause is set, or set again, by a re-anchor step beyond STEP_LIMIT or one that sweeps
its due angle; `s` is the state before the step (R96, R97, R98). -/
def State.stepSets (s : State) (old new : Nat) (delta : Int) (b : Index) : Bool :=
  let beyond := decide ((s.settings.stepLimit : Int) < |delta|)
  match s.bridgeState b with
  | .held => beyond
  | .running =>
    beyond ||
      (decide (0 < delta) &&
        match (s.bridges.get b).next with
        | none => false
        | some n => swept old new n.due)
  | .blocked | .deblocking | .retarding | .lockout => false

/-- A re-anchor step: holds and blocks first, then the turn boundary the step carries, from which the
causes it set are exempt (R96, R97, R98). -/
def State.reanchorStepAll (s : State) (k : Nat) (old new : Nat) (delta : Int) : State :=
  let t := s.forAll (bridgeOrder (k / 2)) (fun b t => t.reanchorStep b old new delta)
  if carriesTurn old new delta then
    t.firingTurn (bridgeOrder (k / 2)) (s.stepSets old new delta)
  else t

/-! ## Arrivals -/

/-- An arrival in LOCKED: good where it is the expected crossing of the OPEN window, else stray
(R32, R33). -/
def State.arriveLocked (s : State) (k : Nat) (a : Arrival) : State :=
  match s.sync.window, s.sync.phaseAt a.tick with
  | some w, some θ =>
    if w.status = .opened ∧ a.crossing = w.expected then
      let t := s.mapSync (fun y =>
        let z := y.corrected s.settings a θ w
        { z with turn := s.turnAfterStep (signedAngle z.anchorAngle θ) })
      t.correctionStep k θ t.sync.anchorAngle
    else s.mapSync (fun y => y.strayed a)
  | _, _ => s.mapSync (fun y => y.strayed a)

/-- The re-anchor as part of an arrival's event (R37, R40). A passage of 0 that the frozen phase made at
this tick, and that is not yet taken, no longer occurs (R38). -/
def State.reanchor (s : State) (k : Nat) (a : Arrival) (θ : Nat) : State :=
  let delta := signedAngle a.crossing.angle θ
  ((s.mapSync (fun y => y.reanchored s.settings a delta)).reanchorStepAll k θ a.crossing.angle
    delta).syncEvent .coast (some delta)

/-- An arrival in COAST: the chain, and the re-anchor where a consistent arrival brings the consistency
count to REANCHOR_COUNT (R36, R37). -/
def State.arriveCoast (s : State) (k : Nat) (a : Arrival) : State :=
  let t := s.mapSync (fun y => y.chained s.settings a)
  match s.sync.phaseAt a.tick with
  | none => t
  | some θ =>
    if s.sync.consistency < t.sync.consistency ∧
        t.sync.consistency = s.settings.reanchorCount then
      s.reanchor k a θ
    else t

/-- An arrival in ACQUIRING, with the SYNC event of the lock (R26 to R29, R40). -/
def State.arriveAcquiring (s : State) (a : Arrival) : State :=
  let t := s.mapSync (fun y => y.acquire s.settings a)
  if t.sync.state = .locked then t.syncEvent .acquiring none else t

/-- The first arrival in LOST (R39). -/
def State.arriveLost (s : State) (a : Arrival) : State :=
  (s.mapSync (fun y =>
    { y.anchored s.settings a with
      state := .acquiring, bad := 0, consistency := 0 })).syncEvent .lost none

/-- The synchroniser takes an arrival (R16, R26 to R39). -/
def State.arrive (s : State) (k : Nat) (a : Arrival) : State :=
  match s.sync.state with
  | .acquiring => s.arriveAcquiring a
  | .locked => s.arriveLocked k a
  | .coast => s.arriveCoast k a
  | .lost => s.arriveLost a

/-! ## Windows -/

/-- The tracked phase reaches the opening angle of a WAITING window (R30). -/
def State.openWindow (s : State) : State :=
  match s.sync.window with
  | some w =>
    if s.sync.state = .locked ∧ w.status = .waiting then
      (s.runToAngle w.opening).mapSync (fun y =>
        { y with window := some { w with status := .opened } })
    else s
  | none => s

/-- The entry to COAST at the miss that brings the bad count to LOSS_COUNT (R35). -/
def State.enterCoast (s : State) : State :=
  (s.mapSync (fun y =>
    { y with
      state := .coast, bad := s.settings.lossCount, consistency := 0, coastTurns := 0,
      previous := none, window := none })).syncEvent .locked none

/-- The window of the crossing after `k` becomes current (R31). -/
def Sync.followingWindow (y : Sync) (st : Settings) (k : Crossing) : Sync :=
  { y with window := some (windowFor st (nextCrossing st.crossSet k)) }

/-- The tracked phase reaches the closing angle of an OPEN or CONSUMED window (R31, R35). A WAITING
window does not close. Where a good arrival at the tick of the close is taken first and its correction
goes back from the closing angle, the CONSUMED window closes when the running phase reaches that angle
again, and not at the same tick: a DESIGN CHOICE, for R34 and R21 can be read either way
(notes/assumptions/34.md). -/
def State.closeWindow (s : State) : State :=
  match s.sync.window with
  | some w =>
    if s.sync.state = .locked ∧ w.status ≠ .waiting then
      let t := s.runToAngle w.closing
      match w.status with
      | .opened =>
        let bad := t.sync.bad + 1
        if t.settings.lossCount ≤ bad then t.enterCoast
        else
          t.mapSync (fun y => { y with bad := bad }.followingWindow t.settings w.expected)
      | _ => t.mapSync (fun y => y.followingWindow t.settings w.expected)
    else s
  | none => s

/-- The anchor given up in ACQUIRING when no arrival came for 2^31 ticks (R27). -/
def State.giveUpAnchor (s : State) : State :=
  match s.sync.previous with
  | some a =>
    if s.sync.state = .acquiring ∧ s.sync.unanchored = false then
      (s.runUntilSince a.tick Config.longestInterval).mapSync (fun y =>
        { y with unanchored := true, previous := none, good := 0, turn := .unmarked })
    else s
  | none => s

end Sys2Proof.Machine
end

