-- ==== Sys2Proof/Machine/Scanner.lean ====
section
/-! DEFINITION. The scanner (chapter 1): the conversion of a scan and its derived values, the readers
of a scan, and the chatter guard of the crossing inputs. -/

namespace Sys2Proof.Machine

/-! ## Conversion -/

/-- A sample in thousandths of its unit as a converted value: rounded and held at the range's ends
(R7). -/
def convert (x lo hi : Int) : Int := clampInt (roundInt x 1000) lo hi

/-- A converted value stands at an end of its range (R8). -/
def atEnd (x lo hi : Int) : Bool := x == lo || x == hi

/-- A line voltage converted (Table 1-1). -/
def convertVoltage (x : Int) : Int := convert x (-Config.lineVoltageMax) Config.lineVoltageMax

/-- A bridge current converted (Table 1-1). -/
def convertCurrent (x : Int) : Int := convert x Config.currentMin Config.currentMax

/-- A stack voltage converted (Table 1-1). -/
def convertStack (x : Int) : Int := convert x 0 Config.stackVoltageMax

/-- A window with the newest square joined and the oldest left off once it holds 125 (R9). -/
def joinWindow (window : List Nat) (x : Int) : List Nat :=
  let w := window ++ [x.natAbs * x.natAbs]
  w.drop (w.length - Config.rmsWindow)

/-- The window RMS (R9). -/
def windowRms (window : List Nat) : Nat := rootMean window.sum window.length

/-- The grid level (R10). -/
def gridLevel (uNom : Nat) (rms : Three Nat) : Nat :=
  clampNat (roundNat (1000 * min (min rms.ab rms.bc) rms.ca) uNom) 0 Config.gridLevelMax

/-- The mean line voltage (R11). -/
def meanVoltage (rms : Three Nat) : Nat := roundNat (rms.ab + rms.bc + rms.ca) 3

/-- The cell voltage of a stack (R12). -/
def cellVoltage (e : Int) (cells : Nat) : Int := roundInt (e * 100) cells

/-- The values of a scan and the values derived from them, all replaced together (R7 to R12); `now` is
the elapsed count. -/
def Scanner.scanned (c : Scanner) (st : Settings) (x : Samples) (now : Nat) : Scanner :=
  let u := x.u.map convertVoltage
  let i := x.i.map convertCurrent
  let e := x.e.map convertStack
  let squares : Three (List Nat) :=
    ⟨joinWindow c.squares.ab u.ab, joinWindow c.squares.bc u.bc, joinWindow c.squares.ca u.ca⟩
  let rms := squares.map windowRms
  { c with
    scanAt := now
    u := u
    i := i
    e := e
    uSaturated := u.map (fun v => atEnd v (-Config.lineVoltageMax) Config.lineVoltageMax)
    iSaturated := i.map (fun v => atEnd v Config.currentMin Config.currentMax)
    eSaturated := e.map (fun v => atEnd v 0 Config.stackVoltageMax)
    squares := squares
    rms := rms
    g := gridLevel st.uNom rms
    uAvg := meanVoltage rms
    vCell := Four.tabulate (fun s => cellVoltage (e.get s) (st.cells.get s)) }

/-! ## The readers of a scan -/

/-- The blocks that act at a scan beside the recorder (R4). -/
inductive ScanShare where
  | monitor
  | accumulators
  | overcurrent
  | overvoltage
  deriving DecidableEq, Repr

/-- The steps of one reader's share of a scan, in their order; no other reader changes the monitor's
state, by which its steps are chosen. What one step raises and what every block does at it, a trip's
latch included, is one event (R150, R153, R175). -/
def State.shareSteps (s : State) (x : ScanShare) : List (State → State) :=
  match x with
  | .monitor => s.monitorSteps
  | .accumulators => [fun t => t.forAll Index.all (fun b u => u.accumulate b)]
  | .overcurrent => Index.all.map (fun b t => t.overcurrentScan b)
  | .overvoltage => Index.all.map (fun c t => t.overvoltageScan c)

/-- The readers of a scan beside the recorder, each of which acts once; they need no order among them
(R4). -/
def scanShares : List ScanShare := [.monitor, .accumulators, .overcurrent, .overvoltage]

/-- Steps taken one after the other. -/
def State.runSteps (s : State) (steps : List (State → State)) : State :=
  steps.foldl (fun t f => f t) s

/-- The readers of a scan act. `k` counts the 24 orders of the four shares, then the places of the
recorder's own share, which comes before or after any step of theirs: its snapshot shows a step's change
whole or not at all, and stands on the same side of the trigger the step raises (R175, Table 8-5); then
the orders in which the triggers raised before the snapshot are taken. 0 is the order R4 lists them in. -/
def State.actOnScan (s : State) (k : Nat) : State :=
  let steps := (inOrder k scanShares).flatMap s.shareSteps
  let places := steps.length + 1
  let before := steps.length - k / 24 % places
  ((s.runSteps (steps.take before)).recorderShare (k / 24 / places)).runSteps (steps.drop before)

/-- The scan completes with its values (R4). -/
def State.completeScan (s : State) (x : Samples) : State :=
  let t := s.runTo s.nextScan
  t.mapScanner (fun c => c.scanned t.settings x t.elapsed)

/-- The next scan: time runs to it, its values replace the last scan's, and its readers act (R4). -/
def State.takeScan (s : State) (x : Samples) (k : Nat) : State := (s.completeScan x).actOnScan k

/-! ## Crossing inputs -/

/-- The comparator level of a line as an edge leaves it. -/
def Scanner.seen (c : Scanner) (line : Line) (rising : Bool) : Scanner :=
  { c with level := c.level.set line rising }

/-- An edge discarded as chatter (R14). -/
def Scanner.discarded (c : Scanner) (line : Line) : Scanner :=
  { c with chatter := c.chatter.set line (countUp (c.chatter.get line) Config.countMax) }

/-- An edge accepted at tick t (R14). -/
def Scanner.accepted (c : Scanner) (line : Line) (t : Tick) : Scanner :=
  { c with lastEdge := c.lastEdge.set line (some t) }

/-- An arrival filtered out (R17). -/
def Scanner.filteredOut (c : Scanner) (line : Line) : Scanner :=
  { c with filtered := c.filtered.set line (countUp (c.filtered.get line) Config.countMax) }

/-- An edge now on a line falls within the chatter guard (R14). -/
def State.isChatter (s : State) (line : Line) : Bool :=
  match s.scanner.lastEdge.get line with
  | none => false
  | some t => decide (s.since t < s.settings.crossGuard * Config.ticksPerMicrosecond)

/-- The crossing set discards the arrivals of a line (R17). -/
def filters (set : CrossingSet) (line : Line) : Bool :=
  match set, line with
  | .abOnly, .bc | .abOnly, .ca => true
  | .abOnly, .ab | .all6, _ => false

/-- An edge on a crossing line, now: chatter, a filtered arrival, or an arrival handed to the
synchroniser (R14, R16, R17). -/
def State.edge (s : State) (line : Line) (rising : Bool) (k : Nat) : State :=
  let t := s.mapScanner (fun c => c.seen line rising)
  if s.isChatter line then t.mapScanner (fun c => c.discarded line)
  else
    let u := t.mapScanner (fun c => c.accepted line s.counter)
    if filters s.settings.crossSet line then u.mapScanner (fun c => c.filteredOut line)
    else u.arrive k ⟨crossingOf line rising, s.counter⟩

/-- A line's last accepted edge becomes absent 2^31 ticks after it; a line with none has nothing to
expire (R14). -/
def State.expireEdge (s : State) (line : Line) : State :=
  match s.scanner.lastEdge.get line with
  | none => s
  | some t =>
    (s.runUntilSince t Config.longestInterval).mapScanner (fun c =>
      { c with lastEdge := c.lastEdge.set line none })

end Sys2Proof.Machine
end

