-- ==== Sys2Proof/Machine/Links.lean ====
section
/-! DEFINITION. The lines of the two links (chapter 9): what a receiver makes of the bytes it holds, breaks,
the transmitters, and control authority with its watchdog. -/

namespace Sys2Proof.Machine

/-! ## The receiver -/

/-- What a candidate record is, judged on the bytes held from its sync byte on (R179). -/
inductive Verdict where
  /-- more bytes are needed -/
  | incomplete
  /-- the length or the check is wrong -/
  | failed
  /-- a record of this many bytes is received -/
  | received (size : Nat) (kind tag : Byte) (payload : List Byte)
  deriving DecidableEq, Repr

/-- The judgement of a candidate that holds its length byte `len` and `body`, the bytes after it
(R178, R179). -/
def judgeBody (len : Byte) (body : List Byte) : Verdict :=
  if len.toNat < Config.lengthMin ∨ Config.lengthMax < len.toNat then .failed
  else if body.length < len.toNat + 2 then .incomplete
  else if field16 (checkOf (len :: body.take len.toNat)).toNat = (body.drop len.toNat).take 2 then
    .received (len.toNat + 4) (body.getD 0 0) (body.getD 1 0) ((body.take len.toNat).drop 2)
  else .failed

/-- The judgement of a candidate on the bytes after its sync byte (R179). -/
def judge (rest : List HeldByte) : Verdict :=
  match rest.map (fun h => h.byte) with
  | [] => .incomplete
  | len :: body => judgeBody len body

/-- What comes about while bytes are examined, in order. -/
inductive RxAct where
  /-- a candidate is discarded and counts a frame error (R180) -/
  | frameError
  /-- a record is received -/
  | record (kind tag : Byte) (payload : List Byte)
  deriving DecidableEq, Repr

/-- What an examination of bytes comes to: the bytes still held, and what came about. -/
structure Examined where
  held : List HeldByte
  acts : List RxAct
  deriving DecidableEq, Repr

/-- One more thing that came about first. -/
def Examined.after (x : Examined) (a : RxAct) : Examined := { x with acts := a :: x.acts }

/-- Bytes examined in order (R179, R180): a byte other than the sync byte is dropped, a failed candidate
is discarded and the search goes on past its sync byte, and a received record's bytes are released.
`skip` counts the bytes of a received record still to pass. With `gap`, no byte is to come and a
candidate that cannot complete is discarded in its turn. -/
def examine (gap : Bool) : Nat → List HeldByte → Examined
  | _, [] => ⟨[], []⟩
  | skip + 1, _ :: rest => examine gap skip rest
  | 0, b :: rest =>
    if b.byte.toNat = Config.syncByte then
      match judge rest with
      | .incomplete =>
        if gap then (examine gap 0 rest).after .frameError else ⟨b :: rest, []⟩
      | .failed => (examine gap 0 rest).after .frameError
      | .received size kind tag payload =>
        (examine gap (size - 1) rest).after (.record kind tag payload)
    else examine gap 0 rest

/-- The receiver is HUNTING: it holds no byte (R179). -/
def LinkState.hunting (k : LinkState) : Bool := k.heldBytes.isEmpty

/-- A discarded candidate (R180). -/
def LinkState.frameError (k : LinkState) : LinkState :=
  { k with frameErrors := countUp k.frameErrors Config.countMax }.setFlag .frameError

/-- The link's receive line is in break. -/
def State.inBreak (s : State) (l : Link) : Bool := (s.links.get l).brk == .inBreak

/-- The receive line is seen at mark again: a byte has arrived, or a framing fault has ended, and a tick
noted before is past use (R177, R181). -/
def LinkState.atMark (k : LinkState) : LinkState := { k with brk := .mark }

/-- A byte joins those held, and they are examined (R179). -/
def LinkState.takeByte (k : LinkState) (h : HeldByte) : Examined := examine false 0 (k.heldBytes ++ [h])

/-- The search after a candidate is discarded at a byte that did not arrive (R180, R181). -/
def LinkState.faultSearch (k : LinkState) : Examined :=
  match k.heldBytes with
  | [] => ⟨[], []⟩
  | _ :: rest => (examine false 0 rest).after .frameError

/-- The search after a gap failure: nothing is held at its end (R180). -/
def LinkState.gapSearch (k : LinkState) : Examined := examine true 0 k.heldBytes

/-! ## Breaks (R181, R182) -/

/-- The elapsed count at which the byte in progress ends: a record's transmission is cut there (R182). -/
def Transmission.cutBy (x : Transmission) (byteTicks now : Nat) : Transmission :=
  { x with
    cutAt :=
      some (x.startedAt + min ((now - x.startedAt) / byteTicks + 1) x.bytes.length * byteTicks) }

/-- The steps of a detected break, on one link (R182). A transmission that an earlier break cuts already
keeps its cut. -/
def LinkState.breakFound (k : LinkState) (byteTicks now : Nat) : LinkState :=
  { k with
    heldBytes := []
    brk := .inBreak
    transmitter :=
      k.transmitter.map (fun (x : Transmission) => if x.cutAt = none then x.cutBy byteTicks now else x)
    replies := []
    notices := [] }.setFlag .brk

/-- The receiver sees its line go to space at a start bit, and notes the tick; a line watched already
keeps the tick noted, and in break there is nothing to watch (R181). -/
def BreakState.watch (x : BreakState) (fell : Tick) : BreakState :=
  match x with
  | .mark => .space fell
  | .space since => .space since
  | .inBreak => .inBreak

/-- The steps of a break taken now on a link (R182). -/
def State.breakNow (s : State) (l : Link) : State :=
  s.mapLink l (fun k => k.breakFound s.rate.byteTicks s.elapsed)

/-- A line that went to space at `fell`, and is still at space 20 bit times after the tick noted, is in
break from that tick: time runs to it (R181, R182). -/
def State.detectBreak (s : State) (l : Link) (fell : Tick) : State :=
  match (s.links.get l).brk.watch fell with
  | .space since => (s.runToTick (since + BitVec.ofNat 32 s.rate.breakTicks)).breakNow l
  | .mark | .inBreak => s

/-- The line returns to mark after a break (R181). -/
def State.endBreak (s : State) (l : Link) : State :=
  if s.inBreak l then s.mapLink l (fun k => { k with brk := .mark, heldBytes := [] }) else s

/-! ## Transmitters (R186) -/

/-- The record the arbiter chooses, with the queues it leaves: the oldest reply, else the oldest notice
(R186). -/
def LinkState.chosen (k : LinkState) : Option (OutRecord × LinkState) :=
  match k.replies with
  | r :: rest => some (r, { k with replies := rest })
  | [] =>
    match k.notices with
    | n :: rest => some (n, { k with notices := rest })
    | [] => none

/-- An idle transmitter begins the record the arbiter chooses (R186). -/
def LinkState.startSending (k : LinkState) (now : Nat) : LinkState :=
  match k.transmitter, k.chosen with
  | none, some (r, k') => { k' with transmitter := some ⟨r.frame, now, none⟩ }
  | _, _ => k

/-- The elapsed count at which the last byte of a record has been sent (R178, R186). -/
def Transmission.endsAt (x : Transmission) (byteTicks : Nat) : Nat :=
  x.startedAt + x.bytes.length * byteTicks

/-- The bytes sent so far of a transmission (Table 9-1). -/
def Transmission.sent (x : Transmission) (byteTicks now : Nat) : Nat :=
  min ((now - x.startedAt) / byteTicks) x.bytes.length

/-- The transmitter becomes idle. -/
def LinkState.idleTransmitter (k : LinkState) : LinkState := { k with transmitter := none }

/-- The last byte of a record is sent: time runs to it and the transmitter is idle. A record cut short
does not come to its last byte (R182, R186). -/
def State.endSending (s : State) (l : Link) : State :=
  match (s.links.get l).transmitter with
  | none => s
  | some x =>
    let e := x.endsAt s.rate.byteTicks
    if x.cutAt = none ∨ x.cutAt = some e then (s.runTo e).mapLink l LinkState.idleTransmitter
    else s

/-- After a break the byte being sent ends and the rest of the record is abandoned (R182). -/
def State.abandonSending (s : State) (l : Link) : State :=
  match (s.links.get l).transmitter with
  | some ⟨_, _, some cut⟩ => (s.runTo cut).mapLink l LinkState.idleTransmitter
  | _ => s

/-! ## Authority and its watchdog (R188 to R191) -/

/-- Authority passes to a link: the watchdog count is 0 and an AUTHORITY event is raised (R188). -/
def State.giveAuthority (s : State) (l : Link) : State :=
  { s with holder := l, watchdog := 0 }.raise (.authority l)

/-- The watchdog expires: authority returns to P, or, with P holding, a supervision loss (R191). -/
def State.expireWatchdog (s : State) : State :=
  match s.holder with
  | .s => s.giveAuthority .p
  | .p =>
    ({ s with watchdog := 0 }.raise .supervision).forAll Index.all
      (fun c t => t.superviseChannel c)

/-- The watchdog expires at the next count (R190). -/
def State.watchdogDue (s : State) : Bool :=
  decide (0 < s.settings.authTimeout) && decide (s.settings.authTimeout ≤ s.watchdog + 1)

/-- The watchdog's share of a millisecond tick (R190). -/
def State.watchdogTick (s : State) : State :=
  if s.settings.authTimeout = 0 then { s with watchdog := 0 }
  else if s.watchdogDue then s.expireWatchdog
  else { s with watchdog := s.watchdog + 1 }

/-- A link's own flag set (Table 9-4). -/
def State.setOwnFlag (s : State) (l : Link) (f : OwnFlag) : State :=
  s.mapLink l (fun k => k.setFlag f)

end Sys2Proof.Machine
end

