-- ==== Sys2Proof/Machine/Reports.lean ====
section
/-! DEFINITION. What the replies report: the layouts of READ_STATUS, READ_MEASURE, READ_COURSE,
READ_ENVELOPE, READ_RECORD_HEADER and READ_RECORD after their result byte (R195, R202, R204, R205,
R207, R208). -/

namespace Sys2Proof.Machine

/-! ## READ_STATUS (Table 10-10) -/

/-- The synchroniser's section, offsets 1 to 29 (R42). -/
def State.syncReport (s : State) : List Byte :=
  let y := s.sync
  [byteOf y.state.code, byteOf (flagBit y.unanchored 0 + flagBit y.frequencyLimit 1)] ++
    fieldAngle s.phase ++ field32 (y.frequency.getD 0) ++ field32 y.period ++
    [byteOf y.good, byteOf y.bad, byteOf y.consistency, byteOf y.coastTurns] ++
    signed16 (y.lastStep.getD (-32768)) ++
    byteOf (codeOr0 (fun a => a.crossing.code) y.previous) ::
      (fieldTick ((y.previous.map (fun a => a.tick)).getD 0) ++
        [byteOf (codeOr0 (fun w => w.expected.code) y.window),
          byteOf (codeOr0 (fun w => w.status.code) y.window)] ++
        field16 y.stray ++ field16 y.mismatch)

/-- One bridge's section of 13 bytes (R100). -/
def Bridge.report (b : Bridge) : List Byte :=
  [byteOf b.state.code, byteOf (codeOr0 BlockCause.code b.blockCause), byteOf b.heldCauses.code,
      byteOf (codeOr0 (fun n => n.thyristor) b.next)] ++
    fieldAngle (b.next.map (fun n => n.due)) ++ fieldAngle (b.next.map (fun n => n.alpha)) ++
    [byteOf (codeOr0 (fun f => f.thyristor) b.lastFired)] ++
    fieldAngle (b.lastFired.map (fun f => f.alpha)) ++
    [flagByte b.pulse.isSome, byteOf b.retardTurns]

/-- A current that may be absent, offset by 2,000 A (R195). -/
def fieldMean (i : Option Int) : List Byte :=
  match i with
  | none => field16 65535
  | some x => fieldCurrent x

/-- One regulator's section of 11 bytes (R120). -/
def Regulator.report (r : Regulator) : List Byte :=
  signed32 r.integral ++ field16 r.count ++ fieldMean r.mean ++ fieldAngle r.alphaReq ++
    [flagByte r.lastLimited]

/-- A channel's byte: its state and its SAFE flag (R145). -/
def Channel.statusByte (k : Channel) : Byte := byteOf (k.state.code + flagBit k.safe 3)

/-- A recent episode's entry of 7 bytes, zeros where there is none (R207). -/
def recentEntry (x : Option RecentEpisode) : List Byte :=
  match x with
  | none => [0, 0, 0, 0, 0, 0, 0]
  | some e => fieldTick e.startTick ++ field24 e.age

/-- The monitor's section, offsets 130 to 203 (R74). While the episode record is absent bit 3 of its flags
is sent as 0 (DEDUCED, notes/assumptions/33.md). -/
def Monitor.report (m : Monitor) : List Byte :=
  let tripped := (m.episode.map (fun e => e.tripped)).getD false
  [byteOf m.state.code,
      byteOf (flagBit m.holdRequest 0 + flagBit m.excursionTripped 1 + flagBit m.episode.isSome 2 +
        flagBit tripped 3),
      byteOf (codeOr0 (fun e => e.kind.code) m.episode),
      byteOf (codeOr0 (fun e => e.outcome.code) m.episode),
      byteOf (codeOr0 (fun e => e.causes.toNat) m.episode)] ++
    fieldTick ((m.episode.map (fun e => e.startTick)).getD 0) ++
    field16 ((m.episode.map (fun e => e.extreme)).getD 0) ++ field16 m.elapsedTime ++
    field16 m.recoveryTimer ++ field16 m.excursionTimer ++ [byteOf m.recent.length] ++
    ((List.range 8).map (fun j => recentEntry m.recent[j]?)).flatten

/-- The trip unit's section, offsets 204 to 211 (R158). -/
def State.tripReport (s : State) : List Byte :=
  let t := s.trip
  let n := t.overcurrentScans
  [byteOf (flagBit t.latched 0 + flagBit t.breakerTrip 1 + flagBit t.externalHigh 2 +
        flagBit s.breakerClosed 3),
      byteOf (codeOr0 TripCause.code t.firstOut), byteOf t.causes.toNat] ++
    fieldTick t.tick ++ [byteOf (n.at0 + 4 * n.at1 + 16 * n.at2 + 64 * n.at3)]

/-- The link unit's section as link `l` sees it, offsets 213 to 222 (R193). -/
def State.linkReport (s : State) (l : Link) : List Byte :=
  let k := s.links.get l
  byteOf (linkCode s.holder) :: (field16 s.watchdog ++ field16 k.summary.toNat ++
    field16 k.frameErrors ++ field16 k.mask.toNat ++ [byteOf s.rate.code])

/-- The 222 bytes of status READ_STATUS reports on link `l` (R207). -/
def State.statusReport (s : State) (l : Link) : List Byte :=
  s.syncReport ++ (s.bridges.toList.map Bridge.report).flatten ++
    (s.regulators.toList.map Regulator.report).flatten ++
    s.channels.toList.map Channel.statusByte ++ s.monitor.report ++ s.tripReport ++
    [byteOf s.recorder.state.code] ++ s.linkReport l

/-! ## READ_MEASURE (Table 10-11) -/

/-- The saturated flags, each group with its first input in its highest bit (Table 10-11;
notes/assumptions/13.md). -/
def Scanner.saturatedField (c : Scanner) : Nat :=
  flagBit c.uSaturated.ab 2 + flagBit c.uSaturated.bc 1 + flagBit c.uSaturated.ca 0 +
    flagBit c.iSaturated.at0 6 + flagBit c.iSaturated.at1 5 + flagBit c.iSaturated.at2 4 +
    flagBit c.iSaturated.at3 3 + flagBit c.eSaturated.at0 10 + flagBit c.eSaturated.at1 9 +
    flagBit c.eSaturated.at2 8 + flagBit c.eSaturated.at3 7

/-- The currents of a report, each offset by 2,000 A; before the first scan each is 0 A and so sent as
2,000 (R13, R195; notes/assumptions/14.md). -/
def Scanner.currents (c : Scanner) : List Byte := (c.i.toList.map fieldCurrent).flatten

/-- The 70 bytes READ_MEASURE reports (R13, R208). Before the first scan the chatter and filtered counts
are sent as they stand, though R13 says 'zeros throughout' of that reply too (DEDUCED,
notes/assumptions/14.md). -/
def Scanner.measureReport (c : Scanner) : List Byte :=
  fieldTick c.scanTick ++ (c.u.toList.map signed16).flatten ++ c.currents ++
    (c.e.toList.map (fun e => field24 e.toNat)).flatten ++ field16 c.saturatedField ++
    (c.rms.toList.map field16).flatten ++ field16 c.g ++ field16 c.uAvg ++
    (c.vCell.toList.map (fun v => field32 v.toNat)).flatten ++
    (c.chatter.toList.map field16).flatten ++ (c.filtered.toList.map field16).flatten

/-! ## READ_COURSE (Table 10-12) -/

/-- The channel report and the queue's steps (R145, R208). -/
def State.courseReport (s : State) (c : Index) : List Byte :=
  let k := s.channels.get c
  let cap := s.monitor.cap.get c
  [byteOf c.val, byteOf (k.state.code + flagBit k.safe 3 + flagBit k.foldback 4)] ++
    field16 (k.course / 1000) ++ field16 (s.effectiveReference c / 1000) ++
    [byteOf k.queue.length, byteOf (codeOr0 HeadPhase.code k.headPhase)] ++
    field32 (k.remainingHold.getD 4294967295) ++ [flagByte k.headClamped] ++ field32 k.foldCap ++
    [byteOf (codeOr0 (fun x => x.mode.code) cap)] ++
    field32 ((cap.map (fun x => x.value)).getD 0) ++ field32 (s.monitor.refStart.get c) ++
    field32 k.lowLoadTimer ++ [byteOf k.overvoltageScans] ++
    (k.queue.map CourseStep.bytes).flatten

/-! ## READ_ENVELOPE (R204) -/

/-- A point as written: time, then level. -/
def EnvelopePoint.bytes (p : EnvelopePoint) : List Byte := field16 p.time ++ field16 p.level

/-- The table byte, the count and the points of a table (R204). -/
def tableReport (which : Byte) (table : List EnvelopePoint) : List Byte :=
  which :: byteOf table.length :: (table.map EnvelopePoint.bytes).flatten

/-! ## The recorder's replies (R204, R205) -/

/-- Offsets 3 to 13 of the header reply, zeros while the header is absent (Table 10-7). -/
def Recorder.headerFields (r : Recorder) : List Byte :=
  match r.header with
  | none => [0, 0, 0, 0, 0, 0, 0, 0, 0, 0, 0]
  | some h =>
    byteOf h.cause.code :: (fieldTick h.triggerTick ++ field16 h.preCount ++
      field16 h.plannedLength ++ [byteOf h.decimation, byteOf r.missed])

/-- The flags of the header reply (Table 10-7). While the header is absent bits 1 and 2 are sent as 0 with
the presence bit (DEDUCED, notes/assumptions/33.md). -/
def Recorder.headerFlags (r : Recorder) : Nat :=
  match r.header with
  | none => 0
  | some h => flagBit true 0 + flagBit h.idle 1 + flagBit h.survivedReset 2

/-- The 15 bytes READ_RECORD_HEADER reports (R170, R204). -/
def Recorder.headerReport (r : Recorder) : List Byte :=
  byteOf r.state.code :: byteOf r.headerFlags :: (r.headerFields ++ field16 r.ring.length)

/-- The 72-bit field of the four stack voltages, e_0 in its highest 18 bits (R205). -/
def packStacks (e : Four Int) : List Byte :=
  let n := e.toList.foldl (fun m x => m * 262144 + x.toNat) 0
  [byteOf (n / 2 ^ 64), byteOf (n / 2 ^ 56), byteOf (n / 2 ^ 48), byteOf (n / 2 ^ 40),
    byteOf (n / 2 ^ 32), byteOf (n / 2 ^ 24), byteOf (n / 2 ^ 16), byteOf (n / 2 ^ 8), byteOf n]

/-- The four bridge states, bridge b in bits 3b + 2 to 3b (R205). -/
def packBridges (b : Four BridgeState) : Nat :=
  b.at0.code + 8 * b.at1.code + 64 * b.at2.code + 512 * b.at3.code

/-- A snapshot's 33 bytes (Table 10-8). -/
def Snapshot.bytes (x : Snapshot) : List Byte :=
  fieldTick x.tick ++ (x.u.toList.map signed16).flatten ++ (x.i.toList.map fieldCurrent).flatten ++
    packStacks x.e ++ field16 (32 * x.g + 8 * x.sync.code + x.monitor.code) ++
    field16 (x.phase.getD 0) ++
    field16 (flagBit x.phase.isSome 15 + flagBit x.tripLatched 14 + packBridges x.bridges)

/-- The snapshots numbered `first` to `first + count − 1` of a record (R171). -/
def Recorder.readOut (r : Recorder) (first count : Nat) : List Byte :=
  (((r.ring.drop first).take count).map Snapshot.bytes).flatten

end Sys2Proof.Machine
end

