-- ==== Sys2Proof/Machine/Requests.lean ====
section
/-! DEFINITION. Requests (chapters 9 and 10): the kinds, how a received record is taken and judged, what
each request does, and the reply it gets. -/

namespace Sys2Proof.Machine

/-! ## Kinds (Table 10-2) -/

/-- The request kinds. -/
inductive RequestKind where
  | readStatus
  | readMeasure
  | getSetting
  | readEnvelope
  | readCourse
  | readRecordHeader
  | readRecord
  | clearEvents
  | setNoticeMask
  | ping
  | setSetting
  | loadEnvelope
  | deblock
  | stop
  | appendStep
  | flush
  | pause
  | resume
  | releaseStep
  | wake
  | tripClear
  | syncRestart
  | recordTrigger
  | recordRelease
  | seize
  | yield
  deriving DecidableEq, Repr

/-- The kind byte of a request. -/
def RequestKind.code (k : RequestKind) : Byte :=
  match k with
  | .readStatus => 0x01
  | .readMeasure => 0x02
  | .getSetting => 0x03
  | .readEnvelope => 0x04
  | .readCourse => 0x05
  | .readRecordHeader => 0x06
  | .readRecord => 0x07
  | .clearEvents => 0x08
  | .setNoticeMask => 0x09
  | .ping => 0x0A
  | .setSetting => 0x10
  | .loadEnvelope => 0x11
  | .deblock => 0x12
  | .stop => 0x13
  | .appendStep => 0x14
  | .flush => 0x15
  | .pause => 0x16
  | .resume => 0x17
  | .releaseStep => 0x18
  | .wake => 0x19
  | .tripClear => 0x1A
  | .syncRestart => 0x1B
  | .recordTrigger => 0x1C
  | .recordRelease => 0x1D
  | .seize => 0x20
  | .yield => 0x21

/-- The request kind of a kind byte, none where it is no request kind (R197). -/
def RequestKind.ofByte (b : Byte) : Option RequestKind :=
  match b.toNat with
  | 0x01 => some .readStatus
  | 0x02 => some .readMeasure
  | 0x03 => some .getSetting
  | 0x04 => some .readEnvelope
  | 0x05 => some .readCourse
  | 0x06 => some .readRecordHeader
  | 0x07 => some .readRecord
  | 0x08 => some .clearEvents
  | 0x09 => some .setNoticeMask
  | 0x0A => some .ping
  | 0x10 => some .setSetting
  | 0x11 => some .loadEnvelope
  | 0x12 => some .deblock
  | 0x13 => some .stop
  | 0x14 => some .appendStep
  | 0x15 => some .flush
  | 0x16 => some .pause
  | 0x17 => some .resume
  | 0x18 => some .releaseStep
  | 0x19 => some .wake
  | 0x1A => some .tripClear
  | 0x1B => some .syncRestart
  | 0x1C => some .recordTrigger
  | 0x1D => some .recordRelease
  | 0x20 => some .seize
  | 0x21 => some .yield
  | _ => none

/-- A commanding request: one of kinds 0x10 to 0x1D (R183). -/
def RequestKind.commanding (k : RequestKind) : Bool :=
  decide (0x10 ≤ k.code.toNat) && decide (k.code.toNat ≤ 0x1D)

/-- SEIZE or YIELD, which only link S may send (R183, R188). -/
def RequestKind.serviceOnly (k : RequestKind) : Bool := k == .seize || k == .yield

/-- The payload's size is the one the kind has (R197, Table 10-2). -/
def RequestKind.sizeRight (k : RequestKind) (payload : List Byte) : Bool :=
  match k with
  | .readStatus | .readMeasure | .readRecordHeader | .ping | .tripClear | .syncRestart
  | .recordTrigger | .recordRelease | .seize | .yield => payload.length == 0
  | .getSetting | .readEnvelope | .readCourse | .deblock | .stop | .flush | .pause | .resume
  | .releaseStep | .wake => payload.length == 1
  | .clearEvents | .setNoticeMask => payload.length == 2
  | .readRecord => payload.length == 3
  | .setSetting => payload.length == 5
  | .loadEnvelope =>
    match payload with
    | _ :: count :: points => points.length == 4 * count.toNat
    | _ => false
  | .appendStep =>
    match payload with
    | _ :: presence :: rest => rest.length + 1 == stepSize presence
    | _ => false

/-! ## Replies -/

/-- What an acted request comes to: the state after it and the reply's payload. -/
structure Answer where
  state : State
  payload : List Byte

/-- A refused request: nothing changes, and the reply carries the result code alone (R183). -/
def State.refuse (s : State) (r : Result) : Answer := ⟨s, [r.byte]⟩

/-- An accepted request: OK, and the contents its rule gives. -/
def State.accept (s : State) (contents : List Byte) : Answer := ⟨s, Result.ok.byte :: contents⟩

/-! ## Requests that only read -/

/-- GET_SETTING (R199). -/
def State.actGetSetting (s : State) (payload : List Byte) : Answer :=
  let id := payload.getD 0 0
  match Setting.ofId id.toNat with
  | none => s.refuse .refusedValue
  | some x => s.accept (id :: signed32 (s.settings.value x))

/-- READ_ENVELOPE (R49, R204). -/
def State.actReadEnvelope (s : State) (payload : List Byte) : Answer :=
  let which := payload.getD 0 0
  if which = 0 then s.accept (tableReport which s.monitor.lowTable)
  else if which = 1 then s.accept (tableReport which s.monitor.highTable)
  else s.refuse .refusedValue

/-- READ_COURSE (R145). -/
def State.actReadCourse (s : State) (payload : List Byte) : Answer :=
  match indexOf (payload.getD 0 0) with
  | none => s.refuse .refusedValue
  | some c => s.accept (s.courseReport c)

/-- The planned length of the record held (Table 8-3). -/
def Recorder.plannedLength (r : Recorder) : Nat := (r.header.map (fun h => h.plannedLength)).getD 0

/-- READ_RECORD (R171). -/
def State.actReadRecord (s : State) (payload : List Byte) : Answer :=
  let first := valueOf (payload.take 2)
  let count := (payload.getD 2 0).toNat
  if count = 0 ∨ Config.readRecordMax < count then s.refuse .refusedValue
  else if s.recorder.state ≠ .frozen then s.refuse .refusedState
  else if s.recorder.plannedLength < first + count then s.refuse .refusedValue
  else s.accept (payload ++ s.recorder.readOut first count)

/-! ## Requests on a link's own items -/

/-- CLEAR_EVENTS (R187, R197). -/
def State.actClearEvents (s : State) (l : Link) (payload : List Byte) : Answer :=
  let set := valueOf payload
  if 2 ^ 13 ≤ set then s.refuse .refusedValue
  else
    (s.mapLink l (fun k => { k with summary := k.summary &&& ~~~(BitVec.ofNat 13 set) })).accept []

/-- SET_NOTICE_MASK (R187, R197). -/
def State.actSetNoticeMask (s : State) (l : Link) (payload : List Byte) : Answer :=
  let set := valueOf payload
  if 2 ^ 9 ≤ set then s.refuse .refusedValue
  else (s.mapLink l (fun k => { k with mask := BitVec.ofNat 9 set })).accept []

/-- SEIZE from S (R188). -/
def State.actSeize (s : State) : Answer :=
  match s.holder with
  | .p => (s.giveAuthority .s).accept []
  | .s => s.accept []

/-- YIELD from S (R188). -/
def State.actYield (s : State) : Answer :=
  match s.holder with
  | .s => (s.giveAuthority .p).accept []
  | .p => s.refuse .refusedState

/-! ## SET_SETTING -/

/-- The class of a setting permits a SET as the part stands (R200, step 3). -/
def State.permits (s : State) (c : SettingClass) : Bool :=
  match c with
  | .live => true
  | .stopped => s.stopped
  | .calm => s.monitor.state == .normal
  | .recorder => s.recorder.state == .armed

/-- The cross-setting constraints hold (R201). -/
def Settings.consistent (st : Settings) (low high : List EnvelopePoint) : Bool :=
  decide (st.alphaMin + 1000 ≤ st.alphaMax) &&
    decide (st.alphaMin ≤ st.alphaStart) && decide (st.alphaStart ≤ st.alphaMax) &&
    decide (st.dipStart < st.dipEnd) && decide (st.swellEnd < st.swellStart) &&
    decide (st.vcellFold < st.vcellTrip) && decide (st.fLow < st.fHigh) &&
    decide (lastLevel low ≤ st.dipStart) && decide (st.swellStart ≤ lastLevel high)

/-- What an accepted SET does at once beside replacing the value; `s` holds the new value and `old` the
settings before (R44, R45, R63, R119, R138, R173, R190). The other settings are read where they are
used. -/
def State.applied (s : State) (old : Settings) (x : Setting) : State :=
  match x with
  | .fNom => if s.settings.fNom = old.fNom then s else s.restartSync
  | .crossSet => if s.settings.crossSet = old.crossSet then s else s.restartSync
  | .lockCount => s.mapSync (fun y => { y with good := 0 })
  | .lossCount => s.mapSync (fun y => { y with bad := 0 })
  | .reanchorCount => s.mapSync (fun y => { y with consistency := 0 })
  | .repeatMax =>
    s.mapMonitor (fun m =>
      { m with recent := m.recent.drop (m.recent.length - s.settings.repeatMax) })
  | .xLim =>
    { s with
      regulators :=
        s.regulators.map (fun r => { r with integral := s.limitIntegral r.integral }) }
  | .iMax c => s.mapChannel c (fun k => k.refold (old.iMax.get c) (s.settings.iMax.get c))
  | .authTimeout => { s with watchdog := 0 }
  | .recPre | .recDecim => s.mapRecorder Recorder.restarted
  | _ => s

/-- An accepted SET (R200, step 5). -/
def State.setValue (s : State) (x : Setting) (v : Int) : State :=
  { s with settings := s.settings.put x v }.applied s.settings x

/-- SET_SETTING, judged in the order of R200. -/
def State.actSetSetting (s : State) (payload : List Byte) : Answer :=
  let id := payload.getD 0 0
  let v := signedValueOf (payload.drop 1)
  match Setting.ofId id.toNat with
  | none => s.refuse .refusedValue
  | some x =>
    if x.inRange v = false then s.refuse .refusedValue
    else if s.permits x.cls = false then s.refuse .refusedState
    else if (s.settings.put x v).consistent s.monitor.lowTable s.monitor.highTable = false then
      s.refuse .refusedValue
    else (s.setValue x v).accept (id :: signed32 v)

/-! ## LOAD_ENVELOPE -/

/-- The points of a payload, four bytes each (R204). -/
def readPoints : List Byte → List EnvelopePoint
  | a :: b :: c :: d :: rest => ⟨valueOf [a, b], valueOf [c, d]⟩ :: readPoints rest
  | _ => []

/-- LOAD_ENVELOPE (R49). -/
def State.actLoadEnvelope (s : State) (payload : List Byte) : Answer :=
  let which := payload.getD 0 0
  let points := readPoints (payload.drop 2)
  if s.monitor.state ≠ .normal then s.refuse .refusedState
  else if which = 0 ∧ validLow s.settings.dipStart points = true then
    (s.mapMonitor (fun m => { m with lowTable := points })).accept []
  else if which = 1 ∧ validHigh s.settings.swellStart points = true then
    (s.mapMonitor (fun m => { m with highTable := points })).accept []
  else s.refuse .refusedValue

/-! ## Mask requests -/

/-- A mask request: each named item is judged by `judge` on the state the request finds, one accepted
takes `effect`, and the reply carries one code for each of 0 to 3 (R81, R85, R131). -/
def State.maskRequest (s : State) (mask : Byte) (judge : Index → Result)
    (effect : Index → State → State) : Answer :=
  match maskOf mask with
  | none => s.refuse .refusedValue
  | some m =>
    let code := fun (i : Index) => if hasBit m i.val then judge i else Result.ok
    (s.forAll Index.all (fun i t =>
      if hasBit m i.val && judge i == .ok then effect i t else t)).accept
      (Index.all.map (fun i => (code i).byte))

/-- The permissives of a DEBLOCK for one bridge (R81). -/
def State.deblockPermitted (s : State) (b : Index) : Bool :=
  s.bridgeState b == .blocked && s.breakerClosed && s.sync.state == .locked && !s.trip.latched &&
    (s.channels.get b).state != .standby

/-- A condition as a result: OK, or REFUSED_STATE. -/
def Result.ofState (ok : Bool) : Result := if ok then .ok else .refusedState

/-- The acceptance of DEBLOCK for one bridge: DEBLOCKING with its first thyristor scheduled, the preset
and the re-seed, and a BRIDGE event (R82, R114, R136). -/
def State.deblockBridge (s : State) (b : Index) : State :=
  ((((s.mapBridge b (fun r =>
    { r with
      state := .deblocking
      blockCause := none
      heldCauses := HeldCauses.empty
      next := s.phase.map (s.firstThyristor b) })).preset b).reseed b)).raise
    (.bridge b .deblocking .none)

/-- DEBLOCK (R81, R82). -/
def State.actDeblock (s : State) (payload : List Byte) : Answer :=
  s.maskRequest (payload.getD 0 0) (fun b => Result.ofState (s.deblockPermitted b))
    (fun b t => t.deblockBridge b)

/-- STOP (R85). -/
def State.actStop (s : State) (payload : List Byte) : Answer :=
  s.maskRequest (payload.getD 0 0) (fun b => Result.ofState (s.bridgeState b != .lockout))
    (fun b t => t.stopBridge b)

/-- FLUSH (R132). -/
def State.actFlush (s : State) (payload : List Byte) : Answer :=
  s.maskRequest (payload.getD 0 0) (fun _ => .ok) (fun c t => t.flushChannel c)

/-- PAUSE of one channel that is not refused (R133). -/
def State.pauseChannel (s : State) (c : Index) : State :=
  match (s.channels.get c).state with
  | .active => s.setChannelState c .pausing
  | _ => s

/-- PAUSE (R133). -/
def State.actPause (s : State) (payload : List Byte) : Answer :=
  s.maskRequest (payload.getD 0 0)
    (fun c =>
      Result.ofState
        ((s.channels.get c).state != .idle && (s.channels.get c).state != .standby))
    (fun c t => t.pauseChannel c)

/-- RESUME of one channel that is not refused (R134). -/
def State.resumeChannel (s : State) (c : Index) : State :=
  match (s.channels.get c).state with
  | .pausing | .paused => s.setChannelState c .active
  | _ => s

/-- RESUME (R134). -/
def State.actResume (s : State) (payload : List Byte) : Answer :=
  s.maskRequest (payload.getD 0 0)
    (fun c => Result.ofState ((s.channels.get c).state != .standby))
    (fun c t => t.resumeChannel c)

/-! ## Requests on one channel -/

/-- A step appended to a channel that takes it (R123). -/
def State.appendTo (s : State) (c : Index) (p : CourseStep) : State :=
  let old := s.channels.get c
  let t := s.mapChannel c (fun k =>
    { (if k.state = .idle then
        { k with headPhase := some .ramp, headClamped := false, state := .active }
      else k) with
      queue := k.queue ++ [p], safe := false })
  if old.state = .idle ∨ old.safe = true then t.channelEvent c else t

/-- APPEND_STEP (R123, R203). -/
def State.actAppendStep (s : State) (payload : List Byte) : Answer :=
  match indexOf (payload.getD 0 0) with
  | none => s.refuse .refusedValue
  | some c =>
    match readStep c (payload.getD 1 0) (payload.drop 2) with
    | none => s.refuse .refusedValue
    | some p =>
      if (s.channels.get c).state = .standby then s.refuse .refusedState
      else if Config.courseQueueMax ≤ (s.channels.get c).queue.length then s.refuse .refusedFull
      else (s.appendTo c p).accept [byteOf ((s.channels.get c).queue.length + 1)]

/-- A channel is ACTIVE with its head in WAIT on a RELEASE (R128). -/
def Channel.awaitsRelease (k : Channel) : Bool :=
  k.state == .active && k.headPhase == some .wait &&
    match k.queue with
    | p :: _ => p.wait == some .release
    | [] => false

/-- RELEASE_STEP (R128). -/
def State.actReleaseStep (s : State) (payload : List Byte) : Answer :=
  match indexOf (payload.getD 0 0) with
  | none => s.refuse .refusedValue
  | some c =>
    if (s.channels.get c).awaitsRelease then (s.completeHead c).accept []
    else s.refuse .refusedState

/-- WAKE (R141). -/
def State.actWake (s : State) (payload : List Byte) : Answer :=
  match indexOf (payload.getD 0 0) with
  | none => s.refuse .refusedValue
  | some c =>
    if (s.channels.get c).state = .standby then (s.setChannelState c .idle).accept []
    else s.refuse .refusedState

/-! ## Requests on the train -/

/-- TRIP_CLEAR (R155). -/
def State.actTripClear (s : State) : Answer :=
  if s.trip.latched = false then s.accept []
  else if s.clearHeldBack then s.refuse .refusedActive
  else s.clearTrip.accept []

/-- SYNC_RESTART (R43). -/
def State.actSyncRestart (s : State) : Answer :=
  if s.stopped then s.restartSync.accept [] else s.refuse .refusedState

/-- RECORD_TRIGGER (R169). -/
def State.actRecordTrigger (s : State) : Answer :=
  if hasBit s.settings.recTriggers TriggerSource.recordTrigger.bit then
    let t := (s.trigger .recordTrigger).takeTriggers 0
    t.accept [byteOf t.recorder.state.code]
  else s.refuse .refusedState

/-- RECORD_RELEASE (R172). -/
def State.actRecordRelease (s : State) : Answer :=
  match s.recorder.state with
  | .frozen => (s.mapRecorder Recorder.released).accept []
  | .armed => s.accept []
  | .capturing => s.refuse .refusedState

/-! ## Taking a record (R183) -/

/-- The request's own rule: its effect and its reply. -/
def State.act (s : State) (l : Link) (k : RequestKind) (payload : List Byte) : Answer :=
  match k with
  | .readStatus => s.accept (s.statusReport l)
  | .readMeasure => s.accept s.scanner.measureReport
  | .getSetting => s.actGetSetting payload
  | .readEnvelope => s.actReadEnvelope payload
  | .readCourse => s.actReadCourse payload
  | .readRecordHeader => s.accept s.recorder.headerReport
  | .readRecord => s.actReadRecord payload
  | .clearEvents => s.actClearEvents l payload
  | .setNoticeMask => s.actSetNoticeMask l payload
  | .ping => s.accept []
  | .setSetting => s.actSetSetting payload
  | .loadEnvelope => s.actLoadEnvelope payload
  | .deblock => s.actDeblock payload
  | .stop => s.actStop payload
  | .appendStep => s.actAppendStep payload
  | .flush => s.actFlush payload
  | .pause => s.actPause payload
  | .resume => s.actResume payload
  | .releaseStep => s.actReleaseStep payload
  | .wake => s.actWake payload
  | .tripClear => s.actTripClear
  | .syncRestart => s.actSyncRestart
  | .recordTrigger => s.actRecordTrigger
  | .recordRelease => s.actRecordRelease
  | .seize => s.actSeize
  | .yield => s.actYield

/-- The result code that refuses a request of a known kind before its own rule, if any (R183, step 3). -/
def State.refusal (s : State) (l : Link) (k : RequestKind) (payload : List Byte) : Option Result :=
  if k.serviceOnly && l == .p then some .refusedLink
  else if k.commanding && s.holder != l then some .refusedAuthority
  else if k.sizeRight payload then none
  else some .refusedFormat

/-- A taken request judged and acted on (R183, step 3). -/
def State.judgeRequest (s : State) (l : Link) (kind : Byte) (payload : List Byte) : Answer :=
  match RequestKind.ofByte kind with
  | none => s.refuse .refusedKind
  | some k =>
    match s.refusal l k payload with
    | some r => s.refuse r
    | none => s.act l k payload

/-- The watchdog restarted by a record of the holder (R183, step 1; R190). -/
def State.heardFrom (s : State) (l : Link) : State :=
  if s.holder = l then { s with watchdog := 0 } else s

/-- A link's reply queue holds 4 replies (R183, step 2). -/
def State.repliesFull (s : State) (l : Link) : Bool :=
  decide (Config.replyQueueMax ≤ (s.links.get l).replies.length)

/-- The reply to a request: kind plus 0x40 modulo 256, and its tag (R183). -/
def replyTo (kind tag : Byte) (payload : List Byte) : OutRecord := ⟨kind + 0x40, tag, payload⟩

/-- The reply joins its link's queue as the newest entry, and what the request raised is taken
(R183, R185). -/
def Answer.reply (a : Answer) (l : Link) (kind tag : Byte) (o : Schedule) : State :=
  (a.state.mapLink l (fun k =>
    { k with replies := k.replies ++ [replyTo kind tag a.payload] })).settle o

/-- A received record handled as one event (R183). -/
def State.takeRecord (s : State) (l : Link) (kind tag : Byte) (payload : List Byte)
    (o : Schedule) : State :=
  let t := s.heardFrom l
  if t.repliesFull l then t.setOwnFlag l .replyOverrun
  else (t.judgeRequest l kind payload).reply l kind tag o

/-- A record whose last byte arrives `wait` ticks on: its line is at mark and it is taken, unless the line
is in break, in which no byte arrives (R179, R181, R183). -/
def State.receive (s : State) (kind : Byte) (r : Request) : State :=
  let t := s.runFor r.wait
  if t.inBreak r.link then t
  else (t.mapLink r.link LinkState.atMark).takeRecord r.link kind r.tag r.payload r.order

/-- The command of a request kind. -/
def State.request (s : State) (k : RequestKind) (r : Request) : Host.Outcome State Fault Refusal :=
  s.take r.order (fun t => t.receive k.code r)

/-! ## Bytes received (R179 to R181) -/

/-- One thing an examination of bytes came to, taken by the link unit (R180, R183). -/
def State.rxAct (s : State) (l : Link) (o : Schedule) (a : RxAct) : State :=
  match a with
  | .frameError => s.mapLink l LinkState.frameError
  | .record kind tag payload => s.takeRecord l kind tag payload o

/-- The bytes still held after an examination, and all it came to, in order. -/
def State.examined (s : State) (l : Link) (x : Examined) (o : Schedule) : State :=
  x.acts.foldl (fun t a => t.rxAct l o a)
    (s.mapLink l (fun k => { k with heldBytes := x.held }))

/-- A byte arrives on a link, now; in break none is taken (R177, R179, R181). -/
def State.byteArrives (s : State) (l : Link) (b : Byte) (o : Schedule) : State :=
  if s.inBreak l then s
  else
    (s.mapLink l LinkState.atMark).examined l
      ((s.links.get l).takeByte ⟨b, s.counter⟩) o

/-- A line that went to space at `fell` is back at mark, after a stop bit at space. Before 20 bit times
from the tick noted that is a framing fault: the byte is dropped and a candidate is discarded. Later it
is none, for a break was detected then (R181). -/
def State.framingFault (s : State) (l : Link) (fell : Tick) (o : Schedule) : State :=
  match (s.links.get l).brk.watch fell with
  | .space since =>
    if s.since since < s.rate.breakTicks then
      (s.mapLink l LinkState.atMark).examined l (s.links.get l).faultSearch o
    else s
  | .mark | .inBreak => s

/-- The gap of a candidate runs out: time runs to the tick 10,001 ticks after its last byte, and the
candidate is discarded (R179, R180). -/
def State.gapRunsOut (s : State) (l : Link) (o : Schedule) : State :=
  match (s.links.get l).heldBytes.getLast? with
  | none => s
  | some h =>
    (s.runUntilSince h.tick (Config.gapTicks + 1)).examined l (s.links.get l).gapSearch o

end Sys2Proof.Machine
end

