-- ==== Sys2Proof/Machine/Clock.lean ====
section
/-! DEFINITION. The millisecond tick (R5): the blocks that count in milliseconds, each taking its share
in an order the schedule gives. -/

namespace Sys2Proof.Machine

/-- The shares of a millisecond tick: the monitor's episode counts and caps, its frequency band, the
channel unit, and the authority watchdog (R5). -/
inductive TickShare where
  | episode
  | frequency
  | channels
  | watchdog
  deriving DecidableEq, Repr

/-- One block's share of a millisecond tick. -/
def State.tickShare (s : State) (x : TickShare) : State :=
  match x with
  | .episode => s.episodeTick
  | .frequency => s.frequencyTick
  | .channels => s.channelsTick
  | .watchdog => s.watchdogTick

/-- The shares of a millisecond tick in the order they are listed. -/
def tickShares : List TickShare := [.episode, .frequency, .channels, .watchdog]

/-- Time runs to the next millisecond tick (R5). -/
def State.reachMillisecond (s : State) : State :=
  let t := s.runTo s.nextMillisecond
  { t with millisecondAt := t.elapsed }

/-- The next millisecond tick, its shares taken in the order `k`. -/
def State.takeMillisecond (s : State) (k : Nat) : State :=
  (inOrder k tickShares).foldl State.tickShare s.reachMillisecond

/-- The next millisecond tick up to the channel unit's share, in the order `k`. -/
def State.beforeChannels (s : State) (k : Nat) : State :=
  ((inOrder k tickShares).takeWhile (fun x => x != .channels)).foldl State.tickShare
    s.reachMillisecond

/-- The remaining hold of a channel's head reaches 0 as the channel unit takes the tick (R127). -/
def State.holdEnds (s : State) (c : Index) : Bool :=
  let k := s.channels.get c
  s.advancing c && k.headPhase == some .hold &&
    match k.queue, k.remainingHold with
    | p :: _, some r => decide (r ≤ 1) && (!p.calm || s.calmTick)
    | _, _ => false

end Sys2Proof.Machine
end

