-- ==== Sys2Proof/Machine/TimeBase.lean ====
section
/-! DEFINITION. Meanings of the resets, the scan, the millisecond tick and the crossing inputs
(POWER_ON_RESET to LAST_EDGE_EXPIRY). -/

namespace Sys2Proof.Machine

/-- The part after a reset whose recorder is as given, the commands that wait kept. -/
def State.resetWith (s : State) (pins : Pins) (recorder : Recorder) (held : Bool) : State :=
  { State.afterReset pins recorder with inReset := held, pending := s.pending }

/-- What a part in reset is while RSTN is held low: gate outputs and BKRTRIP low, both transmit lines at
mark, and the recorder as the reset line leaves it (R75, R147, R174, R176). -/
def State.putInReset (s : State) : State :=
  { s with
    inReset := true
    bridges := s.bridges.map (fun b => { b with pulse := none })
    trip := { s.trip with breakerTrip := false }
    recorder := s.recorder.afterResetLine
    links := s.links.map LinkState.idleTransmitter }

/-- POWER_ON_RESET (R3, R19, R47, R75, R102, R121, R147, R174, R176): every block's state and every
setting takes its reset value. A part whose RSTN is held low stays in reset. -/
def execPowerOnReset (pins : Pins) (s : State) : Host.Outcome State Fault Refusal :=
  .next (s.resetWith pins Recorder.atReset s.inReset)

/-- RESET_LINE_ASSERT (R3, R147, R174, R176): RSTN goes low `wait` ticks on. RSTN low already does not
go low again. -/
def execResetLineAssert (wait : Nat) (s : State) : Host.Outcome State Fault Refusal :=
  .next (if s.inReset then s else (s.runFor wait).putInReset)

/-- RESET_LINE_RELEASE (R3, R14, R149, R174, R177, R181): RSTN returns high and every block starts from
its reset state, a kept record apart. -/
def execResetLineRelease (pins : Pins) (s : State) : Host.Outcome State Fault Refusal :=
  .next (if s.inReset then s.resetWith pins s.recorder false else s)

/-- SCAN (R4, R7 to R12). -/
def execScan (samples : Samples) (o : Schedule) (s : State) : Host.Outcome State Fault Refusal :=
  s.take o (fun t => t.takeScan samples o.shares)

/-- MILLISECOND_TICK (R5). -/
def execMillisecondTick (o : Schedule) (s : State) : Host.Outcome State Fault Refusal :=
  s.take o (fun t => t.takeMillisecond o.shares)

/-- CROSSING_EDGE (R14 to R17), `wait` ticks on. -/
def execCrossingEdge (line : Line) (rising : Bool) (wait : Nat) (o : Schedule) (s : State) :
    Host.Outcome State Fault Refusal :=
  s.take o (fun t => (t.runFor wait).edge line rising o.shares)

/-- LAST_EDGE_EXPIRY (R14). -/
def execLastEdgeExpiry (line : Line) (s : State) : Host.Outcome State Fault Refusal :=
  s.take .listed (fun t => t.expireEdge line)

end Sys2Proof.Machine
end

