-- ==== Sys2Proof/Machine/BridgeEvents.lean ====
section
/-! DEFINITION. Meanings of the bridges' events: RETARD_TIMEOUT, FIRING, PULSE_EXPIRY, BREAKER_OPEN and
BREAKER_CLOSE. -/

namespace Sys2Proof.Machine

/-- A cause joins the trip unit's cause set. -/
def causeRaised (cause : TripCause) (s t : State) : Bool :=
  !hasBit s.trip.causes cause.bit && hasBit t.trip.causes cause.bit

/-- RETARD_TIMEOUT (R87): a turn boundary at which a retard turn count reaches RETARD_LIMIT. -/
def execRetardTimeout (o : Schedule) (s : State) : Host.Outcome State Fault Refusal :=
  s.take o (fun u => u.takenIf (causeRaised .retardTimeout) (fun t => t.takeTurn o.shares))

/-- The next due angle of a bridge that waits for one is reached by running (R76, R78). -/
def State.fireNext (s : State) (b : Index) : State :=
  match s.awaitsDue b with
  | none => s
  | some n => (s.runToAngle n.due).dueReached b

/-- FIRING (R77, R78, R83, R86). A bridge that waits for no due angle does not fire. -/
def execFiring (b : Index) (o : Schedule) (s : State) : Host.Outcome State Fault Refusal :=
  s.take o (fun t => t.fireNext b)

/-- A bridge's active pulse ends at its expiry tick (R77). -/
def State.expirePulse (s : State) (b : Index) : State :=
  match (s.bridges.get b).pulse with
  | none => s
  | some p => (s.runToTick p.expiry).mapBridge b (fun r => { r with pulse := none })

/-- PULSE_EXPIRY (R77). -/
def execPulseExpiry (b : Index) (s : State) : Host.Outcome State Fault Refusal :=
  s.take .listed (fun t => t.expirePulse b)

/-- BREAKER_OPEN (R83, R93): BKRCL deasserts `wait` ticks on. -/
def execBreakerOpen (wait : Nat) (o : Schedule) (s : State) : Host.Outcome State Fault Refusal :=
  s.take o (fun t =>
    { t.runFor wait with breakerClosed := false }.forAll Index.all (fun b u => u.breakerOpens b))

/-- BREAKER_CLOSE (R93): BKRCL asserts `wait` ticks on. -/
def execBreakerClose (wait : Nat) (s : State) : Host.Outcome State Fault Refusal :=
  s.take .listed (fun t => { t.runFor wait with breakerClosed := true })

end Sys2Proof.Machine
end

