-- ==== Sys2Proof/Machine/CommandRequests.lean ====
section
/-! DEFINITION. Meanings of the commanding requests and of SEIZE and YIELD (Table 10-2, kinds 0x10 to 0x21).
What each does once it is taken is its rule's definition in Requests.lean, which `State.act` names. -/

namespace Sys2Proof.Machine

/-- SET_SETTING (R200, R201): a record of its kind is received and taken (R183). -/
def execSetSetting (r : Request) (s : State) : Host.Outcome State Fault Refusal :=
  s.request .setSetting r

/-- LOAD_ENVELOPE (R49, R204): a record of its kind is received and taken (R183). -/
def execLoadEnvelope (r : Request) (s : State) : Host.Outcome State Fault Refusal :=
  s.request .loadEnvelope r

/-- DEBLOCK (R81, R82): a record of its kind is received and taken (R183). -/
def execDeblock (r : Request) (s : State) : Host.Outcome State Fault Refusal :=
  s.request .deblock r

/-- STOP (R85): a record of its kind is received and taken (R183). -/
def execStop (r : Request) (s : State) : Host.Outcome State Fault Refusal :=
  s.request .stop r

/-- APPEND_STEP (R123, R203): a record of its kind is received and taken (R183). -/
def execAppendStep (r : Request) (s : State) : Host.Outcome State Fault Refusal :=
  s.request .appendStep r

/-- FLUSH (R132): a record of its kind is received and taken (R183). -/
def execFlush (r : Request) (s : State) : Host.Outcome State Fault Refusal :=
  s.request .flush r

/-- PAUSE (R133): a record of its kind is received and taken (R183). -/
def execPause (r : Request) (s : State) : Host.Outcome State Fault Refusal :=
  s.request .pause r

/-- RESUME (R134): a record of its kind is received and taken (R183). -/
def execResume (r : Request) (s : State) : Host.Outcome State Fault Refusal :=
  s.request .resume r

/-- RELEASE_STEP (R128): a record of its kind is received and taken (R183). -/
def execReleaseStep (r : Request) (s : State) : Host.Outcome State Fault Refusal :=
  s.request .releaseStep r

/-- WAKE (R141): a record of its kind is received and taken (R183). -/
def execWake (r : Request) (s : State) : Host.Outcome State Fault Refusal :=
  s.request .wake r

/-- TRIP_CLEAR (R155 to R157): a record of its kind is received and taken (R183). -/
def execTripClear (r : Request) (s : State) : Host.Outcome State Fault Refusal :=
  s.request .tripClear r

/-- SYNC_RESTART (R43): a record of its kind is received and taken (R183). -/
def execSyncRestart (r : Request) (s : State) : Host.Outcome State Fault Refusal :=
  s.request .syncRestart r

/-- RECORD_TRIGGER (R169): a record of its kind is received and taken (R183). -/
def execRecordTrigger (r : Request) (s : State) : Host.Outcome State Fault Refusal :=
  s.request .recordTrigger r

/-- RECORD_RELEASE (R172): a record of its kind is received and taken (R183). -/
def execRecordRelease (r : Request) (s : State) : Host.Outcome State Fault Refusal :=
  s.request .recordRelease r

/-- SEIZE (R188, R189): a record of its kind is received and taken (R183). -/
def execSeize (r : Request) (s : State) : Host.Outcome State Fault Refusal :=
  s.request .seize r

/-- YIELD (R188, R189): a record of its kind is received and taken (R183). -/
def execYield (r : Request) (s : State) : Host.Outcome State Fault Refusal :=
  s.request .yield r

end Sys2Proof.Machine
end

