-- ==== Sys2Proof/Machine/GridEvents.lean ====
section
/-! DEFINITION. Meanings of the ride-through monitor's events: EPISODE_LONG, EPISODE_END and FREQUENCY. -/

namespace Sys2Proof.Machine

/-- EPISODE_LONG (R56): a millisecond tick at which the elapsed time reaches EPISODE_MAX. -/
def execEpisodeLong (o : Schedule) (s : State) : Host.Outcome State Fault Refusal :=
  s.take o (fun u =>
    u.takenIf (fun a b => a.monitor.state != .long && b.monitor.state == .long)
      (fun t => t.takeMillisecond o.shares))

/-- The monitor returns to NORMAL (R59). -/
def returnsToNormal (s t : State) : Bool :=
  s.monitor.state != .normal && t.monitor.state == .normal

/-- EPISODE_END (R59): the millisecond tick at which the recovery timer reaches RECOVER_TIME, or, with
RECOVER_TIME 0, the scan whose samples are given. -/
def execEpisodeEnd (scan : Option Samples) (o : Schedule) (s : State) :
    Host.Outcome State Fault Refusal :=
  match scan with
  | none => s.take o (fun u => u.takenIf returnsToNormal (fun t => t.takeMillisecond o.shares))
  | some x => s.take o (fun u => u.takenIf returnsToNormal (fun t => t.takeScan x o.shares))

/-- FREQUENCY (R64): a millisecond tick at which the excursion timer reaches F_DELAY. -/
def execFrequency (o : Schedule) (s : State) : Host.Outcome State Fault Refusal :=
  s.take o (fun u =>
    u.takenIf (fun a b => !a.monitor.excursionTripped && b.monitor.excursionTripped)
      (fun t => t.takeMillisecond o.shares))

end Sys2Proof.Machine
end

