-- ==== Sys2Proof/Machine/LinkEvents.lean ====
section
/-! DEFINITION. Meanings of the link unit's events: bytes, faults, breaks, the transmitters, a record of an
unknown kind, and the authority watchdog. -/

namespace Sys2Proof.Machine

/-- GAP_TIMEOUT (R179, R180). -/
def execGapTimeout (l : Link) (o : Schedule) (s : State) : Host.Outcome State Fault Refusal :=
  s.take o (fun t => t.gapRunsOut l o)

/-- FRAMING_FAULT (R181): a line that went to space at the tick `fell` is back at mark `wait` ticks on. -/
def execFramingFault (l : Link) (space : LineSpace) (o : Schedule) (s : State) :
    Host.Outcome State Fault Refusal :=
  s.take o (fun t => (t.runFor space.wait).framingFault l space.fell o)

/-- BREAK_DETECTED (R181, R182): the receive line, which goes to space at the tick `fell`, stands at space
for 20 bit times. -/
def execBreakDetected (l : Link) (fell : Tick) (s : State) : Host.Outcome State Fault Refusal :=
  s.take .listed (fun t => t.detectBreak l fell)

/-- BREAK_END (R181): the receive line is seen at mark, `wait` ticks on. -/
def execBreakEnd (l : Link) (wait : Nat) (s : State) : Host.Outcome State Fault Refusal :=
  s.take .listed (fun t => (t.runFor wait).endBreak l)

/-- TRANSMIT_START (R186). -/
def execTransmitStart (l : Link) (s : State) : Host.Outcome State Fault Refusal :=
  s.take .listed (fun t => t.mapLink l (fun k => k.startSending t.elapsed))

/-- TRANSMIT_END (R186). -/
def execTransmitEnd (l : Link) (s : State) : Host.Outcome State Fault Refusal :=
  s.take .listed (fun t => t.endSending l)

/-- UNKNOWN_KIND (R183): a record whose kind is no request kind is received. A request kind is not
unknown, and its record is the command of its own row. -/
def execUnknownKind (kind : Byte) (r : Request) (s : State) : Host.Outcome State Fault Refusal :=
  match RequestKind.ofByte kind with
  | none => s.take r.order (fun t => t.receive kind r)
  | some _ => .next s

/-- WATCHDOG_EXPIRY (R190, R191): a millisecond tick at which the watchdog count reaches AUTH_TIMEOUT. -/
def execWatchdogExpiry (o : Schedule) (s : State) : Host.Outcome State Fault Refusal :=
  s.take o (fun u =>
    u.takenIf (fun a _ => a.watchdogDue) (fun t => t.takeMillisecond o.shares))

/-- BYTE_ARRIVAL (R177, R179 to R181, R183), `wait` ticks on. -/
def execByteArrival (l : Link) (byte : Byte) (wait : Nat) (o : Schedule) (s : State) :
    Host.Outcome State Fault Refusal :=
  s.take o (fun t => (t.runFor wait).byteArrives l byte o)

/-- RECORD_ABANDON (R182, R186). -/
def execRecordAbandon (l : Link) (s : State) : Host.Outcome State Fault Refusal :=
  s.take .listed (fun t => t.abandonSending l)

end Sys2Proof.Machine
end

