-- ==== Sys2Proof/Machine/ReadRequests.lean ====
section
/-! DEFINITION. Meanings of the requests either link may send (Table 10-2, kinds 0x01 to 0x0A). What each does
once it is taken is its rule's definition in Requests.lean, which `State.act` names. -/

namespace Sys2Proof.Machine

/-- READ_STATUS (R207, R193): a record of its kind is received and taken (R183). -/
def execReadStatus (r : Request) (s : State) : Host.Outcome State Fault Refusal :=
  s.request .readStatus r

/-- READ_MEASURE (R13, R208): a record of its kind is received and taken (R183). -/
def execReadMeasure (r : Request) (s : State) : Host.Outcome State Fault Refusal :=
  s.request .readMeasure r

/-- GET_SETTING (R199): a record of its kind is received and taken (R183). -/
def execGetSetting (r : Request) (s : State) : Host.Outcome State Fault Refusal :=
  s.request .getSetting r

/-- READ_ENVELOPE (R49, R204): a record of its kind is received and taken (R183). -/
def execReadEnvelope (r : Request) (s : State) : Host.Outcome State Fault Refusal :=
  s.request .readEnvelope r

/-- READ_COURSE (R145, R208): a record of its kind is received and taken (R183). -/
def execReadCourse (r : Request) (s : State) : Host.Outcome State Fault Refusal :=
  s.request .readCourse r

/-- READ_RECORD_HEADER (R170, R204): a record of its kind is received and taken (R183). -/
def execReadRecordHeader (r : Request) (s : State) : Host.Outcome State Fault Refusal :=
  s.request .readRecordHeader r

/-- READ_RECORD (R171, R205): a record of its kind is received and taken (R183). -/
def execReadRecord (r : Request) (s : State) : Host.Outcome State Fault Refusal :=
  s.request .readRecord r

/-- CLEAR_EVENTS (R187): a record of its kind is received and taken (R183). -/
def execClearEvents (r : Request) (s : State) : Host.Outcome State Fault Refusal :=
  s.request .clearEvents r

/-- SET_NOTICE_MASK (R187): a record of its kind is received and taken (R183). -/
def execSetNoticeMask (r : Request) (s : State) : Host.Outcome State Fault Refusal :=
  s.request .setNoticeMask r

/-- PING (R193): a record of its kind is received and taken (R183). -/
def execPing (r : Request) (s : State) : Host.Outcome State Fault Refusal :=
  s.request .ping r

end Sys2Proof.Machine
end

