-- ==== Sys2Proof/Machine/RecorderEvents.lean ====
section
/-! DEFINITION. Meanings of the recorder's events: SNAPSHOT and CAPTURE_COMPLETE. -/

namespace Sys2Proof.Machine

/-- SNAPSHOT (R162, R163): a scan at which the decimation counter reaches REC_DECIM. -/
def execSnapshot (samples : Samples) (o : Schedule) (s : State) :
    Host.Outcome State Fault Refusal :=
  s.take o (fun u =>
    u.takenIf (fun a _ => a.snapshotDue) (fun t => t.takeScan samples o.shares))

/-- CAPTURE_COMPLETE (R167): a scan at which the record reaches its planned length. -/
def execCaptureComplete (samples : Samples) (o : Schedule) (s : State) :
    Host.Outcome State Fault Refusal :=
  s.take o (fun u =>
    u.takenIf (fun a b => a.recorder.state != .frozen && b.recorder.state == .frozen)
      (fun t => t.takeScan samples o.shares))

end Sys2Proof.Machine
end

