-- ==== Sys2Proof/Machine/StackEvents.lean ====
section
/-! DEFINITION. Meanings of the stack channels' events: HOLD_END, LOW_LOAD_PARK and CELL_OVERVOLTAGE. -/

namespace Sys2Proof.Machine

/-- HOLD_END (R127): a millisecond tick at which the remaining hold of a channel's head reaches 0. -/
def execHoldEnd (c : Index) (o : Schedule) (s : State) : Host.Outcome State Fault Refusal :=
  s.take o (fun u =>
    u.takenIf (fun a _ => (a.beforeChannels o.shares).holdEnds c)
      (fun t => t.takeMillisecond o.shares))

/-- LOW_LOAD_PARK (R140): a millisecond tick at which the low-load timer reaches T_LOWLOAD. -/
def execLowLoadPark (c : Index) (o : Schedule) (s : State) : Host.Outcome State Fault Refusal :=
  s.take o (fun u =>
    u.takenIf
      (fun a b =>
        (a.channels.get c).state != .standby && (b.channels.get c).state == .standby)
      (fun t => t.takeMillisecond o.shares))

/-- CELL_OVERVOLTAGE (R139): a scan that is the second of a run above VCELL_TRIP. -/
def execCellOvervoltage (c : Index) (samples : Samples) (o : Schedule) (s : State) :
    Host.Outcome State Fault Refusal :=
  s.take o (fun u =>
    u.takenIf
      (fun a b =>
        (a.channels.get c).overvoltageScans == 1 && (b.channels.get c).overvoltageScans == 2)
      (fun t => t.takeScan samples o.shares))

end Sys2Proof.Machine
end

