-- ==== Sys2Proof/Machine/Tracking.lean ====
section
/-! DEFINITION. Meanings of the synchroniser's events (SYNC_LOCK to COAST_LIMIT_LOST). A row that names a
change of the sync state within an arrival, a window's close or a turn boundary is that event, where it
brings the change about (notes/assumptions/5.md). -/

namespace Sys2Proof.Machine

/-- The sync state goes from one state to another. -/
def syncGoes (from' to' : SyncState) (s t : State) : Bool :=
  s.sync.state == from' && t.sync.state == to'

/-- SYNC_LOCK (R28): an arrival whose good count reaches LOCK_COUNT. -/
def execSyncLock (line : Line) (rising : Bool) (wait : Nat) (o : Schedule) (s : State) :
    Host.Outcome State Fault Refusal :=
  s.take o (fun u =>
    u.takenIf (syncGoes .acquiring .locked) (fun t => (t.runFor wait).edge line rising o.shares))

/-- ANCHOR_GIVE_UP (R27). -/
def execAnchorGiveUp (s : State) : Host.Outcome State Fault Refusal :=
  s.take .listed State.giveUpAnchor

/-- WINDOW_OPEN (R30). -/
def execWindowOpen (s : State) : Host.Outcome State Fault Refusal :=
  s.take .listed State.openWindow

/-- WINDOW_CLOSE (R31, R35). -/
def execWindowClose (o : Schedule) (s : State) : Host.Outcome State Fault Refusal :=
  s.take o State.closeWindow

/-- COAST_ENTRY (R35): the close of a window whose miss brings the bad count to LOSS_COUNT. -/
def execCoastEntry (o : Schedule) (s : State) : Host.Outcome State Fault Refusal :=
  s.take o (fun u => u.takenIf (syncGoes .locked .coast) State.closeWindow)

/-- RE_ANCHOR (R37): an arrival whose consistency count reaches REANCHOR_COUNT. -/
def execReAnchor (line : Line) (rising : Bool) (wait : Nat) (o : Schedule) (s : State) :
    Host.Outcome State Fault Refusal :=
  s.take o (fun u =>
    u.takenIf (syncGoes .coast .locked) (fun t => (t.runFor wait).edge line rising o.shares))

/-- TURN_BOUNDARY (R24, R38, R87, R98). -/
def execTurnBoundary (o : Schedule) (s : State) : Host.Outcome State Fault Refusal :=
  s.take o (fun t => t.takeTurn o.shares)

/-- COAST_LIMIT_LOST (R38): a turn boundary at which the coast turn count reaches COAST_LIMIT. -/
def execCoastLimitLost (o : Schedule) (s : State) : Host.Outcome State Fault Refusal :=
  s.take o (fun u => u.takenIf (syncGoes .coast .lost) (fun t => t.takeTurn o.shares))

end Sys2Proof.Machine
end

