-- ==== Sys2Proof/Machine/TripEvents.lean ====
section
/-! DEFINITION. Meanings of the trip unit's own events: OVERCURRENT, EXTERNAL and EXTTRIP_LOW. -/

namespace Sys2Proof.Machine

/-- OVERCURRENT (R148): a scan that is the second of a run above I_TRIP_b. -/
def execOvercurrent (b : Index) (samples : Samples) (o : Schedule) (s : State) :
    Host.Outcome State Fault Refusal :=
  s.take o (fun u =>
    u.takenIf
      (fun a t => a.trip.overcurrentScans.get b == 1 && t.trip.overcurrentScans.get b == 2)
      (fun t => t.takeScan samples o.shares))

/-- EXTERNAL (R149): EXTTRIP is seen high `wait` ticks on. -/
def execExternal (wait : Nat) (o : Schedule) (s : State) : Host.Outcome State Fault Refusal :=
  s.take o (fun t => (t.runFor wait).externalHigh)

/-- EXTTRIP_LOW (R149): EXTTRIP is seen low `wait` ticks on. -/
def execExttripLow (wait : Nat) (s : State) : Host.Outcome State Fault Refusal :=
  s.take .listed (fun t => (t.runFor wait).externalLow)

end Sys2Proof.Machine
end

