-- ==== Sys2Proof/Machine/Dispatch.lean ====
section
/-! DEFINITION. The meaning of a command: one arm for each row of the table. -/

namespace Sys2Proof.Machine

/-- What a command does to the part. -/
def exec (i : Instr) (s : State) : Host.Outcome State Fault Refusal :=
  match i with
  | .powerOnReset pins => Sys2Proof.Machine.execPowerOnReset pins s
  | .resetLineAssert wait => Sys2Proof.Machine.execResetLineAssert wait s
  | .resetLineRelease pins => Sys2Proof.Machine.execResetLineRelease pins s
  | .scan samples o => Sys2Proof.Machine.execScan samples o s
  | .millisecondTick o => Sys2Proof.Machine.execMillisecondTick o s
  | .crossingEdge line rising wait o => Sys2Proof.Machine.execCrossingEdge line rising wait o s
  | .lastEdgeExpiry line => Sys2Proof.Machine.execLastEdgeExpiry line s
  | .syncLock line rising wait o => Sys2Proof.Machine.execSyncLock line rising wait o s
  | .anchorGiveUp => Sys2Proof.Machine.execAnchorGiveUp s
  | .windowOpen => Sys2Proof.Machine.execWindowOpen s
  | .windowClose o => Sys2Proof.Machine.execWindowClose o s
  | .coastEntry o => Sys2Proof.Machine.execCoastEntry o s
  | .reAnchor line rising wait o => Sys2Proof.Machine.execReAnchor line rising wait o s
  | .turnBoundary o => Sys2Proof.Machine.execTurnBoundary o s
  | .coastLimitLost o => Sys2Proof.Machine.execCoastLimitLost o s
  | .retardTimeout o => Sys2Proof.Machine.execRetardTimeout o s
  | .firing b o => Sys2Proof.Machine.execFiring b o s
  | .pulseExpiry b => Sys2Proof.Machine.execPulseExpiry b s
  | .episodeLong o => Sys2Proof.Machine.execEpisodeLong o s
  | .episodeEnd scan o => Sys2Proof.Machine.execEpisodeEnd scan o s
  | .frequency o => Sys2Proof.Machine.execFrequency o s
  | .holdEnd c o => Sys2Proof.Machine.execHoldEnd c o s
  | .lowLoadPark c o => Sys2Proof.Machine.execLowLoadPark c o s
  | .cellOvervoltage c samples o => Sys2Proof.Machine.execCellOvervoltage c samples o s
  | .overcurrent b samples o => Sys2Proof.Machine.execOvercurrent b samples o s
  | .external wait o => Sys2Proof.Machine.execExternal wait o s
  | .exttripLow wait => Sys2Proof.Machine.execExttripLow wait s
  | .breakerOpen wait o => Sys2Proof.Machine.execBreakerOpen wait o s
  | .breakerClose wait => Sys2Proof.Machine.execBreakerClose wait s
  | .snapshot samples o => Sys2Proof.Machine.execSnapshot samples o s
  | .captureComplete samples o => Sys2Proof.Machine.execCaptureComplete samples o s
  | .gapTimeout l o => Sys2Proof.Machine.execGapTimeout l o s
  | .framingFault l space o => Sys2Proof.Machine.execFramingFault l space o s
  | .breakDetected l fell => Sys2Proof.Machine.execBreakDetected l fell s
  | .breakEnd l wait => Sys2Proof.Machine.execBreakEnd l wait s
  | .transmitStart l => Sys2Proof.Machine.execTransmitStart l s
  | .transmitEnd l => Sys2Proof.Machine.execTransmitEnd l s
  | .unknownKind kind r => Sys2Proof.Machine.execUnknownKind kind r s
  | .readStatus r => Sys2Proof.Machine.execReadStatus r s
  | .readMeasure r => Sys2Proof.Machine.execReadMeasure r s
  | .getSetting r => Sys2Proof.Machine.execGetSetting r s
  | .readEnvelope r => Sys2Proof.Machine.execReadEnvelope r s
  | .readCourse r => Sys2Proof.Machine.execReadCourse r s
  | .readRecordHeader r => Sys2Proof.Machine.execReadRecordHeader r s
  | .readRecord r => Sys2Proof.Machine.execReadRecord r s
  | .clearEvents r => Sys2Proof.Machine.execClearEvents r s
  | .setNoticeMask r => Sys2Proof.Machine.execSetNoticeMask r s
  | .ping r => Sys2Proof.Machine.execPing r s
  | .setSetting r => Sys2Proof.Machine.execSetSetting r s
  | .loadEnvelope r => Sys2Proof.Machine.execLoadEnvelope r s
  | .deblock r => Sys2Proof.Machine.execDeblock r s
  | .stop r => Sys2Proof.Machine.execStop r s
  | .appendStep r => Sys2Proof.Machine.execAppendStep r s
  | .flush r => Sys2Proof.Machine.execFlush r s
  | .pause r => Sys2Proof.Machine.execPause r s
  | .resume r => Sys2Proof.Machine.execResume r s
  | .releaseStep r => Sys2Proof.Machine.execReleaseStep r s
  | .wake r => Sys2Proof.Machine.execWake r s
  | .tripClear r => Sys2Proof.Machine.execTripClear r s
  | .syncRestart r => Sys2Proof.Machine.execSyncRestart r s
  | .recordTrigger r => Sys2Proof.Machine.execRecordTrigger r s
  | .recordRelease r => Sys2Proof.Machine.execRecordRelease r s
  | .seize r => Sys2Proof.Machine.execSeize r s
  | .yield r => Sys2Proof.Machine.execYield r s
  | .watchdogExpiry o => Sys2Proof.Machine.execWatchdogExpiry o s
  | .byteArrival l byte wait o => Sys2Proof.Machine.execByteArrival l byte wait o s
  | .recordAbandon l => Sys2Proof.Machine.execRecordAbandon l s

end Sys2Proof.Machine
end

