-- ==== Sys2Proof/WellFormed.lean ====
section
/-! DEFINITION. When a command is one the environment can give: the interval before it is one the part
measures (R3), a received record has a payload of the length its frame allows (R178), and a record of
an unknown kind is of no request kind (Table 10-2). -/

namespace Sys2Proof

/-- The ticks that a command's operand says pass before it; 0 for a command whose tick the part's own
state fixes. -/
def Instr.waitTicks (i : Instr) : Nat :=
  match i with
  | .powerOnReset _ => 0
  | .resetLineAssert wait => wait
  | .resetLineRelease _ => 0
  | .scan _ _ => 0
  | .millisecondTick _ => 0
  | .crossingEdge _ _ wait _ => wait
  | .lastEdgeExpiry _ => 0
  | .syncLock _ _ wait _ => wait
  | .anchorGiveUp => 0
  | .windowOpen => 0
  | .windowClose _ => 0
  | .coastEntry _ => 0
  | .reAnchor _ _ wait _ => wait
  | .turnBoundary _ => 0
  | .coastLimitLost _ => 0
  | .retardTimeout _ => 0
  | .firing _ _ => 0
  | .pulseExpiry _ => 0
  | .episodeLong _ => 0
  | .episodeEnd _ _ => 0
  | .frequency _ => 0
  | .holdEnd _ _ => 0
  | .lowLoadPark _ _ => 0
  | .cellOvervoltage _ _ _ => 0
  | .overcurrent _ _ _ => 0
  | .external wait _ => wait
  | .exttripLow wait => wait
  | .breakerOpen wait _ => wait
  | .breakerClose wait => wait
  | .snapshot _ _ => 0
  | .captureComplete _ _ => 0
  | .gapTimeout _ _ => 0
  | .framingFault _ space _ => space.wait
  | .breakDetected _ _ => 0
  | .breakEnd _ wait => wait
  | .transmitStart _ => 0
  | .transmitEnd _ => 0
  | .unknownKind _ r => r.wait
  | .readStatus r => r.wait
  | .readMeasure r => r.wait
  | .getSetting r => r.wait
  | .readEnvelope r => r.wait
  | .readCourse r => r.wait
  | .readRecordHeader r => r.wait
  | .readRecord r => r.wait
  | .clearEvents r => r.wait
  | .setNoticeMask r => r.wait
  | .ping r => r.wait
  | .setSetting r => r.wait
  | .loadEnvelope r => r.wait
  | .deblock r => r.wait
  | .stop r => r.wait
  | .appendStep r => r.wait
  | .flush r => r.wait
  | .pause r => r.wait
  | .resume r => r.wait
  | .releaseStep r => r.wait
  | .wake r => r.wait
  | .tripClear r => r.wait
  | .syncRestart r => r.wait
  | .recordTrigger r => r.wait
  | .recordRelease r => r.wait
  | .seize r => r.wait
  | .yield r => r.wait
  | .watchdogExpiry _ => 0
  | .byteArrival _ _ wait _ => wait
  | .recordAbandon _ => 0

/-- The payload of the record a command receives; none for a command that is no record. -/
def Instr.payload (i : Instr) : List Byte :=
  match i with
  | .powerOnReset _ | .resetLineAssert _ | .resetLineRelease _ | .scan _ _ | .millisecondTick _
  | .crossingEdge _ _ _ _ | .lastEdgeExpiry _ | .syncLock _ _ _ _ | .anchorGiveUp | .windowOpen
  | .windowClose _ | .coastEntry _ | .reAnchor _ _ _ _ | .turnBoundary _ | .coastLimitLost _
  | .retardTimeout _ | .firing _ _ | .pulseExpiry _ | .episodeLong _ | .episodeEnd _ _
  | .frequency _ | .holdEnd _ _ | .lowLoadPark _ _ | .cellOvervoltage _ _ _ | .overcurrent _ _ _
  | .external _ _ | .exttripLow _ | .breakerOpen _ _ | .breakerClose _ | .snapshot _ _
  | .captureComplete _ _ | .gapTimeout _ _ | .framingFault _ _ _ | .breakDetected _ _
  | .breakEnd _ _ | .transmitStart _ | .transmitEnd _ | .watchdogExpiry _ | .byteArrival _ _ _ _
  | .recordAbandon _ => []
  | .unknownKind _ r | .readStatus r | .readMeasure r | .getSetting r | .readEnvelope r
  | .readCourse r | .readRecordHeader r | .readRecord r | .clearEvents r | .setNoticeMask r
  | .ping r | .setSetting r | .loadEnvelope r | .deblock r | .stop r | .appendStep r | .flush r
  | .pause r | .resume r | .releaseStep r | .wake r | .tripClear r | .syncRestart r
  | .recordTrigger r | .recordRelease r | .seize r | .yield r => r.payload

/-- A kind byte of Table 10-2. -/
def isRequestKind (kind : Byte) : Bool :=
  (decide (0x01 ≤ kind.toNat) && decide (kind.toNat ≤ 0x0A)) ||
    (decide (0x10 ≤ kind.toNat) && decide (kind.toNat ≤ 0x1D)) ||
    (decide (0x20 ≤ kind.toNat) && decide (kind.toNat ≤ 0x21))

/-- The interval before the command is one the part measures (R3). -/
def Instr.waitFits (i : Instr) : Bool := decide (i.waitTicks < Config.longestInterval)

/-- A received record's payload is of the length its frame allows (R178). -/
def Instr.payloadFits (i : Instr) : Bool := decide (i.payload.length ≤ Config.payloadMax)

/-- A record of an unknown kind is of no request kind. -/
def Instr.kindFits (i : Instr) : Bool :=
  match i with
  | .unknownKind kind _ => !isRequestKind kind
  | _ => true

/-- A command the environment can give. -/
def Instr.wellFormed (i : Instr) : Bool := i.waitFits && i.payloadFits && i.kindFits

end Sys2Proof
end

