-- ==== Sys2Proof/Safety.lean ====
section
/-! DEFINITION. What counts as a safe state of the part, and the terms the statements are written in: the
invariants the manual states, when a link is heard, and the parts of State a command leaves alone. -/

namespace Sys2Proof.Machine

/-! ## Invariants -/

/-- The trip latch, the breaker-trip line, the cause set and the bridges agree (R152). -/
def State.latchAgrees (s : State) : Prop :=
  (s.trip.latched = true →
      s.trip.breakerTrip = true ∧
        (∃ c, s.trip.firstOut = some c ∧ hasBit s.trip.causes c.bit = true) ∧
        ∀ b, s.bridgeState b = .lockout) ∧
    (s.trip.latched = false → s.trip.causes = 0 ∧ s.trip.breakerTrip = false)

/-- R152, but for a part held in reset, whose BKRTRIP is low (R147). -/
def State.tripSafe (s : State) : Prop := s.inReset = true ∨ s.latchAgrees

/-- The reply and notice queues of a link are within their limits (R184). -/
def LinkState.bounded (k : LinkState) : Prop :=
  k.replies.length ≤ Config.replyQueueMax ∧ k.notices.length ≤ Config.noticeQueueMax

/-- The queues of both links are within their limits (R184). -/
def State.queuesBounded (s : State) : Prop := ∀ l, (s.links.get l).bounded

/-- The tracked period lies between 66 Hz and 44 Hz (R22). -/
def State.periodBounded (s : State) : Prop :=
  Config.periodMin ≤ s.sync.period ∧ s.sync.period ≤ Config.periodMax

/-- Every setting is in its range, the cross-setting constraints hold, and both tables are valid against
the thresholds in force (R48, R200, R201). -/
def State.settingsValid (s : State) : Prop :=
  (∀ x : Setting, x.inRange (s.settings.value x) = true) ∧
    s.settings.consistent s.monitor.lowTable s.monitor.highTable = true ∧
    validLow s.settings.dipStart s.monitor.lowTable = true ∧
    validHigh s.settings.swellStart s.monitor.highTable = true

/-- Every course queue holds at most 16 steps (R123). -/
def State.coursesBounded (s : State) : Prop :=
  ∀ c, (s.channels.get c).queue.length ≤ Config.courseQueueMax

/-! ## Links -/

/-- The state in which a request is judged: `wait` ticks on, with its line at mark, and the watchdog
restarted where its link holds authority (R181, R183). -/
def State.atRequest (s : State) (r : Request) : State :=
  ((s.runFor r.wait).mapLink r.link LinkState.atMark).heardFrom r.link

/-- A record on the request's link is received and has room for its reply: the part is not in reset, the
line is not in break and fewer than 4 replies wait (R181, R183). -/
def State.hears (s : State) (r : Request) : Prop :=
  s.inReset = false ∧ s.inBreak r.link = false ∧
    (s.links.get r.link).replies.length < Config.replyQueueMax

/-- The state with a reply queued as the newest on its link (R183). -/
def State.withReply (s : State) (l : Link) (x : OutRecord) : State :=
  s.mapLink l (fun k => { k with replies := k.replies ++ [x] })

/-- A link's summary flag is set. -/
def State.flagged (s : State) (l : Link) (k : Nat) : Prop := hasBit (s.links.get l).summary k = true

/-- Nothing that a command raised is still to be taken, as it is between commands. -/
def State.settled (s : State) : Prop := s.outbox = [] ∧ s.triggers = []

/-- The part takes commands: it is not in reset, and nothing raised before is still to be taken. -/
def State.ready (s : State) : Prop := s.inReset = false ∧ s.settled

/-- The command of a request kind: its row of the table (Table 10-2). -/
def RequestKind.command (k : RequestKind) (r : Request) : Instr :=
  match k with
  | .readStatus => .readStatus r
  | .readMeasure => .readMeasure r
  | .getSetting => .getSetting r
  | .readEnvelope => .readEnvelope r
  | .readCourse => .readCourse r
  | .readRecordHeader => .readRecordHeader r
  | .readRecord => .readRecord r
  | .clearEvents => .clearEvents r
  | .setNoticeMask => .setNoticeMask r
  | .ping => .ping r
  | .setSetting => .setSetting r
  | .loadEnvelope => .loadEnvelope r
  | .deblock => .deblock r
  | .stop => .stop r
  | .appendStep => .appendStep r
  | .flush => .flush r
  | .pause => .pause r
  | .resume => .resume r
  | .releaseStep => .releaseStep r
  | .wake => .wake r
  | .tripClear => .tripClear r
  | .syncRestart => .syncRestart r
  | .recordTrigger => .recordTrigger r
  | .recordRelease => .recordRelease r
  | .seize => .seize r
  | .yield => .yield r

/-- One event taken by the link unit: its flag is set on both links, and its notice is offered to each
(R185). -/
def State.announced (s : State) (e : Event) : State :=
  { s with
    links := s.links.map (fun k => ({ k with summary := addBit k.summary e.row } : LinkState).offer e) }

/-! ## What a command leaves alone -/

/-- The parts of a link that an event of the other blocks leaves alone: all but its event summary and
its notice queue (R185). -/
def LinkState.lineKept (k k' : LinkState) : Prop :=
  k'.heldBytes = k.heldBytes ∧ k'.frameErrors = k.frameErrors ∧ k'.brk = k.brk ∧
    k'.replies = k.replies ∧ k'.transmitter = k.transmitter ∧ k'.mask = k.mask

/-- The parts that no event of the train's own blocks changes: the reset, the link rate, BKRCL, the
settings and envelope tables, the commands that wait, and the lines of both links. Nothing raised is
left to take. -/
def State.coreKept (s t : State) : Prop :=
  t.inReset = s.inReset ∧ t.rate = s.rate ∧ t.breakerClosed = s.breakerClosed ∧
    t.settings = s.settings ∧ t.monitor.lowTable = s.monitor.lowTable ∧
    t.monitor.highTable = s.monitor.highTable ∧ t.pending = s.pending ∧ t.settled ∧
    ∀ l, (s.links.get l).lineKept (t.links.get l)

/-- The same, with the millisecond tick, authority and its watchdog left alone too. -/
def State.frameKept (s t : State) : Prop :=
  s.coreKept t ∧ t.millisecondAt = s.millisecondAt ∧ t.holder = s.holder ∧ t.watchdog = s.watchdog

/-- A trip is latched with this cause alone, and every bridge and channel stands as the latch leaves it
(R94, R143, R150). -/
def State.showsTrip (t : State) (cause : TripCause) : Prop :=
  t.trip.latched = true ∧ t.trip.firstOut = some cause ∧ t.trip.causes = addBit 0 cause.bit ∧
    t.trip.breakerTrip = true ∧
    (∀ b, t.bridgeState b = .lockout ∧ (t.bridges.get b).blockCause = none ∧
      (t.bridges.get b).heldCauses = ⟨false, false⟩ ∧ (t.bridges.get b).next = none ∧
      (t.bridges.get b).pulse = none) ∧
    ∀ c, (t.channels.get c).queue = [] ∧ (t.channels.get c).headPhase = none ∧
      (t.channels.get c).remainingHold = none ∧ (t.channels.get c).course = 0 ∧
      (t.channels.get c).lowLoadTimer = 0 ∧
      ((t.channels.get c).state = .idle ∨ (t.channels.get c).state = .standby)

/-- No frequency trip comes at the next millisecond tick: the frequency is absent or in its band, or
the excursion has raised its trip already (R64). -/
def State.frequencyQuiet (s : State) : Prop :=
  ∀ f, s.sync.frequency = some f → s.frequencyOutside f = true → s.monitor.excursionTripped = true

/-! ## Edges -/

/-- An edge `wait` ticks on is accepted and handed to the synchroniser: it is no chatter, and the
crossing set does not filter its line (R14, R17). -/
def State.handsOn (s : State) (line : Line) (wait : Nat) : Prop :=
  (s.runFor wait).isChatter line = false ∧ filters s.settings.crossSet line = false

/-- The arrival of an edge `wait` ticks on (R16). -/
def State.arrivalAt (s : State) (line : Line) (rising : Bool) (wait : Nat) : Arrival :=
  ⟨crossingOf line rising, (s.runFor wait).counter⟩

/-- The state after an accepted edge `wait` ticks on, as the synchroniser takes its arrival (R14). -/
def State.edgeAccepted (s : State) (line : Line) (rising : Bool) (wait : Nat) : State :=
  (s.runFor wait).mapScanner (fun c =>
    { c with
      level := c.level.set line rising
      lastEdge := c.lastEdge.set line (some (s.runFor wait).counter) })

end Sys2Proof.Machine
end

