-- ==== Sys2Proof/Certificates/Slice0/Obligations.lean ====
section
/-! DEFINITION. The statements for the provers, chapter by chapter. Each is about one command, or a few
commands of one shape: what state it answers, and what it leaves alone. The words they use beside the
model's own are in Sys2Proof/Safety.lean. -/

open Sys2Proof Sys2Proof.Machine

/-! ## Steps and resets -/

/-- A step takes the command at the front of the queue and runs it on the state with the queue's rest. -/
def Obligations.StepTakesFront : Prop :=
  ∀ (c : Instr) (q : List Instr) (s : State), step (s.withPending (c :: q)) = exec c (s.withPending q)

/-- Power-on reset sets every block's state and every setting to the reset value that its table states
(R3; Tables 1-5, 2-1, 3-1, 4-1, 5-1, 6-1, 7-1, 8-1, 9-1, 9-2), reads the RATE strap, and leaves RSTN and
the waiting commands as they are. The turn mark and what is still to be taken are the model's own
(logs 4 and 7). -/
def Obligations.PowerOnResetValues : Prop :=
  ∀ (pins : Pins) (s : State), ∃ t, exec (.powerOnReset pins) s = .next t ∧
    t.elapsed = 0 ∧ t.millisecondAt = 0 ∧ t.inReset = s.inReset ∧ t.pending = s.pending ∧
    t.rate = (if pins.rateHigh then .fast else .slow) ∧ t.breakerClosed = pins.bkrcl ∧
    t.settings = Settings.default ∧
    t.scanner =
      { scanAt := 0, u := ⟨0, 0, 0⟩, i := ⟨0, 0, 0, 0⟩, e := ⟨0, 0, 0, 0⟩,
        uSaturated := ⟨false, false, false⟩, iSaturated := ⟨false, false, false, false⟩,
        eSaturated := ⟨false, false, false, false⟩, squares := ⟨[], [], []⟩, rms := ⟨0, 0, 0⟩,
        g := 0, uAvg := 0, vCell := ⟨0, 0, 0, 0⟩, level := pins.crossing,
        lastEdge := ⟨none, none, none⟩, chatter := ⟨0, 0, 0⟩, filtered := ⟨0, 0, 0⟩ } ∧
    t.sync =
      { state := .acquiring, unanchored := true, anchorTick := 0, anchorAngle := 0,
        period := 200000, good := 0, bad := 0, consistency := 0, previous := none, window := none,
        coastTurns := 0, lastStep := none, stray := 0, mismatch := 0, frequencyLimit := false,
        turn := .unmarked } ∧
    t.monitor =
      { state := .normal, episode := none, elapsedTime := 0, recent := [],
        lowTable := [⟨0, 0⟩, ⟨150, 0⟩, ⟨700, 700⟩, ⟨1500, 850⟩],
        highTable := [⟨0, 1300⟩, ⟨100, 1200⟩, ⟨1000, 1100⟩],
        recoveryTimer := 0, excursionTimer := 0, excursionTripped := false,
        refStart := ⟨0, 0, 0, 0⟩, cap := ⟨none, none, none, none⟩, holdRequest := false } ∧
    (∀ b, t.bridges.get b =
      { state := .blocked, blockCause := none, heldCauses := ⟨false, false⟩, next := none,
        lastFired := none, pulse := none, retardTurns := 0 }) ∧
    (∀ b, t.regulators.get b =
      { integral := 0, sum := 0, count := 0, mean := none, alphaReq := none,
        lastLimited := false }) ∧
    (∀ c, t.channels.get c =
      { state := .idle, course := 0, queue := [], headPhase := none, remainingHold := none,
        headClamped := false, foldCap := 0, foldback := false, safe := false, lowLoadTimer := 0,
        overvoltageScans := 0 }) ∧
    t.trip =
      { latched := false, firstOut := none, causes := 0, tick := 0,
        overcurrentScans := ⟨0, 0, 0, 0⟩, externalHigh := false, breakerTrip := false } ∧
    t.recorder = { state := .armed, ring := [], decimation := 0, header := none, missed := 0 } ∧
    (∀ l, t.links.get l =
      { heldBytes := [], frameErrors := 0,
        brk := if pins.rxSpace.get l then .space 0 else .mark,
        replies := [], notices := [], transmitter := none, mask := 511, summary := 0 }) ∧
    t.holder = .p ∧ t.watchdog = 0 ∧ t.settled

/-- RSTN going low drops the gates, BKRTRIP and both transmissions and keeps a FROZEN record with its
survived-reset flag set; while it stays low no other command but power-on reset changes anything; its
return starts every block as power-on reset does, a kept record apart (R3, R75, R147, R174, R176). That
no command has an effect in reset, and what the assertion itself changes, are read from those rules
(logs 8 and 9, DEDUCED). -/
def Obligations.ResetLineHoldsAndStarts : Prop :=
  (∀ (wait : Nat) (s : State), s.inReset = false →
    ∃ t, exec (.resetLineAssert wait) s = .next t ∧ t.inReset = true ∧
      (∀ b n, t.gate b n = false) ∧ t.trip.breakerTrip = false ∧
      (∀ l, (t.links.get l).transmitter = none) ∧
      (s.recorder.state = .frozen →
        t.recorder.state = .frozen ∧ t.recorder.ring = s.recorder.ring ∧
          t.recorder.missed = s.recorder.missed ∧
          t.recorder.header = s.recorder.header.map (fun h => { h with survivedReset := true })) ∧
      (s.recorder.state ≠ .frozen →
        t.recorder =
          { state := .armed, ring := [], decimation := 0, header := none, missed := 0 }) ∧
      t.pending = s.pending) ∧
  (∀ (c : Instr) (s : State), s.inReset = true → (∀ pins, c ≠ .powerOnReset pins) →
    (∀ pins, c ≠ .resetLineRelease pins) → exec c s = .next s) ∧
  ∀ (pins : Pins) (s : State), s.inReset = true →
    ∃ t u, exec (.resetLineRelease pins) s = .next t ∧
      exec (.powerOnReset pins) { s with inReset := false } = .next u ∧
      t = { u with recorder := s.recorder }

/-! ## Chapter 1: measurement and time base -/

/-- A scan comes at a multiple of 800 elapsed ticks. It replaces the eleven values, their saturated
flags and every value derived from them together, and leaves the crossing inputs, the synchroniser and
the frame alone (R4, R7 to R12). Where it starts no episode and completes no run of scans over a limit,
it also adds each current to its accumulator and moves the scan counts, and changes no bridge, no
monitor and no trip (R103, R139, R148). -/
def Obligations.ScanReplacesValues : Prop :=
  ∀ (x : Samples) (o : Schedule) (s : State), s.inReset = false →
    ∃ t, exec (.scan x o) s = .next t ∧
      800 ∣ t.elapsed ∧ s.elapsed ≤ t.elapsed ∧ t.elapsed ≤ s.elapsed + 800 ∧
      t.scanner.scanAt = t.elapsed ∧
      (∀ l, t.scanner.u.get l = min (max (roundInt (x.u.get l) 1000) (-6000)) 6000) ∧
      (∀ b, t.scanner.i.get b = min (max (roundInt (x.i.get b) 1000) (-2000)) 48000) ∧
      (∀ c, t.scanner.e.get c = min (max (roundInt (x.e.get c) 1000) 0) 150000) ∧
      (∀ l, t.scanner.uSaturated.get l = true ↔
        t.scanner.u.get l = -6000 ∨ t.scanner.u.get l = 6000) ∧
      (∀ b, t.scanner.iSaturated.get b = true ↔
        t.scanner.i.get b = -2000 ∨ t.scanner.i.get b = 48000) ∧
      (∀ c, t.scanner.eSaturated.get c = true ↔
        t.scanner.e.get c = 0 ∨ t.scanner.e.get c = 150000) ∧
      (∀ l, t.scanner.squares.get l =
        (s.scanner.squares.get l ++ [(t.scanner.u.get l).natAbs ^ 2]).drop
          ((s.scanner.squares.get l).length + 1 - 125)) ∧
      (∀ l, t.scanner.rms.get l =
        rootMean (t.scanner.squares.get l).sum (t.scanner.squares.get l).length) ∧
      t.scanner.g =
        min (roundNat (1000 * min (min t.scanner.rms.ab t.scanner.rms.bc) t.scanner.rms.ca)
          s.settings.uNom) 1999 ∧
      t.scanner.uAvg = roundNat (t.scanner.rms.ab + t.scanner.rms.bc + t.scanner.rms.ca) 3 ∧
      (∀ c, t.scanner.vCell.get c =
        roundInt (t.scanner.e.get c * 100) (s.settings.cells.get c)) ∧
      t.scanner.level = s.scanner.level ∧ t.scanner.lastEdge = s.scanner.lastEdge ∧
      t.scanner.chatter = s.scanner.chatter ∧ t.scanner.filtered = s.scanner.filtered ∧
      t.sync = s.sync ∧ s.frameKept t ∧
      (s.monitor.state = .normal → s.settings.dipStart ≤ t.scanner.g →
        t.scanner.g ≤ s.settings.swellStart → (∀ b, s.trip.overcurrentScans.get b ≠ 1) →
        (∀ c, (s.channels.get c).overvoltageScans ≠ 1) →
        t.bridges = s.bridges ∧ t.monitor = s.monitor ∧ t.trip.latched = s.trip.latched ∧
        t.trip.causes = s.trip.causes ∧
        (∀ b,
          (s.bridgeState b = .deblocking ∨ s.bridgeState b = .running ∨
              s.bridgeState b = .retarding →
            t.regulators.get b =
              { s.regulators.get b with
                sum := (s.regulators.get b).sum + t.scanner.i.get b
                count := (s.regulators.get b).count + 1 }) ∧
          (s.bridgeState b = .blocked ∨ s.bridgeState b = .held ∨ s.bridgeState b = .lockout →
            t.regulators.get b = s.regulators.get b) ∧
          t.trip.overcurrentScans.get b =
            (if (s.settings.iTrip.get b : Int) < t.scanner.i.get b then
              min (s.trip.overcurrentScans.get b + 1) 2 else 0) ∧
          t.channels.get b =
            { s.channels.get b with
              overvoltageScans :=
                if (s.settings.vcellTrip : Int) < t.scanner.vCell.get b then
                  min ((s.channels.get b).overvoltageScans + 1) 2 else 0 }))

/-- A millisecond tick comes at a multiple of 10,000 elapsed ticks. In whatever order the blocks take
it, every recent episode ages by 1 ms up to 600,000, the elapsed time of a LOW or HIGH episode counts,
the recovery timer counts in the band and short of RECOVER_TIME, a DIP cap in LOW follows g, a RAMP cap
rises by RECOVERY_RATE and is removed at ref_start, and the watchdog counts while it is in use and not
yet due (R5, R51, R57, R62, R67, R68, R190). -/
def Obligations.MillisecondTickCounts : Prop :=
  ∀ (o : Schedule) (s : State), s.inReset = false →
    ∃ t, exec (.millisecondTick o) s = .next t ∧
      10000 ∣ t.elapsed ∧ s.elapsed ≤ t.elapsed ∧ t.elapsed ≤ s.elapsed + 10000 ∧
      t.millisecondAt = t.elapsed ∧
      t.monitor.recent =
        s.monitor.recent.map (fun x => { x with age := min (x.age + 1) 600000 }) ∧
      t.monitor.elapsedTime =
        (if s.monitor.state = .low ∨ s.monitor.state = .high then s.monitor.elapsedTime + 1
          else s.monitor.elapsedTime) ∧
      (s.monitor.state = .recovering ∨ s.monitor.state = .long →
        (s.settings.dipEnd ≤ s.scanner.g → s.scanner.g ≤ s.settings.swellEnd →
          s.settings.recoverTime = 0 ∨ s.monitor.recoveryTimer + 1 < s.settings.recoverTime →
          t.monitor.recoveryTimer = s.monitor.recoveryTimer + 1 ∧
            t.monitor.state = s.monitor.state) ∧
        (s.scanner.g < s.settings.dipEnd ∨ s.settings.swellEnd < s.scanner.g →
          t.monitor.recoveryTimer = s.monitor.recoveryTimer ∧
            t.monitor.state = s.monitor.state)) ∧
      t.monitor.refStart = s.monitor.refStart ∧
      (∀ c, s.monitor.cap.get c = none → t.monitor.cap.get c = none) ∧
      (∀ c k, s.monitor.cap.get c = some k →
        (k.mode = .ramp →
          t.monitor.cap.get c =
            (if s.monitor.refStart.get c ≤ k.value + s.settings.recoveryRate then none
            else some ⟨.ramp, k.value + s.settings.recoveryRate⟩)) ∧
        (k.mode = .dip → s.monitor.state = .low →
          s.monitor.elapsedTime + 1 < s.settings.episodeMax →
          t.monitor.cap.get c =
            some ⟨.dip,
              s.monitor.refStart.get c * max s.scanner.g s.settings.capFloor / 1000⟩) ∧
        (k.mode = .dip → s.monitor.state ≠ .low → s.monitor.state ≠ .high →
          t.monitor.cap.get c = some k)) ∧
      (s.settings.authTimeout = 0 → t.watchdog = 0 ∧ t.holder = s.holder) ∧
      (s.watchdog + 1 < s.settings.authTimeout →
        t.watchdog = s.watchdog + 1 ∧ t.holder = s.holder) ∧
      t.scanner = s.scanner ∧ t.sync = s.sync ∧ s.coreKept t

/-- An edge within the chatter guard of its line's last accepted edge is discarded and counted; an
accepted edge of a line that the crossing set does not use is counted as filtered. Either leaves the
line's level as the edge left it, and nothing else changes (R14, R17). -/
def Obligations.ChatterAndFilterCount : Prop :=
  ∀ (line : Line) (rising : Bool) (wait : Nat) (o : Schedule) (s : State), s.ready →
    (∀ t0, s.scanner.lastEdge.get line = some t0 →
      (s.runFor wait).since t0 < s.settings.crossGuard * 10 →
      exec (.crossingEdge line rising wait o) s = .next
        { s with
          elapsed := s.elapsed + wait
          scanner :=
            { s.scanner with
              level := s.scanner.level.set line rising
              chatter :=
                s.scanner.chatter.set line (min (s.scanner.chatter.get line + 1) 65535) } }) ∧
    ((∀ t0, s.scanner.lastEdge.get line = some t0 →
        s.settings.crossGuard * 10 ≤ (s.runFor wait).since t0) →
      s.settings.crossSet = .abOnly → line ≠ .ab →
      exec (.crossingEdge line rising wait o) s = .next
        { s with
          elapsed := s.elapsed + wait
          scanner :=
            { s.scanner with
              level := s.scanner.level.set line rising
              lastEdge := s.scanner.lastEdge.set line (some (s.runFor wait).counter)
              filtered :=
                s.scanner.filtered.set line (min (s.scanner.filtered.get line + 1) 65535) } })

/-- 2^31 ticks after a line's last accepted edge that edge becomes absent, and 2^31 ticks after the
previous arrival an anchored synchroniser in ACQUIRING gives up its anchor. Nothing else changes
(R14, R27). The turn mark is the model's own (log 4). -/
def Obligations.SilenceExpires : Prop :=
  (∀ (line : Line) (t0 : Tick) (s : State), s.ready → s.scanner.lastEdge.get line = some t0 →
    exec (.lastEdgeExpiry line) s = .next
      { s with
        elapsed := s.elapsed + (2147483648 - s.since t0)
        scanner := { s.scanner with lastEdge := s.scanner.lastEdge.set line none } }) ∧
  ∀ (a : Arrival) (s : State), s.ready → s.sync.state = .acquiring → s.sync.unanchored = false →
    s.sync.previous = some a →
    exec .anchorGiveUp s = .next
      { s with
        elapsed := s.elapsed + (2147483648 - s.since a.tick)
        sync :=
          { s.sync with unanchored := true, previous := none, good := 0, turn := .unmarked } }

/-! ## Chapter 2: the line synchroniser -/

/-- An arrival taken in ACQUIRING while the unanchored flag is set anchors the phase at its nominal
angle with the nominal period: the phase is present from there on and equals that angle (R26). The
first arrival in LOST anchors in the same way and makes the state ACQUIRING, with a SYNC event, at which
the frequency excursion is forgotten and no bridge is left out of BLOCKED and LOCKOUT; the other blocks
stay (R39, R40, R64, R92). The turn mark is the model's own (log 4), and a bridge blocked from HELD keeps
its held causes by log 16 (DEDUCED, unsafe). -/
def Obligations.UnanchoredArrivalAnchors : Prop :=
  ∀ (line : Line) (rising : Bool) (wait : Nat) (o : Schedule) (s : State), s.ready →
    s.handsOn line wait →
    let u := s.edgeAccepted line rising wait
    let a := s.arrivalAt line rising wait
    let y : Sync :=
      { s.sync with
        anchorTick := a.tick, anchorAngle := a.crossing.angle,
        period := (match s.settings.fNom with | .hz50 => 200000 | .hz60 => 166667),
        good := 0, previous := some a, unanchored := false, turn := .unmarked }
    (s.sync.state = .acquiring → s.sync.unanchored = true →
      exec (.crossingEdge line rising wait o) s = .next { u with sync := y } ∧
        ({ u with sync := y } : State).phase = some a.crossing.angle) ∧
    (s.sync.state = .lost →
      ∃ t, exec (.crossingEdge line rising wait o) s = .next t ∧
        t.sync = { y with state := .acquiring, bad := 0, consistency := 0 } ∧
        t.phase = some a.crossing.angle ∧ (∀ l, t.flagged l 0) ∧ t.elapsed = u.elapsed ∧
        t.scanner = u.scanner ∧
        t.monitor = { s.monitor with excursionTimer := 0, excursionTripped := false } ∧
        (∀ b, t.bridges.get b =
          (match s.bridgeState b with
          | .running | .held | .retarding =>
            { s.bridges.get b with state := .blocked, blockCause := some .sync, next := none }
          | .deblocking =>
            { s.bridges.get b with state := .blocked, blockCause := some .abandoned, next := none }
          | .blocked | .lockout => s.bridges.get b)) ∧
        t.regulators = s.regulators ∧ t.channels = s.channels ∧ t.trip = s.trip ∧
        t.recorder = s.recorder ∧ s.frameKept t)

/-- An arrival in ACQUIRING of an anchored synchroniser is judged by its period estimate and its phase
error: it is a mismatch, a bad arrival, a good one, or the good one at which LOCK_COUNT is reached,
which makes the state LOCKED with the following crossing's window current and raises a SYNC event
(R27, R28, R29, R30, R40). That SYNC_LOCK is the whole arrival is the model's choice (log 5), and the
turn mark is the model's own (log 4). -/
def Obligations.AcquisitionArrivalsAreJudged : Prop :=
  ∀ (line : Line) (rising : Bool) (wait : Nat) (o : Schedule) (s : State) (prev : Arrival) (θ : Nat),
    s.ready → s.handsOn line wait → s.sync.state = .acquiring →
    s.sync.previous = some prev →
    s.sync.phaseAt (s.arrivalAt line rising wait).tick = some θ →
    let u := s.edgeAccepted line rising wait
    let a := s.arrivalAt line rising wait
    let advance :=
      if a.crossing = prev.crossing then 36000
      else wrapAngle ((a.crossing.angle : Int) - (prev.crossing.angle : Int))
    let est := roundNat ((a.tick - prev.tick).toNat * 36000) advance
    let anchored : Sync :=
      { s.sync with
        anchorTick := a.tick, anchorAngle := a.crossing.angle, previous := some a,
        unanchored := false, turn := .unmarked }
    let averaged : Sync :=
      { anchored with
        period := roundNat (s.sync.period + est) 2, good := s.sync.good + 1,
        frequencyLimit := false }
    let k := nextCrossing s.settings.crossSet a.crossing
    let opens := wrapAngle ((k.angle : Int) - (s.settings.syncWindow : Int))
    let closes := wrapAngle ((k.angle : Int) + (s.settings.syncWindow : Int))
    let locked : State :=
      ({ u with
        sync :=
          { averaged with
            state := .locked, bad := 0, window := some ⟨k, opens, closes, .waiting⟩ } }).announced
        (.sync .locked none)
    exec (.crossingEdge line rising wait o) s = .next
      (if 151515 ≤ est ∧ est ≤ 227273 then
        if |signedAngle θ a.crossing.angle| ≤ (s.settings.syncWindow : Int) then
          if s.sync.good + 1 = s.settings.lockCount then locked else { u with sync := averaged }
        else
          { u with sync := { anchored with period := est, good := 0, frequencyLimit := false } }
      else
        { u with sync := { anchored with good := 0, mismatch := min (s.sync.mismatch + 1) 65535 } }) ∧
    (151515 ≤ est → est ≤ 227273 →
      |signedAngle θ a.crossing.angle| ≤ (s.settings.syncWindow : Int) →
      s.sync.good + 1 = s.settings.lockCount →
      exec (.syncLock line rising wait o) s = .next locked)

/-- In LOCKED an arrival of the expected crossing while its window is OPEN corrects the anchor and the
period and consumes the window; where the correction is no forward step nothing but the synchroniser
and the crossing input changes. A forward step fires, at the correction itself, each thyristor whose due
angle lies in the arc it sweeps, and where that arc holds 0 it carries a turn boundary; short of
RETARD_LIMIT it changes nothing else. Any other arrival is stray: it counts, becomes the previous
arrival, and corrects nothing (R21, R22, R24, R32, R33, R79, R98). The turn mark is the model's own
(log 4), and so is that an angle at the old phase is not in the arc's reach for a firing (log 32). -/
def Obligations.LockedArrivalsCorrectOrStray : Prop :=
  ∀ (line : Line) (rising : Bool) (wait : Nat) (o : Schedule) (s : State), s.ready →
    s.handsOn line wait → s.sync.state = .locked →
    let u := s.edgeAccepted line rising wait
    let a := s.arrivalAt line rising wait
    (∀ (w : Window) (θ : Nat), s.sync.window = some w → s.sync.phaseAt a.tick = some θ →
      w.status = .opened → a.crossing = w.expected →
      let e := signedAngle θ a.crossing.angle
      let angle := wrapAngle ((θ : Int) - roundInt e (2 ^ s.settings.phaseK))
      let p := (s.sync.period : Int) +
        roundInt (roundInt (e * (s.sync.period : Int)) 36000) (2 ^ s.settings.periodK)
      let step := signedAngle angle θ
      let y : Sync :=
        { s.sync with
          anchorTick := a.tick, anchorAngle := angle, previous := some a, unanchored := false,
          turn := if u.turnPending = true ∧ 0 ≤ step then .due u.elapsed else .unmarked
          period := (min (max p 151515) 227273).toNat,
          frequencyLimit := !(decide (151515 ≤ p) && decide (p ≤ 227273)), bad := 0,
          window := some { w with status := .consumed } }
      ∃ t, exec (.crossingEdge line rising wait o) s = .next t ∧ t.sync = y ∧
        t.elapsed = u.elapsed ∧ t.scanner = u.scanner ∧ s.frameKept t ∧
        (step ≤ 0 → t = { u with sync := y }) ∧
        (0 < step →
          (∀ d, s.bridgeState d = .retarding →
            (s.bridges.get d).retardTurns + 1 < s.settings.retardLimit) →
          let v : State := { u with sync := y }
          let swept (x : Nat) : Bool :=
            decide (0 < forwardArc θ x) && decide (forwardArc θ x ≤ forwardArc θ angle)
          let pulse (n : Scheduled) : Pulse :=
            ⟨n.thyristor, (n.thyristor + 4) % 6 + 1,
              u.counter + BitVec.ofNat 32 (s.settings.pulseWidth * 10)⟩
          t.monitor = s.monitor ∧ t.channels = s.channels ∧ t.trip = s.trip ∧
          t.recorder = s.recorder ∧
          ∀ b,
            (∀ n, (s.bridges.get b).next = some n → swept n.due = true →
              (s.bridgeState b = .running →
                let r := v.regulate b
                let req := r.alphaReq.getD s.settings.alphaMax
                let alpha := v.slew req n.alpha
                let n' := n.thyristor % 6 + 1
                t.bridges.get b =
                  { s.bridges.get b with
                    pulse := some (pulse n), lastFired := some ⟨n.thyristor, n.alpha⟩
                    next :=
                      some ⟨n', (n' * 6000 + s.settings.shift.get b + alpha) % 36000, alpha⟩ } ∧
                t.regulators.get b = { r with lastLimited := alpha != req }) ∧
              (s.bridgeState b = .retarding ∨
                  (s.bridgeState b = .deblocking ∧ s.monitor.holdRequest = false) →
                (t.bridges.get b).pulse = some (pulse n) ∧
                  (t.bridges.get b).lastFired = some ⟨n.thyristor, n.alpha⟩) ∧
              (s.bridgeState b = .deblocking → s.monitor.holdRequest = true →
                t.bridges.get b =
                  { s.bridges.get b with
                    state := .blocked, blockCause := some .abandoned, next := none })) ∧
            ((∀ n, (s.bridges.get b).next = some n → swept n.due = false) →
              (s.bridgeState b = .running ∨ s.bridgeState b = .deblocking →
                t.bridges.get b = s.bridges.get b ∧ t.regulators.get b = s.regulators.get b) ∧
              (s.bridgeState b = .retarding →
                t.bridges.get b =
                  { s.bridges.get b with
                    retardTurns :=
                      (s.bridges.get b).retardTurns + (if swept 0 then 1 else 0) })) ∧
            (s.bridgeState b = .held → swept 0 = true →
              (s.bridges.get b).heldCauses = ⟨true, false⟩ →
              t.bridgeState b = .running ∧ (t.bridges.get b).heldCauses = ⟨false, false⟩) ∧
            (s.bridgeState b = .held → swept 0 = false → t.bridges.get b = s.bridges.get b) ∧
            (s.bridgeState b = .blocked ∨ s.bridgeState b = .lockout →
              t.bridges.get b = s.bridges.get b))) ∧
    ((∀ w, s.sync.window = some w → ¬(w.status = .opened ∧ a.crossing = w.expected)) →
      exec (.crossingEdge line rising wait o) s = .next
        { u with
          sync := { s.sync with stray := min (s.sync.stray + 1) 65535, previous := some a } })

/-- A WAITING window opens at its opening angle. A CONSUMED window ends at its closing angle, and an
OPEN one does so with a miss; the following crossing's window is then current (R30, R31). -/
def Obligations.WindowsOpenAndClose : Prop :=
  ∀ (o : Schedule) (s : State) (w : Window), s.ready → s.sync.state = .locked →
    s.sync.window = some w →
    let k := nextCrossing s.settings.crossSet w.expected
    let next : Window :=
      ⟨k, wrapAngle ((k.angle : Int) - (s.settings.syncWindow : Int)),
        wrapAngle ((k.angle : Int) + (s.settings.syncWindow : Int)), .waiting⟩
    (w.status = .waiting →
      exec .windowOpen s = .next
        { s.runToAngle w.opening with
          sync := { s.sync with window := some { w with status := .opened } } }) ∧
    (w.status = .consumed →
      exec (.windowClose o) s = .next
        { s.runToAngle w.closing with sync := { s.sync with window := some next } }) ∧
    (w.status = .opened → s.sync.bad + 1 < s.settings.lossCount →
      exec (.windowClose o) s = .next
        { s.runToAngle w.closing with
          sync := { s.sync with bad := s.sync.bad + 1, window := some next } })

/-- The miss that brings the bad count to LOSS_COUNT enters COAST with the anchor and period as they
stand, raises a SYNC event, triggers an armed recorder that takes the source, and abandons every
DEBLOCKING bridge; no other bridge changes (R35, R40, R92, R165). That COAST_ENTRY is the whole close is
the model's choice (log 5), and a count beyond LOSS_COUNT enters COAST too (log 24, DEDUCED). -/
def Obligations.CoastEntryFreezesThePhase : Prop :=
  ∀ (o : Schedule) (s : State) (w : Window), s.ready → s.sync.state = .locked →
    s.sync.window = some w → w.status = .opened → s.settings.lossCount ≤ s.sync.bad + 1 →
    ∃ t, exec (.coastEntry o) s = .next t ∧ exec (.windowClose o) s = .next t ∧
      t.elapsed = (s.runToAngle w.closing).elapsed ∧
      t.sync =
        { s.sync with
          state := .coast, bad := s.settings.lossCount, consistency := 0, coastTurns := 0,
          previous := none, window := none } ∧
      (∀ l, t.flagged l 0) ∧
      (∀ b, s.bridgeState b = .deblocking →
        t.bridges.get b =
          { s.bridges.get b with
            state := .blocked, blockCause := some .abandoned, next := none }) ∧
      (∀ b, s.bridgeState b ≠ .deblocking → t.bridges.get b = s.bridges.get b) ∧
      (s.recorder.state = .armed → hasBit s.settings.recTriggers 2 = true →
        t.recorder.state = .capturing ∧
          t.recorder.header.map (fun h => h.cause) = some .syncLeftLocked) ∧
      t.scanner = s.scanner ∧ t.monitor = s.monitor ∧ t.regulators = s.regulators ∧
      t.channels = s.channels ∧ t.trip = s.trip ∧ s.frameKept t

/-- The consistent arrival in COAST at which REANCHOR_COUNT is reached records the phase step, anchors
at its nominal angle with the period kept, and returns to LOCKED with the following crossing's window
current and a SYNC event. A step beyond STEP_LIMIT holds every RUNNING bridge with the cause STEP, adds
that cause to every HELD one, and blocks every RETARDING one with HOLD_STOP. A step within STEP_LIMIT
does so, where it goes forward, to the bridges whose due angle lies in the arc it sweeps, and leaves the
others their schedule; short of RETARD_LIMIT they take no more than the turn boundary that the step
carries, and a passage that the frozen phase made at this tick leaves no mark (R21, R24, R36, R37, R38,
R40, R96, R97, R98). That RE_ANCHOR is the whole arrival is the model's choice (log 5), and the turn mark
is the model's own (log 4). -/
def Obligations.ReAnchorReturnsToLocked : Prop :=
  ∀ (line : Line) (rising : Bool) (wait : Nat) (o : Schedule) (s : State) (prev : Arrival) (θ : Nat),
    s.ready → s.handsOn line wait → s.sync.state = .coast →
    s.sync.previous = some prev →
    s.sync.phaseAt (s.arrivalAt line rising wait).tick = some θ →
    let u := s.edgeAccepted line rising wait
    let a := s.arrivalAt line rising wait
    let advance :=
      if a.crossing = prev.crossing then 36000
      else wrapAngle ((a.crossing.angle : Int) - (prev.crossing.angle : Int))
    let delta := signedAngle a.crossing.angle θ
    let k := nextCrossing s.settings.crossSet a.crossing
    |(roundNat ((a.tick - prev.tick).toNat * 36000) s.sync.period : Int) - (advance : Int)|
        ≤ (s.settings.syncWindow : Int) →
    s.sync.consistency + 1 = s.settings.reanchorCount →
    ∃ t, exec (.reAnchor line rising wait o) s = .next t ∧
      exec (.crossingEdge line rising wait o) s = .next t ∧
      t.sync =
        { s.sync with
          anchorTick := a.tick, anchorAngle := a.crossing.angle, previous := some a,
          unanchored := false, turn := .unmarked, lastStep := some delta, state := .locked, bad := 0, consistency := 0,
          window :=
            some ⟨k, wrapAngle ((k.angle : Int) - (s.settings.syncWindow : Int)),
              wrapAngle ((k.angle : Int) + (s.settings.syncWindow : Int)), .waiting⟩ } ∧
      (∀ l, t.flagged l 0) ∧
      ((s.settings.stepLimit : Int) < |delta| → ∀ b,
        (s.bridgeState b = .running →
          (t.bridges.get b).state = .held ∧ (t.bridges.get b).heldCauses = ⟨true, false⟩ ∧
            (t.bridges.get b).next = none ∧ (t.bridges.get b).pulse = (s.bridges.get b).pulse) ∧
        (s.bridgeState b = .held →
          t.bridges.get b =
            { s.bridges.get b with
              heldCauses := { (s.bridges.get b).heldCauses with step := true } }) ∧
        (s.bridgeState b = .retarding →
          (t.bridges.get b).state = .blocked ∧
            (t.bridges.get b).blockCause = some .holdStop)) ∧
      (|delta| ≤ (s.settings.stepLimit : Int) →
        (∀ d, s.bridgeState d = .retarding →
          (s.bridges.get d).retardTurns + 1 < s.settings.retardLimit) →
        let swept (x : Nat) : Bool :=
          decide (0 < delta) && decide (0 < forwardArc θ x) &&
            decide (forwardArc θ x ≤ forwardArc θ a.crossing.angle)
        ∀ b,
          (∀ n, (s.bridges.get b).next = some n → swept n.due = true →
            (s.bridgeState b = .running →
              t.bridges.get b =
                { s.bridges.get b with state := .held, heldCauses := ⟨true, false⟩, next := none }) ∧
            (s.bridgeState b = .retarding →
              t.bridges.get b =
                { s.bridges.get b with
                  state := .blocked, blockCause := some .holdStop, next := none })) ∧
          ((∀ n, (s.bridges.get b).next = some n → swept n.due = false) →
            (s.bridgeState b = .running → t.bridges.get b = s.bridges.get b) ∧
            (s.bridgeState b = .retarding →
              t.bridges.get b =
                { s.bridges.get b with
                  retardTurns := (s.bridges.get b).retardTurns + (if swept 0 then 1 else 0) })) ∧
          (s.bridgeState b = .held → swept 0 = true →
            (s.bridges.get b).heldCauses = ⟨true, false⟩ →
            t.bridgeState b = .running ∧ (t.bridges.get b).heldCauses = ⟨false, false⟩) ∧
          (s.bridgeState b = .held → swept 0 = false → t.bridges.get b = s.bridges.get b)) ∧
      t.elapsed = u.elapsed ∧ t.scanner = u.scanner ∧ s.frameKept t

/-- A turn boundary reached by running, short of COAST_LIMIT and RETARD_LIMIT: COAST counts a turn, a
RETARDING bridge counts a turn, and a HELD bridge drops the cause STEP and runs again where no cause is
left. No other bridge, and no other block, changes (R24, R38, R87, R91, R98). A passage of 0 that this
tick brought is taken now, also after a good arrival of this tick that moved the anchor. The turn mark by
which it is so is the model's own (log 4). -/
def Obligations.TurnBoundaryCounts : Prop :=
  ∀ (o : Schedule) (s : State), s.ready → s.phase.isSome = true →
    (s.sync.state = .coast → s.sync.coastTurns + 1 < s.settings.coastLimit) →
    (∀ b, s.bridgeState b = .retarding → (s.bridges.get b).retardTurns + 1 < s.settings.retardLimit) →
    ∃ t, exec (.turnBoundary o) s = .next t ∧ t.elapsed = s.runToTurn.elapsed ∧
      (s.sync.turn = .due s.elapsed → t.elapsed = s.elapsed) ∧
      t.sync =
        { s.sync with
          turn := .taken t.elapsed
          coastTurns :=
            if s.sync.state = .coast then s.sync.coastTurns + 1 else s.sync.coastTurns } ∧
      (∀ b,
        (s.bridgeState b = .retarding →
          t.bridges.get b =
            { s.bridges.get b with retardTurns := (s.bridges.get b).retardTurns + 1 }) ∧
        (s.bridgeState b = .held → (s.bridges.get b).heldCauses = ⟨true, false⟩ →
          t.bridgeState b = .running ∧ (t.bridges.get b).heldCauses = ⟨false, false⟩) ∧
        (s.bridgeState b = .held → (s.bridges.get b).heldCauses = ⟨true, true⟩ →
          t.bridges.get b = { s.bridges.get b with heldCauses := ⟨false, true⟩ }) ∧
        (s.bridgeState b = .held → (s.bridges.get b).heldCauses.step = false →
          t.bridges.get b = s.bridges.get b) ∧
        (s.bridgeState b ≠ .retarding → s.bridgeState b ≠ .held →
          t.bridges.get b = s.bridges.get b)) ∧
      (∀ b, s.bridgeState b ≠ .held → t.regulators.get b = s.regulators.get b) ∧
      t.scanner = s.scanner ∧ t.monitor = s.monitor ∧ t.channels = s.channels ∧
      t.trip = s.trip ∧ t.recorder = s.recorder ∧ s.frameKept t

/-- The turn boundary at which the coast turn count reaches COAST_LIMIT makes the synchroniser LOST: the
phase is withdrawn, a SYNC event is raised, the frequency excursion is forgotten, and every bridge is
BLOCKED or in LOCKOUT (R38, R40, R64, R92). That COAST_LIMIT_LOST is the whole turn boundary is the
model's choice (log 5), and the turn mark is the model's own (log 4). -/
def Obligations.CoastLimitLosesThePhase : Prop :=
  ∀ (o : Schedule) (s : State), s.ready → s.phase.isSome = true → s.sync.state = .coast →
    s.settings.coastLimit ≤ s.sync.coastTurns + 1 →
    ∃ t, exec (.coastLimitLost o) s = .next t ∧ exec (.turnBoundary o) s = .next t ∧
      t.elapsed = s.runToTurn.elapsed ∧ t.phase = none ∧
      t.sync =
        { s.sync with
          turn := .taken t.elapsed, coastTurns := s.sync.coastTurns + 1, state := .lost,
          unanchored := true, previous := none, window := none } ∧
      (∀ l, t.flagged l 0) ∧
      t.monitor = { s.monitor with excursionTimer := 0, excursionTripped := false } ∧
      (∀ b, t.bridgeState b = .blocked ∨ t.bridgeState b = .lockout) ∧
      t.scanner = s.scanner ∧ s.frameKept t

/-- Running to an angle ends at the first tick from now on at which the tracked phase equals it
(R20). -/
def Obligations.RunToAngleIsFirst : Prop :=
  ∀ (s : State) (θ angle : Nat), s.periodBounded → s.phase = some θ → angle < 36000 →
    s.sinceAnchor + 2 * s.sync.period < 4294967296 →
    (s.runToAngle angle).phase = some angle ∧
      ∀ d, s.elapsed + d < (s.runToAngle angle).elapsed → (s.runFor d).phase ≠ some angle

/-! ## Chapters 4 and 5: bridges and regulators -/

/-- The turn boundary at which a RETARDING bridge's turn count reaches RETARD_LIMIT latches a trip with
the cause RETARD_TIMEOUT, and every RETARDING bridge has counted it (R87, R94, R98, R143, R150). That
RETARD_TIMEOUT is the whole turn boundary is the model's choice (log 5), that all have counted before the
latch is read from 'every' in R98 (log 7, DEDUCED), and the tick rests on the turn mark (log 4). -/
def Obligations.RetardTimeoutTrips : Prop :=
  ∀ (o : Schedule) (s : State) (b : Index), s.ready → s.phase.isSome = true →
    (s.sync.state = .coast → s.sync.coastTurns + 1 < s.settings.coastLimit) →
    s.bridgeState b = .retarding → s.settings.retardLimit ≤ (s.bridges.get b).retardTurns + 1 →
    s.trip.latched = false → s.trip.causes = 0 →
    ∃ t, exec (.retardTimeout o) s = .next t ∧ exec (.turnBoundary o) s = .next t ∧
      t.showsTrip .retardTimeout ∧ t.trip.tick = t.counter ∧ (∀ l, t.flagged l 5) ∧
      (∀ d, s.bridgeState d = .retarding →
        (t.bridges.get d).retardTurns = (s.bridges.get d).retardTurns + 1) ∧
      t.elapsed = s.runToTurn.elapsed ∧ t.scanner = s.scanner ∧ t.monitor = s.monitor ∧
      s.frameKept t

/-- A RUNNING bridge's due angle fires its thyristor: the pulse starts with its predecessor and its
expiry tick, the regulator forms the interval mean, integrates, computes α_req and clears its
accumulator, and the next thyristor is scheduled at the slewed angle. Nothing else changes (R76 to R78,
R104 to R112, R135). That α_req is the rounded arccos of a ratio held in -1..1, limited as an angle and
not as a cosine, is log 2 (DEDUCED). -/
def Obligations.FiringRunsTheRegulator : Prop :=
  ∀ (b : Index) (o : Schedule) (s : State) (n : Scheduled), s.ready →
    s.bridgeState b = .running → (s.bridges.get b).next = some n →
    let u := s.runToAngle n.due
    let r := s.regulators.get b
    let st := s.settings
    let mean := if 0 < r.count then roundInt r.sum r.count else s.scanner.i.get b
    let k := s.channels.get b
    let reference :=
      min (min (min k.course (st.iMax.get b * 1000)) k.foldCap)
        (match s.monitor.cap.get b with | none => k.foldCap | some x => x.value)
    let err : Int := ((reference / 1000 : Nat) : Int) - mean
    let limit : Int := (st.xLim : Int) * 1000
    let x :=
      if r.lastLimited then r.integral
      else min (max (r.integral + roundInt (err * (st.ki : Int)) 16) (-limit)) limit
    let feed := if st.feedFwd then s.scanner.e.get b * 100 else 0
    let demand := feed + err * (st.kp : Int) + x
    let ideal := roundNat (13505 * s.scanner.uAvg) 10
    let ratio := min (max (roundInt (demand * 16384) ideal) (-16384)) 16384
    let req :=
      if ideal < 10000 then st.alphaMin
      else min (max (arccosSteps ratio) st.alphaMin) st.alphaMax
    let slewed := min (max req (n.alpha - st.dalphaMax)) (n.alpha + st.dalphaMax)
    let alpha := min (max slewed st.alphaMin) st.alphaMax
    let n' := n.thyristor % 6 + 1
    exec (.firing b o) s = .next
      { u with
        bridges :=
          s.bridges.set b
            { s.bridges.get b with
              pulse :=
                some ⟨n.thyristor, (n.thyristor + 4) % 6 + 1,
                  u.counter + BitVec.ofNat 32 (st.pulseWidth * 10)⟩
              lastFired := some ⟨n.thyristor, n.alpha⟩
              next := some ⟨n', (n' * 6000 + st.shift.get b + alpha) % 36000, alpha⟩ }
        regulators :=
          s.regulators.set b
            { r with
              integral := x, sum := 0, count := 0, mean := some mean, alphaReq := some req,
              lastLimited := alpha != req } }

/-- The due angle of a DEBLOCKING bridge makes it RUNNING with its first firing, regulated as that of a
RUNNING bridge is (O18 spells the terms), or abandons it where the hold request is on. That of a
RETARDING bridge fires toward ALPHA_MAX with the integral kept, and stops it once ALPHA_MAX is reached
with a mean current below I_ZERO (R77, R78, R83, R84, R86, R105, R113). -/
def Obligations.FiringOutsideRunning : Prop :=
  ∀ (b : Index) (o : Schedule) (s : State) (n : Scheduled), s.ready →
    (s.bridges.get b).next = some n →
    let u := s.runToAngle n.due
    (s.bridgeState b = .deblocking → s.monitor.holdRequest = false →
      let started : Bridge := { s.bridges.get b with state := .running }
      let r := ({ s with bridges := s.bridges.set b started } : State).regulate b
      let req := r.alphaReq.getD s.settings.alphaMax
      let alpha := s.slew req n.alpha
      let n' := n.thyristor % 6 + 1
      exec (.firing b o) s = .next
        (({ u with
          bridges :=
            s.bridges.set b
              { started with
                pulse :=
                  some ⟨n.thyristor, (n.thyristor + 4) % 6 + 1,
                    u.counter + BitVec.ofNat 32 (s.settings.pulseWidth * 10)⟩
                lastFired := some ⟨n.thyristor, n.alpha⟩
                next :=
                  some ⟨n', (n' * 6000 + s.settings.shift.get b + alpha) % 36000, alpha⟩ }
          regulators := s.regulators.set b { r with lastLimited := alpha != req } }).announced
          (.bridge b .running .none))) ∧
    (s.bridgeState b = .deblocking → s.monitor.holdRequest = true →
      exec (.firing b o) s = .next
        (({ u with
          bridges :=
            s.bridges.set b
              { s.bridges.get b with
                state := .blocked, blockCause := some .abandoned, next := none } }).announced
          (.bridge b .blocked (.block .abandoned)))) ∧
    (s.bridgeState b = .retarding →
      let r := s.regulators.get b
      let mean := if 0 < r.count then roundInt r.sum r.count else s.scanner.i.get b
      let st := s.settings
      let alpha :=
        min (max (min (max st.alphaMax (n.alpha - st.dalphaMax)) (n.alpha + st.dalphaMax))
          st.alphaMin) st.alphaMax
      let n' := n.thyristor % 6 + 1
      let fired : Bridge :=
        { s.bridges.get b with
          pulse :=
            some ⟨n.thyristor, (n.thyristor + 4) % 6 + 1,
              u.counter + BitVec.ofNat 32 (st.pulseWidth * 10)⟩
          lastFired := some ⟨n.thyristor, n.alpha⟩
          next := some ⟨n', (n' * 6000 + st.shift.get b + alpha) % 36000, alpha⟩ }
      let v : State :=
        { u with
          bridges := s.bridges.set b fired
          regulators :=
            s.regulators.set b
              { r with
                sum := 0, count := 0, mean := some mean, lastLimited := alpha != st.alphaMax } }
      exec (.firing b o) s = .next
        (if alpha = st.alphaMax ∧ mean < (st.iZero : Int) then
          ({ v with
            bridges :=
              s.bridges.set b
                { fired with
                  state := .blocked, blockCause := some .stopDone, next := none } }).announced
            (.bridge b .blocked (.block .stopDone))
        else v))

/-- The first thyristor of a bridge is one of the six at ALPHA_START, and no other of them is due
sooner ahead of the phase, a due angle at the phase itself counting as a full turn ahead (R82). -/
def Obligations.FirstThyristorIsNearest : Prop :=
  ∀ (s : State) (b : Index) (θ : Nat),
    let x := s.firstThyristor b θ
    (1 ≤ x.thyristor ∧ x.thyristor ≤ 6) ∧ x.alpha = s.settings.alphaStart ∧
      x.due = (x.thyristor * 6000 + s.settings.shift.get b + x.alpha) % 36000 ∧
      ∀ n, 1 ≤ n → n ≤ 6 →
        distanceAhead θ x.due ≤
          distanceAhead θ ((n * 6000 + s.settings.shift.get b + s.settings.alphaStart) % 36000)

/-- A pulse ends at its expiry tick, BKRCL asserting permits later DEBLOCKs, and EXTTRIP going low
re-arms its cause; none of the three changes anything else (R77, R93, R149). -/
def Obligations.QuietLineEvents : Prop :=
  (∀ (b : Index) (p : Pulse) (s : State), s.ready → (s.bridges.get b).pulse = some p →
    exec (.pulseExpiry b) s = .next
      { s.runToTick p.expiry with
        bridges := s.bridges.set b { s.bridges.get b with pulse := none } }) ∧
  (∀ (wait : Nat) (s : State), s.ready →
    exec (.breakerClose wait) s = .next
      { s with elapsed := s.elapsed + wait, breakerClosed := true }) ∧
  ∀ (wait : Nat) (s : State), s.ready →
    exec (.exttripLow wait) s = .next
      { s with elapsed := s.elapsed + wait, trip := { s.trip with externalHigh := false } }

/-- BKRCL deasserting blocks every DEBLOCKING, RUNNING, HELD and RETARDING bridge with the cause
BREAKER, a pulse in progress left to complete, and changes nothing else (R93). That a HELD bridge keeps
its held causes is log 16 (DEDUCED, unsafe), and that the row acts whatever BKRCL was seen at is log 19
(DEDUCED). -/
def Obligations.BreakerOpeningBlocks : Prop :=
  ∀ (wait : Nat) (o : Schedule) (s : State), s.ready →
    ∃ t, exec (.breakerOpen wait o) s = .next t ∧ t.elapsed = s.elapsed + wait ∧
      t.breakerClosed = false ∧
      (∀ b, s.bridgeState b = .blocked ∨ s.bridgeState b = .lockout →
        t.bridges.get b = s.bridges.get b) ∧
      (∀ b, s.bridgeState b ≠ .blocked → s.bridgeState b ≠ .lockout →
        (t.bridges.get b =
          { s.bridges.get b with
            state := .blocked, blockCause := some .breaker, next := none }) ∧
        ∀ l, t.flagged l 1) ∧
      t.scanner = s.scanner ∧ t.sync = s.sync ∧ t.monitor = s.monitor ∧
      t.regulators = s.regulators ∧ t.channels = s.channels ∧ t.trip = s.trip ∧
      t.recorder = s.recorder ∧ s.frameKept { t with breakerClosed := s.breakerClosed }

/-! ## Chapter 3: the ride-through monitor -/

/-- A scan in NORMAL or RECOVERING whose grid level lies below DIP_START, or else above SWELL_START, opens
an episode of that kind: its record and its list entry, LOW or HIGH with the counts at 0, an EPISODE
event, the envelope cause where the limit at time 0 is breached already, REPEAT where the list is full,
and the hold request below HOLD_LEVEL. A LOW start fixes ref_start and a DIP cap for every channel, at
the effective reference where no trip comes first, and a HIGH start leaves them. The hold request that
turns on holds, blocks or abandons the bridges; from RECOVERING the old episode's end, SUPERSEDED, is
announced before the start (R52 to R55, R58, R62, R66, R70, R83, R88, R89). -/
def Obligations.EpisodeOpens : Prop :=
  ∀ (x : Samples) (o : Schedule) (s : State), s.ready →
    s.monitor.state = .normal ∨ s.monitor.state = .recovering →
    s.settings.dipStart < s.settings.dipEnd → s.settings.swellEnd < s.settings.swellStart →
    let g := (s.completeScan x).scanner.g
    let tick := (s.completeScan x).counter
    let recent := s.monitor.recent.filter (fun r => decide (r.age < s.settings.repeatWindow * 1000))
    let untripped : Prop :=
      recent.length < s.settings.repeatMax ∧ (∀ b, s.trip.overcurrentScans.get b ≠ 1) ∧
        ∀ c, (s.channels.get c).overvoltageScans ≠ 1
    let endsFirst (t : State) (kind : EpisodeKind) : Prop :=
      ∀ e l, s.monitor.state = .recovering → s.monitor.episode = some e →
        hasBit (s.links.get l).mask 4 = true → (s.links.get l).notices.length ≤ 4 →
        [(Event.episode true e.kind .superseded e.extreme e.tripped).notice,
          (Event.episode false kind .opened g false).notice].Sublist (t.links.get l).notices
    let opened (t : State) (kind : EpisodeKind) : Prop :=
      t.monitor.elapsedTime = 0 ∧ t.monitor.recoveryTimer = 0 ∧
        (∃ e, t.monitor.episode = some e ∧ e.kind = kind ∧ e.startTick = tick ∧ e.extreme = g ∧
          e.outcome = .opened) ∧
        (recent.length < s.settings.repeatMax → t.monitor.recent = recent ++ [⟨tick, 0⟩]) ∧
        (s.settings.repeatMax ≤ recent.length →
          t.monitor.recent = recent.tail ++ [⟨tick, 0⟩] ∧ t.trip.latched = true ∧
            hasBit t.trip.causes TripCause.repeated.bit = true) ∧
        (∀ l, t.flagged l 4) ∧ s.frameKept t
    (g < s.settings.dipStart →
      ∃ t, exec (.scan x o) s = .next t ∧ t.monitor.state = .low ∧ opened t .low ∧
        (g < limitAt s.monitor.lowTable 0 →
          t.trip.latched = true ∧ hasBit t.trip.causes TripCause.envelopeLow.bit = true) ∧
        (untripped → ∀ c,
          let k := s.channels.get c
          let m := min (min k.course (s.settings.iMax.get c * 1000)) k.foldCap
          let ref :=
            if s.bridgeState c = .running then
              (match s.monitor.cap.get c with | none => m | some y => min m y.value)
            else 0
          t.monitor.refStart.get c = ref ∧
            t.monitor.cap.get c =
              (if 0 < ref then some ⟨.dip, ref * max g s.settings.capFloor / 1000⟩ else none)) ∧
        (untripped → limitAt s.monitor.lowTable 0 ≤ g → s.settings.holdLevel = 0 →
          s.monitor.holdRequest = false → endsFirst t .low) ∧
        (0 < s.settings.holdLevel → g < s.settings.holdLevel → s.monitor.holdRequest = false →
          t.monitor.holdRequest = true ∧
          (untripped → limitAt s.monitor.lowTable 0 ≤ g → ∀ b,
            t.bridges.get b =
              (match s.bridgeState b with
              | .running =>
                { s.bridges.get b with state := .held, heldCauses := ⟨false, true⟩, next := none }
              | .held =>
                { s.bridges.get b with
                  heldCauses := { (s.bridges.get b).heldCauses with dip := true } }
              | .retarding =>
                { s.bridges.get b with
                  state := .blocked, blockCause := some .holdStop, next := none }
              | .deblocking =>
                { s.bridges.get b with
                  state := .blocked, blockCause := some .abandoned, next := none }
              | .blocked | .lockout => s.bridges.get b)))) ∧
    (s.settings.dipStart ≤ g → s.settings.swellStart < g →
      ∃ t, exec (.scan x o) s = .next t ∧ t.monitor.state = .high ∧ opened t .high ∧
        (limitAt s.monitor.highTable 0 < g →
          t.trip.latched = true ∧ hasBit t.trip.causes TripCause.envelopeHigh.bit = true) ∧
        (untripped → g ≤ limitAt s.monitor.highTable 0 → endsFirst t .high) ∧
        t.monitor.refStart = s.monitor.refStart ∧ t.monitor.cap = s.monitor.cap)

/-- The elapsed time reaching EPISODE_MAX makes a LOW or HIGH episode LONG and SUSTAINED, with the hold
request off and every cap ramping. A scan in LOW or HIGH back past its end threshold enters RECOVERING
in the same way, with the outcome kept, and a HELD bridge drops the cause DIP and runs again where no
cause is left. A scan in LONG raises an envelope cause beyond a table's last level, once for the
episode. The recovery timer reaching RECOVER_TIME, or with RECOVER_TIME 0 a scan in band, that which
enters RECOVERING among them, returns the monitor to NORMAL with an EPISODE event (R54 to R57, R59,
R60, R68, R70, R90, R91). That EPISODE_LONG and EPISODE_END are the whole tick or scan is the model's
choice (log 5), that a timer beyond its limit has reached it is log 25 (DEDUCED), and that the recovery
timer does not count at the very tick that enters LONG is log 21 (DEDUCED, unsafe). -/
def Obligations.EpisodesRecoverGoLongAndEnd : Prop :=
  (∀ (o : Schedule) (s : State), s.inReset = false →
    s.monitor.state = .low ∨ s.monitor.state = .high →
    s.settings.episodeMax ≤ s.monitor.elapsedTime + 1 →
    ∃ t, exec (.episodeLong o) s = .next t ∧ exec (.millisecondTick o) s = .next t ∧
      t.monitor.state = .long ∧ t.monitor.elapsedTime = s.monitor.elapsedTime + 1 ∧
      t.monitor.recoveryTimer = 0 ∧ t.monitor.holdRequest = false ∧
      t.monitor.episode = s.monitor.episode.map (fun e => { e with outcome := .sustained }) ∧
      (∀ c k, t.monitor.cap.get c = some k → k.mode = .ramp) ∧
      t.scanner = s.scanner ∧ t.sync = s.sync ∧ s.coreKept t) ∧
  (∀ (o : Schedule) (s : State) (e : Episode), s.inReset = false →
    s.monitor.state = .recovering ∨ s.monitor.state = .long → s.monitor.episode = some e →
    s.settings.dipEnd ≤ s.scanner.g → s.scanner.g ≤ s.settings.swellEnd →
    0 < s.settings.recoverTime → s.settings.recoverTime ≤ s.monitor.recoveryTimer + 1 →
    ∃ t, exec (.episodeEnd none o) s = .next t ∧ exec (.millisecondTick o) s = .next t ∧
      t.monitor.state = .normal ∧ t.monitor.recoveryTimer = 0 ∧
      t.monitor.episode =
        some { e with
          outcome := if s.monitor.state = .long then .sustained else .recovered } ∧
      (∀ l, t.flagged l 4) ∧ t.scanner = s.scanner ∧ t.sync = s.sync ∧ s.coreKept t) ∧
  ∀ (x : Samples) (o : Schedule) (s : State) (e : Episode), s.inReset = false →
    s.monitor.episode = some e →
    s.settings.dipStart ≤ s.settings.dipEnd → s.settings.swellEnd ≤ s.settings.swellStart →
    let g := (s.completeScan x).scanner.g
    let inBand := s.settings.dipEnd ≤ g ∧ g ≤ s.settings.swellEnd
    let noted : Episode :=
      { e with extreme := match e.kind with | .low => min e.extreme g | .high => max e.extreme g }
    let back :=
      (s.monitor.state = .low ∧ s.settings.dipEnd ≤ g ∧
          limitAt s.monitor.lowTable s.monitor.elapsedTime ≤ g) ∨
        (s.monitor.state = .high ∧ g ≤ s.settings.swellEnd ∧
          g ≤ limitAt s.monitor.highTable s.monitor.elapsedTime)
    let ends (episode : Episode) : Prop :=
      ∃ t, exec (.episodeEnd (some x) o) s = .next t ∧ exec (.scan x o) s = .next t ∧
        t.monitor.state = .normal ∧ t.monitor.recoveryTimer = 0 ∧
        t.monitor.episode = some episode ∧ (∀ l, t.flagged l 4) ∧ t.sync = s.sync ∧ s.frameKept t
    (s.settings.recoverTime = 0 → inBand →
      (s.monitor.state = .recovering → ends { e with outcome := .recovered }) ∧
      (back → ends { noted with outcome := .recovered }) ∧
      (s.monitor.state = .long → lastLevel s.monitor.lowTable ≤ g →
        g ≤ lastLevel s.monitor.highTable → ends { noted with outcome := .sustained })) ∧
    (back → (inBand → 0 < s.settings.recoverTime) →
      ∃ t, exec (.scan x o) s = .next t ∧ t.monitor.state = .recovering ∧
        t.monitor.recoveryTimer = 0 ∧ t.monitor.elapsedTime = s.monitor.elapsedTime ∧
        t.monitor.holdRequest = false ∧ t.monitor.episode = some noted ∧
        t.monitor.refStart = s.monitor.refStart ∧
        (∀ c, t.monitor.cap.get c =
          (s.monitor.cap.get c).map (fun k => { k with mode := .ramp })) ∧
        (s.monitor.holdRequest = true → (∀ b, s.trip.overcurrentScans.get b ≠ 1) →
          (∀ c, (s.channels.get c).overvoltageScans ≠ 1) → ∀ b, s.bridgeState b = .held →
          ((s.bridges.get b).heldCauses = ⟨false, true⟩ →
            t.bridges.get b =
              { s.bridges.get b with
                state := .running, heldCauses := ⟨false, false⟩
                next := (s.completeScan x).phase.map (s.firstThyristor b) } ∧
            ∀ l, t.flagged l 1) ∧
          ((s.bridges.get b).heldCauses = ⟨true, true⟩ →
            t.bridges.get b = { s.bridges.get b with heldCauses := ⟨true, false⟩ })) ∧
        t.sync = s.sync ∧ s.frameKept t) ∧
    (s.monitor.state = .long → (inBand → 0 < s.settings.recoverTime) →
      let low := decide (g < lastLevel s.monitor.lowTable) && !hasBit e.causes 1
      let high := decide (lastLevel s.monitor.highTable < g) && !hasBit e.causes 2
      ∃ t, exec (.scan x o) s = .next t ∧ t.monitor.state = .long ∧
        (inBand → t.monitor.recoveryTimer = s.monitor.recoveryTimer) ∧
        (¬inBand → t.monitor.recoveryTimer = 0) ∧
        t.monitor.episode =
          some { noted with
            causes := e.causes ||| (if low then 2 else 0) ||| (if high then 4 else 0)
            tripped := e.tripped || low || high } ∧
        (low = true →
          t.trip.latched = true ∧ hasBit t.trip.causes TripCause.envelopeLow.bit = true) ∧
        (high = true →
          t.trip.latched = true ∧ hasBit t.trip.causes TripCause.envelopeHigh.bit = true) ∧
        t.sync = s.sync ∧ s.frameKept t)

/-- The excursion timer reaching F_DELAY with the frequency outside its band latches a trip with the
cause FREQUENCY, once for the excursion (R64, R150). That FREQUENCY is the whole millisecond tick is the
model's choice (log 5). -/
def Obligations.FrequencyTrips : Prop :=
  ∀ (o : Schedule) (s : State) (f : Nat), s.inReset = false → s.sync.frequency = some f →
    f < s.settings.fLow ∨ s.settings.fHigh < f → s.monitor.excursionTripped = false →
    s.settings.fDelay ≤ s.monitor.excursionTimer + 1 → s.trip.latched = false →
    ∃ t, exec (.frequency o) s = .next t ∧ exec (.millisecondTick o) s = .next t ∧
      t.monitor.excursionTripped = true ∧
      t.monitor.excursionTimer = s.monitor.excursionTimer + 1 ∧
      t.showsTrip .frequency ∧ t.trip.tick = t.counter ∧ (∀ l, t.flagged l 5) ∧
      t.scanner = s.scanner ∧ t.sync = s.sync ∧ s.coreKept t

/-! ## Chapter 6: stack channels -/

/-- The hold of an ACTIVE channel's head that runs out at an advancing tick leads to the head's wait, or
with no wait completes the step. A low-load timer that reaches T_LOWLOAD parks the channel in STANDBY
with its queue emptied and stops its bridge (R125, R127, R130, R140). That HOLD_END and LOW_LOAD_PARK are
the whole millisecond tick is the model's choice (log 5). -/
def Obligations.HoldsEndAndChannelsPark : Prop :=
  ∀ (c : Index) (o : Schedule) (s : State), s.inReset = false → s.monitor.state = .normal →
    s.bridgeState c = .running → s.frequencyQuiet →
    (∀ (p : CourseStep) (rest : List CourseStep) (r : Nat), s.watchdogDue = false →
      s.settings.iMinLoad.get c = 0 → (s.channels.get c).state = .active →
      (s.channels.get c).queue = p :: rest → (s.channels.get c).headPhase = some .hold →
      (s.channels.get c).remainingHold = some r → r ≤ 1 →
      (p.calm = true → s.sync.state = .locked) →
      ∃ t, exec (.holdEnd c o) s = .next t ∧ exec (.millisecondTick o) s = .next t ∧
        (t.channels.get c).remainingHold = none ∧
        (t.channels.get c).course = (s.channels.get c).course ∧
        (p.wait = some .release →
          (t.channels.get c).headPhase = some .wait ∧ (t.channels.get c).queue = p :: rest ∧
            (t.channels.get c).state = .active) ∧
        (p.wait = none →
          (t.channels.get c).queue = rest ∧
            (t.channels.get c).state = (if rest = [] then .idle else .active) ∧
            (t.channels.get c).headPhase = (if rest = [] then none else some .ramp) ∧
            (p.tag.isSome = true → ∀ l, t.flagged l 2)) ∧
        t.scanner = s.scanner ∧ t.sync = s.sync ∧ s.coreKept t) ∧
    (0 < s.settings.iMinLoad.get c →
      s.scanner.i.get c < (s.settings.iMinLoad.get c : Int) →
      (s.channels.get c).state ≠ .standby → s.watchdogDue = false →
      s.settings.tLowLoad.get c * 1000 ≤ (s.channels.get c).lowLoadTimer + 1 →
      ∃ t, exec (.lowLoadPark c o) s = .next t ∧ exec (.millisecondTick o) s = .next t ∧
        (t.channels.get c).state = .standby ∧ (t.channels.get c).queue = [] ∧
        (t.channels.get c).headPhase = none ∧ (t.channels.get c).lowLoadTimer = 0 ∧
        t.bridgeState c = .retarding ∧ (t.bridges.get c).retardTurns = 0 ∧
        (∀ l, t.flagged l 1 ∧ t.flagged l 3) ∧
        t.scanner = s.scanner ∧ t.sync = s.sync ∧ s.coreKept t)

/-- At an advancing tick the head's course value moves toward its target by its rate, held to I_MAX_c, and
on arrival the head holds, waits or completes; the fold cap falls while the cell voltage stands above
VCELL_FOLD, from the effective reference with the ride-through cap as it stands before or after the tick,
recovers below the band under it, and holds between; and channels that have all come to one barrier, by
this tick's arrival or before, leave it together, where one that comes to it alone of its mask waits. A
tick is advancing in NORMAL and in LONG (R125, R126, R129, R130, R135, R137). That the cap may stand
either way is the order of the blocks at the tick (log 7). -/
def Obligations.AdvancingTicksRampFoldAndMeet : Prop :=
  ∀ (c : Index) (o : Schedule) (s : State), s.inReset = false →
    s.monitor.state = .normal ∨ s.monitor.state = .long →
    s.bridgeState c = .running → s.frequencyQuiet → s.watchdogDue = false →
    s.settings.iMinLoad.get c = 0 → (s.channels.get c).state = .active →
    let arrives (m : Index) : Prop :=
      (s.channels.get m).headPhase = some .ramp ∧
        ∃ p rest, (s.channels.get m).queue = p :: rest ∧ p.hold = none ∧
          let target := min p.target (s.settings.iMax.get m) * 1000
          (s.channels.get m).course ≤ target + p.rate ∧ target ≤ (s.channels.get m).course + p.rate
    let comesTo (m : Index) (tag : Byte) : Prop :=
      ((s.channels.get m).headPhase = some .wait ∨ arrives m) ∧
        ∃ p rest mask, (s.channels.get m).queue = p :: rest ∧ p.wait = some (.barrier tag mask)
    ∃ t, exec (.millisecondTick o) s = .next t ∧
      (∀ (p : CourseStep) (rest : List CourseStep), (s.channels.get c).queue = p :: rest →
        (s.channels.get c).headPhase = some .ramp →
        let target := min p.target (s.settings.iMax.get c) * 1000
        let course := (s.channels.get c).course
        let value := if course < target then min (course + p.rate) target
          else max (course - p.rate) target
        (t.channels.get c).course = value ∧
        (value ≠ target →
          (t.channels.get c).headPhase = some .ramp ∧ (t.channels.get c).queue = p :: rest) ∧
        (value = target → ∀ h, p.hold = some h →
          (t.channels.get c).headPhase = some .hold ∧ (t.channels.get c).remainingHold = some h ∧
            (t.channels.get c).headClamped =
              ((s.channels.get c).headClamped || decide (s.settings.iMax.get c < p.target))) ∧
        (value = target → p.hold = none → p.wait = some .release →
          (t.channels.get c).headPhase = some .wait ∧ (t.channels.get c).queue = p :: rest) ∧
        (value = target → p.hold = none → p.wait = none →
          (t.channels.get c).queue = rest ∧
            (t.channels.get c).headPhase = (if rest = [] then none else some .ramp))) ∧
      (let k := s.channels.get c
        let ceiling := s.settings.iMax.get c * 1000
        let fold : Int := s.settings.vcellFold
        (∃ cap, (cap = s.monitor.cap.get c ∨ cap = t.monitor.cap.get c) ∧
          let reference :=
            min (min (min k.course ceiling) k.foldCap)
              (match cap with | none => k.foldCap | some x => x.value)
          (t.channels.get c).foldCap =
            (if fold < s.scanner.vCell.get c then min k.foldCap reference - s.settings.foldRate
            else if s.scanner.vCell.get c < fold - 20 then
              min ceiling (k.foldCap + s.settings.foldRate)
            else k.foldCap)) ∧
          ((t.channels.get c).foldback = true ↔ (t.channels.get c).foldCap < ceiling)) ∧
      (∀ (p : CourseStep) (rest : List CourseStep) (tag : Byte) (mask : BitVec 4),
        (s.channels.get c).queue = p :: rest → p.wait = some (.barrier tag mask) →
        comesTo c tag →
        ((∀ m : Index, hasBit mask m.val = true →
            s.bridgeState m = .running ∧ s.settings.iMinLoad.get m = 0 ∧
            (s.channels.get m).state = .active ∧ comesTo m tag) →
          ∀ m : Index, hasBit mask m.val = true →
            (t.channels.get m).queue = (s.channels.get m).queue.tail) ∧
        ((∃ m : Index, m ≠ c ∧ hasBit mask m.val = true) →
          (∀ d : Index, d ≠ c → ∀ q qs msk, (s.channels.get d).queue = q :: qs →
            q.wait ≠ some (.barrier tag msk)) →
          (t.channels.get c).headPhase = some .wait ∧ (t.channels.get c).queue = p :: rest ∧
            (t.channels.get c).state = .active)) ∧
      t.scanner = s.scanner ∧ t.sync = s.sync ∧ s.coreKept t

/-- FLUSH, PAUSE and RESUME act on each channel their mask names and answer one code for each of the
four, and RELEASE_STEP completes a head that waits for it. A refused channel, and a channel that is not
named, stays as it was. A mask that names none of 0 to 3 alone is refused as a whole; RELEASE_STEP is
refused for a head that waits for no release, a barrier's among them, and for a channel number above 3
(R128, R130 to R134). -/
def Obligations.ChannelRequestsAct : Prop :=
  ∀ (r : Request) (s : State) (m : Byte), s.hears r → s.settled → s.holder = r.link →
    r.payload = [m] →
    let kept (t : State) : Prop :=
      t.elapsed = s.elapsed + r.wait ∧ t.inReset = s.inReset ∧ t.settings = s.settings ∧
        t.scanner = s.scanner ∧ t.sync = s.sync ∧ t.monitor = s.monitor ∧ t.bridges = s.bridges ∧
        t.regulators = s.regulators ∧ t.trip = s.trip ∧ t.recorder = s.recorder ∧
        t.holder = s.holder ∧ t.watchdog = 0 ∧ t.pending = s.pending
    let named (c : Index) : Prop := m.getLsbD c.val = true
    let codes (refused : Index → Bool) : List Byte :=
      Index.all.map (fun c => if m.getLsbD c.val && refused c then 0x05 else 0x00)
    let answered (t : State) (kind : Byte) (payload : List Byte) : Prop :=
      (t.links.get r.link).replies =
        (s.links.get r.link).replies ++ [⟨kind, r.tag, payload⟩]
    (0 < m.toNat → m.toNat < 16 →
      (∃ t, exec (.flush r) s = .next t ∧ kept t ∧ answered t 0x55 (0 :: codes (fun _ => false)) ∧
        ∀ c,
          (named c → (s.channels.get c).state ≠ .standby →
            t.channels.get c =
              { s.channels.get c with
                queue := [], headPhase := none, remainingHold := none, headClamped := false,
                state := .idle }) ∧
          (¬named c ∨ (s.channels.get c).state = .standby →
            t.channels.get c = s.channels.get c)) ∧
      (∃ t, exec (.pause r) s = .next t ∧ kept t ∧
        answered t 0x56 (0 :: codes (fun c =>
          (s.channels.get c).state == .idle || (s.channels.get c).state == .standby)) ∧
        ∀ c,
          (named c → (s.channels.get c).state = .active →
            t.channels.get c = { s.channels.get c with state := .pausing }) ∧
          (¬named c ∨ (s.channels.get c).state ≠ .active →
            t.channels.get c = s.channels.get c)) ∧
      (∃ t, exec (.resume r) s = .next t ∧ kept t ∧
        answered t 0x57 (0 :: codes (fun c => (s.channels.get c).state == .standby)) ∧
        ∀ c,
          (named c →
            (s.channels.get c).state = .pausing ∨ (s.channels.get c).state = .paused →
            t.channels.get c = { s.channels.get c with state := .active }) ∧
          (¬named c ∨
            ((s.channels.get c).state ≠ .pausing ∧ (s.channels.get c).state ≠ .paused) →
            t.channels.get c = s.channels.get c))) ∧
    (m.toNat = 0 ∨ 16 ≤ m.toNat →
      exec (.flush r) s = .next ((s.atRequest r).withReply r.link ⟨0x55, r.tag, [0x03]⟩) ∧
      exec (.pause r) s = .next ((s.atRequest r).withReply r.link ⟨0x56, r.tag, [0x03]⟩) ∧
      exec (.resume r) s = .next ((s.atRequest r).withReply r.link ⟨0x57, r.tag, [0x03]⟩)) ∧
    (4 ≤ m.toNat →
      exec (.releaseStep r) s = .next ((s.atRequest r).withReply r.link ⟨0x58, r.tag, [0x03]⟩)) ∧
    (∀ (c : Index) (p : CourseStep) (rest : List CourseStep), m.toNat = c.val →
      (s.channels.get c).state = .active → (s.channels.get c).headPhase = some .wait →
      (s.channels.get c).queue = p :: rest → p.wait = some .release →
      ∃ t, exec (.releaseStep r) s = .next t ∧ kept t ∧ answered t 0x58 [0] ∧
        t.channels.get c =
          { s.channels.get c with
            queue := rest, headClamped := false, remainingHold := none,
            headPhase := (if rest = [] then none else some .ramp),
            state := (if rest = [] then .idle else .active) } ∧
        (∀ d, d ≠ c → t.channels.get d = s.channels.get d) ∧
        (p.tag.isSome = true → ∀ l, t.flagged l 2)) ∧
    (∀ c : Index, m.toNat = c.val →
      (s.channels.get c).state ≠ .active ∨ (s.channels.get c).headPhase ≠ some .wait ∨
          (∀ p rest, (s.channels.get c).queue = p :: rest → p.wait ≠ some .release) →
      exec (.releaseStep r) s = .next
        ((s.atRequest r).withReply r.link ⟨0x58, r.tag, [0x05]⟩))

/-- WAKE returns a channel in STANDBY to IDLE with its course value as it stood, answers OK and raises a
CHANNEL event. A channel in any other state is refused with REFUSED_STATE, and a channel number above 3
with REFUSED_VALUE. No bridge is deblocked (R141). -/
def Obligations.WakeLeavesStandby : Prop :=
  ∀ (r : Request) (s : State) (m : Byte), s.hears r → s.settled → s.holder = r.link →
    r.payload = [m] →
    let u := s.atRequest r
    (∀ c : Index, m.toNat = c.val → (s.channels.get c).state = .standby →
      exec (.wake r) s = .next
        ((({ u with
          channels :=
            s.channels.set c { s.channels.get c with state := .idle } }).withReply r.link
          ⟨0x59, r.tag, [0x00]⟩).announced (.channel c .idle (s.channels.get c).safe))) ∧
    (∀ c : Index, m.toNat = c.val → (s.channels.get c).state ≠ .standby →
      exec (.wake r) s = .next (u.withReply r.link ⟨0x59, r.tag, [0x05]⟩)) ∧
    (4 ≤ m.toNat → exec (.wake r) s = .next (u.withReply r.link ⟨0x59, r.tag, [0x03]⟩))

/-- APPEND_STEP is refused for a channel number above 3 or an invalid step, a channel in STANDBY or a
queue of 16 steps, in that order; otherwise the step joins the queue, the SAFE flag clears, an IDLE
channel becomes ACTIVE with its head in RAMP, and the reply carries the new length (R123). -/
def Obligations.AppendStepJoinsTheQueue : Prop :=
  ∀ (r : Request) (s : State) (n presence : Byte) (rest : List Byte), s.hears r →
    s.settled → s.holder = r.link → r.payload = n :: presence :: rest →
    rest.length + 1 = stepSize presence →
    let u := s.atRequest r
    let refused (code : Byte) : State := u.withReply r.link ⟨0x54, r.tag, [code]⟩
    (4 ≤ n.toNat → exec (.appendStep r) s = .next (refused 0x03)) ∧
    ∀ c : Index, n.toNat = c.val →
    let k := s.channels.get c
    (readStep c presence rest = none → exec (.appendStep r) s = .next (refused 0x03)) ∧
    ∀ p, readStep c presence rest = some p →
      (k.state = .standby → exec (.appendStep r) s = .next (refused 0x05)) ∧
      (k.state ≠ .standby → 16 ≤ k.queue.length →
        exec (.appendStep r) s = .next (refused 0x06)) ∧
      (k.state ≠ .standby → k.queue.length < 16 →
        let k' : Channel :=
          { k with
            queue := k.queue ++ [p], safe := false,
            state := (if k.state = .idle then .active else k.state),
            headPhase := (if k.state = .idle then some .ramp else k.headPhase),
            headClamped := (if k.state = .idle then false else k.headClamped) }
        let v :=
          ({ u with channels := s.channels.set c k' }).withReply r.link
            ⟨0x54, r.tag, [0x00, BitVec.ofNat 8 (k.queue.length + 1)]⟩
        exec (.appendStep r) s = .next
          (if k.state = .idle ∨ k.safe = true then v.announced (.channel c k'.state false) else v))

/-- Every valid course step, written as READ_COURSE writes it, is of the size its presence byte gives
and reads back as itself (R202, R203). -/
def Obligations.CourseStepRoundTrip : Prop :=
  ∀ (c : Index) (p : CourseStep),
    p.target ≤ 40000 → 0 < p.rate → p.rate ≤ 20000 →
    (∀ h, p.hold = some h → 0 < h ∧ h ≤ 3600000) → (p.calm = true → p.hold.isSome = true) →
    (∀ tag mask, p.wait = some (.barrier tag mask) → hasBit mask c.val = true) →
    ∃ presence rest, p.bytes = presence :: rest ∧ rest.length + 1 = stepSize presence ∧
      readStep c presence rest = some p

/-! ## Chapter 7: trips -/

/-- The second consecutive scan with a current above I_TRIP_b raises OVERCURRENT, and the second with a
cell voltage above VCELL_TRIP raises CELL_OVERVOLTAGE: the count stands at 2, a trip is latched, its set
holds the cause, and where none was latched before every bridge is in LOCKOUT (R139, R148, R150). That
the two rows are the whole scan is the model's choice (log 5). -/
def Obligations.SecondScansTrip : Prop :=
  ∀ (x : Samples) (o : Schedule) (s : State) (b : Index), s.inReset = false →
    let trips (t : State) (cause : TripCause) : Prop :=
      t.trip.latched = true ∧ hasBit t.trip.causes cause.bit = true ∧
        (s.trip.latched = false →
          t.trip.breakerTrip = true ∧ t.trip.tick = t.counter ∧ (∀ d, t.bridgeState d = .lockout) ∧
            ∀ l, t.flagged l 5) ∧
        t.sync = s.sync ∧ s.frameKept t
    (s.trip.overcurrentScans.get b = 1 →
      (s.settings.iTrip.get b : Int) < min (max (roundInt (x.i.get b) 1000) (-2000)) 48000 →
      ∃ t, exec (.overcurrent b x o) s = .next t ∧ exec (.scan x o) s = .next t ∧
        t.trip.overcurrentScans.get b = 2 ∧ trips t .overcurrent) ∧
    ((s.channels.get b).overvoltageScans = 1 →
      (s.settings.vcellTrip : Int) <
        roundInt (min (max (roundInt (x.e.get b) 1000) 0) 150000 * 100) (s.settings.cells.get b) →
      ∃ t, exec (.cellOvervoltage b x o) s = .next t ∧ exec (.scan x o) s = .next t ∧
        (t.channels.get b).overvoltageScans = 2 ∧ trips t .cellOvervoltage)

/-- EXTTRIP seen high after being low latches a trip with the cause EXTERNAL, or joins the cause set of
a latched trip with a TRIP event and no other act. Where the set holds it already nothing is added and
there is no event, and a line already high does nothing (R149, R150, R151). -/
def Obligations.ExternalInputTrips : Prop :=
  ∀ (wait : Nat) (o : Schedule) (s : State), s.inReset = false →
    (s.trip.externalHigh = false → s.trip.latched = false →
      ∃ t, exec (.external wait o) s = .next t ∧ t.showsTrip .external ∧
        t.trip.externalHigh = true ∧ t.elapsed = s.elapsed + wait ∧ t.trip.tick = t.counter ∧
        (∀ l, t.flagged l 5) ∧
        (s.recorder.state = .armed → hasBit s.settings.recTriggers 1 = true →
          t.recorder.state = .capturing) ∧
        t.scanner = s.scanner ∧ t.sync = s.sync ∧ t.monitor = s.monitor ∧ s.frameKept t) ∧
    (s.trip.externalHigh = false → s.trip.latched = true → hasBit s.trip.causes 7 = false →
      ∃ t, exec (.external wait o) s = .next t ∧
        t.trip = { s.trip with externalHigh := true, causes := s.trip.causes ||| 128 } ∧
        (∀ l, t.flagged l 5) ∧ t.elapsed = s.elapsed + wait ∧ t.bridges = s.bridges ∧
        t.channels = s.channels ∧ t.regulators = s.regulators ∧ t.scanner = s.scanner ∧
        t.sync = s.sync ∧ t.monitor = s.monitor ∧ s.frameKept t) ∧
    (s.trip.externalHigh = false → s.trip.latched = true → hasBit s.trip.causes 7 = true →
      s.settled →
      exec (.external wait o) s = .next
        { s with elapsed := s.elapsed + wait, trip := { s.trip with externalHigh := true } }) ∧
    (s.trip.externalHigh = true → s.settled →
      exec (.external wait o) s = .next { s with elapsed := s.elapsed + wait })

/-- TRIP_CLEAR with no trip latched answers OK and changes nothing; while EXTTRIP, a cell voltage or the
monitor holds it back it is refused with REFUSED_ACTIVE; otherwise it releases the latch, the cause set,
BKRTRIP and the overcurrent counts, forgets the frequency excursion, and turns every LOCKOUT bridge to
BLOCKED without a cause (R155, R156, R157). -/
def Obligations.TripClearReleases : Prop :=
  ∀ (r : Request) (s : State), s.hears r → s.settled → s.holder = r.link → r.payload = [] →
    let u := s.atRequest r
    let held : Prop :=
      s.trip.externalHigh = true ∨
        (∃ c, (s.settings.vcellTrip : Int) < s.scanner.vCell.get c) ∨ s.monitor.state ≠ .normal
    (s.trip.latched = false →
      exec (.tripClear r) s = .next (u.withReply r.link ⟨0x5A, r.tag, [0x00]⟩)) ∧
    (s.trip.latched = true → held →
      exec (.tripClear r) s = .next (u.withReply r.link ⟨0x5A, r.tag, [0x07]⟩)) ∧
    (s.trip.latched = true → ¬held →
      ∃ t, exec (.tripClear r) s = .next t ∧
        t.trip =
          { s.trip with
            causes := 0, latched := false, breakerTrip := false,
            overcurrentScans := ⟨0, 0, 0, 0⟩ } ∧
        t.monitor = { s.monitor with excursionTimer := 0, excursionTripped := false } ∧
        (∀ b, s.bridgeState b = .lockout →
          t.bridges.get b = { s.bridges.get b with state := .blocked, blockCause := none } ∧
            ∀ l, t.flagged l 1) ∧
        (∀ b, s.bridgeState b ≠ .lockout → t.bridges.get b = s.bridges.get b) ∧
        (t.links.get r.link).replies =
          (s.links.get r.link).replies ++ [⟨0x5A, r.tag, [0x00]⟩] ∧
        t.elapsed = s.elapsed + r.wait ∧ t.settings = s.settings ∧ t.scanner = s.scanner ∧
        t.sync = s.sync ∧ t.regulators = s.regulators ∧ t.channels = s.channels ∧
        t.recorder = s.recorder ∧ t.holder = s.holder ∧ t.pending = s.pending)

/-- DEBLOCK moves each named bridge that its permissives allow to DEBLOCKING with its first thyristor,
its regulator preset and its course re-seeded, and refuses the others it names one by one; a mask that
names none of 0 to 3 alone is refused as a whole. The preset places the integral at V_d0 × cos
(ALPHA_START) - E_ff within ±X_LIM, with the cosine in the model's fixed point (log 2); a head in HOLD or
WAIT whose target the re-seeded course no longer meets returns to RAMP (R81, R82, R107, R109, R114,
R136). -/
def Obligations.DeblockAdmits : Prop :=
  ∀ (r : Request) (s : State) (m : Byte), s.hears r → s.settled → s.holder = r.link →
    r.payload = [m] →
    let permitted (b : Index) : Bool :=
      s.bridgeState b == .blocked && s.breakerClosed && s.sync.state == .locked &&
        !s.trip.latched && (s.channels.get b).state != .standby
    let u := s.atRequest r
    (0 < m.toNat → m.toNat < 16 →
      ∃ t, exec (.deblock r) s = .next t ∧
        (t.links.get r.link).replies = (s.links.get r.link).replies ++
          [⟨0x52, r.tag, 0 :: Index.all.map (fun b =>
            if m.getLsbD b.val && !permitted b then 0x05 else 0x00)⟩] ∧
        (∀ b,
          (m.getLsbD b.val = true → permitted b = true →
            t.bridges.get b =
              { s.bridges.get b with
                state := .deblocking, blockCause := none, heldCauses := ⟨false, false⟩,
                next := u.phase.map (u.firstThyristor b) } ∧
            t.regulators.get b =
              { s.regulators.get b with
                integral :=
                  min (max (roundInt
                      ((roundNat (13505 * s.scanner.uAvg) 10 : Int) *
                        cosineOf s.settings.alphaStart) (2 ^ 100)
                    - (if s.settings.feedFwd then s.scanner.e.get b * 100 else 0))
                    (-((s.settings.xLim : Int) * 1000))) ((s.settings.xLim : Int) * 1000)
                sum := 0, count := 0, lastLimited := false, alphaReq := none } ∧
            (let k := s.channels.get b
            let course := (max (s.scanner.i.get b) 0).toNat * 1000
            let leaves : Bool :=
              (k.headPhase == some .hold || k.headPhase == some .wait) &&
                match k.queue with
                | [] => false
                | p :: _ => decide (course ≠ min p.target (s.settings.iMax.get b) * 1000)
            t.channels.get b =
              { k with
                course := course
                headPhase := if leaves then some .ramp else k.headPhase
                remainingHold := if leaves then none else k.remainingHold }) ∧
            ∀ l, t.flagged l 1) ∧
          (m.getLsbD b.val = false ∨ permitted b = false →
            t.bridges.get b = s.bridges.get b ∧ t.regulators.get b = s.regulators.get b ∧
              t.channels.get b = s.channels.get b)) ∧
        t.elapsed = s.elapsed + r.wait ∧ t.settings = s.settings ∧ t.scanner = s.scanner ∧
        t.sync = s.sync ∧ t.monitor = s.monitor ∧ t.trip = s.trip ∧ t.recorder = s.recorder ∧
        t.holder = s.holder ∧ t.pending = s.pending) ∧
    (m.toNat = 0 ∨ 16 ≤ m.toNat →
      exec (.deblock r) s = .next (u.withReply r.link ⟨0x52, r.tag, [0x03]⟩))

/-- STOP starts the retard of each named RUNNING bridge, abandons a DEBLOCKING one, blocks a HELD one
with HOLD_STOP, leaves a BLOCKED or RETARDING one, and refuses a bridge in LOCKOUT; a bridge it does not
name stays as it was (R85). That a HELD bridge keeps its held causes is log 16 (DEDUCED, unsafe). -/
def Obligations.StopRetardsOrBlocks : Prop :=
  ∀ (r : Request) (s : State) (m : Byte), s.hears r → s.settled → s.holder = r.link →
    r.payload = [m] →
    (0 < m.toNat → m.toNat < 16 →
      ∃ t, exec (.stop r) s = .next t ∧
        (t.links.get r.link).replies = (s.links.get r.link).replies ++
          [⟨0x53, r.tag, 0 :: Index.all.map (fun b =>
            if m.getLsbD b.val && s.bridgeState b == .lockout then 0x05 else 0x00)⟩] ∧
        (∀ b,
          t.bridges.get b =
            (if m.getLsbD b.val then
              match s.bridgeState b with
              | .running => { s.bridges.get b with state := .retarding, retardTurns := 0 }
              | .deblocking =>
                { s.bridges.get b with
                  state := .blocked, blockCause := some .abandoned, next := none }
              | .held =>
                { s.bridges.get b with
                  state := .blocked, blockCause := some .holdStop, next := none }
              | .blocked | .retarding | .lockout => s.bridges.get b
            else s.bridges.get b)) ∧
        t.elapsed = s.elapsed + r.wait ∧ t.settings = s.settings ∧ t.scanner = s.scanner ∧
        t.sync = s.sync ∧ t.monitor = s.monitor ∧ t.regulators = s.regulators ∧
        t.channels = s.channels ∧ t.trip = s.trip ∧ t.recorder = s.recorder ∧
        t.holder = s.holder ∧ t.pending = s.pending) ∧
    (m.toNat = 0 ∨ 16 ≤ m.toNat →
      exec (.stop r) s = .next
        ((s.atRequest r).withReply r.link ⟨0x53, r.tag, [0x03]⟩))

/-! ## Chapter 8: the disturbance recorder -/

/-- A scan that is due takes a snapshot of itself, which joins the ring of an armed recorder or the
record of a capture, and the decimation count restarts. The snapshot at which a capture reaches its
planned length freezes the record with a RECORD event (R162, R163, R164, R167). That SNAPSHOT and
CAPTURE_COMPLETE are the whole scan is the model's choice (log 5). -/
def Obligations.SnapshotsJoinTheRecord : Prop :=
  ∀ (x : Samples) (o : Schedule) (s : State), s.inReset = false → s.recorder.state ≠ .frozen →
    s.recorder.decimation + 1 = s.settings.recDecim →
    (s.recorder.state = .capturing ∨ 0 < s.settings.recPre →
      ∃ t y, exec (.snapshot x o) s = .next t ∧ exec (.scan x o) s = .next t ∧
        t.recorder.ring.getLast? = some y ∧ t.recorder.decimation = 0 ∧
        y.tick = t.counter ∧ y.u = t.scanner.u ∧ y.i = t.scanner.i ∧ y.e = t.scanner.e ∧
        y.g = t.scanner.g ∧ y.phase = t.phase ∧ y.sync = t.sync.state ∧
        t.sync = s.sync ∧ s.frameKept t) ∧
    ∀ h, s.recorder.state = .capturing → s.recorder.header = some h →
      s.recorder.ring.length + 1 = h.plannedLength →
      ∃ t, exec (.captureComplete x o) s = .next t ∧ exec (.scan x o) s = .next t ∧
        t.recorder.state = .frozen ∧ t.recorder.ring.length = h.plannedLength ∧
        t.recorder.header = some h ∧ t.recorder.decimation = 0 ∧ (∀ l, t.flagged l 6) ∧
        t.sync = s.sync ∧ s.frameKept t

/-- READ_RECORD is judged by its count, then by the recorder's state, then by its range, and answers OK
with the first number, the count and the snapshots asked for, 33 bytes each; it changes nothing but the
reply queue (R171, R205). -/
def Obligations.ReadRecordIsJudgedInOrder : Prop :=
  ∀ (r : Request) (s : State) (a b n : Byte), s.hears r → s.settled → r.payload = [a, b, n] →
    let first := a.toNat * 256 + b.toNat
    let planned := (s.recorder.header.map (fun h => h.plannedLength)).getD 0
    let shots := (s.recorder.ring.drop first).take n.toNat
    exec (.readRecord r) s = .next
      ((s.atRequest r).withReply r.link ⟨0x47, r.tag,
        if n.toNat < 1 ∨ 7 < n.toNat then [0x03]
        else if s.recorder.state ≠ .frozen then [0x05]
        else if planned ≤ first + n.toNat - 1 then [0x03]
        else 0x00 :: a :: b :: n :: (shots.map Snapshot.bytes).flatten⟩) ∧
    ∀ y ∈ shots, y.bytes.length = 33

/-- RECORD_TRIGGER acts as a trigger where its source is enabled: an armed recorder begins a capture
with the ring as its pre-trigger part, and another counts a missed trigger. RECORD_RELEASE empties a
FROZEN recorder, does nothing to an ARMED one, and is refused by a CAPTURING one (R166, R168, R169,
R172). -/
def Obligations.RecorderRequestsAct : Prop :=
  ∀ (r : Request) (s : State), s.hears r → s.settled → s.holder = r.link → r.payload = [] →
    let u := s.atRequest r
    (hasBit s.settings.recTriggers 4 = false →
      exec (.recordTrigger r) s = .next (u.withReply r.link ⟨0x5C, r.tag, [0x05]⟩)) ∧
    (hasBit s.settings.recTriggers 4 = true → s.recorder.state = .armed →
      let header : RecordHeader :=
        { cause := .recordTrigger, triggerTick := u.counter, preCount := s.recorder.ring.length,
          plannedLength := s.recorder.ring.length + (4096 - s.settings.recPre),
          decimation := s.settings.recDecim,
          idle := decide (∀ b, s.bridgeState b ≠ .running), survivedReset := false }
      exec (.recordTrigger r) s = .next
        ((({ u with
          recorder :=
            { s.recorder with
              state := .capturing, header := some header, missed := 0 } }).withReply r.link
          ⟨0x5C, r.tag, [0x00, 0x01]⟩).announced (.record false .recordTrigger))) ∧
    (hasBit s.settings.recTriggers 4 = true → s.recorder.state ≠ .armed →
      exec (.recordTrigger r) s = .next
        (({ u with
          recorder :=
            { s.recorder with missed := min (s.recorder.missed + 1) 255 } }).withReply r.link
          ⟨0x5C, r.tag, [0x00, if s.recorder.state = RecorderState.capturing then 0x01 else 0x02]⟩)) ∧
    (s.recorder.state = .frozen →
      exec (.recordRelease r) s = .next
        (({ u with
          recorder :=
            { state := .armed, ring := [], decimation := 0, header := none,
              missed := 0 } }).withReply r.link ⟨0x5D, r.tag, [0x00]⟩)) ∧
    (s.recorder.state = .armed →
      exec (.recordRelease r) s = .next (u.withReply r.link ⟨0x5D, r.tag, [0x00]⟩)) ∧
    (s.recorder.state = .capturing →
      exec (.recordRelease r) s = .next (u.withReply r.link ⟨0x5D, r.tag, [0x05]⟩))

/-! ## Chapter 9: links and authority -/

/-- An event the link unit takes sets its flag on both links. Each link whose mask enables its kind gets
a notice of kind 0x80 plus its row, tag 0 and the event's contents as its newest entry; a queue of 8
drops it with NOTICE_LOST, and a link whose mask does not enable it gets none and loses nothing
(R185). -/
def Obligations.EventsAreAnnounced : Prop :=
  ∀ (s : State) (e : Event) (o : Schedule) (l : Link), s.settled →
    let t := (s.raise e).settle o
    let notice : OutRecord := ⟨BitVec.ofNat 8 (0x80 + e.row), 0, e.payload⟩
    t = s.announced e ∧ (∀ l', t.flagged l' e.row) ∧
      (hasBit (s.links.get l).mask e.row = true → (s.links.get l).notices.length < 8 →
        (t.links.get l).notices = (s.links.get l).notices ++ [notice]) ∧
      (hasBit (s.links.get l).mask e.row = true → 8 ≤ (s.links.get l).notices.length →
        (t.links.get l).notices = (s.links.get l).notices ∧ t.flagged l 9) ∧
      (hasBit (s.links.get l).mask e.row = false →
        (t.links.get l).notices = (s.links.get l).notices ∧
          (t.flagged l 9 ↔ s.flagged l 9)) ∧
      (s.links.get l).lineKept (t.links.get l)

/-- A gap of 10,001 ticks after the last byte leaves the receiver holding nothing; a candidate with no
further sync byte in it counts one frame error. A framing fault drops its byte and discards the
candidate, and with none under way changes only the line's state. It is a line that went to space at the
tick given, or at the tick noted after a reset, and is back at mark before 20 bit times from then; later
it is none (R179, R180, R181; log 12 for the tick given). -/
def Obligations.GapsAndFaultsDiscard : Prop :=
  ∀ (l : Link) (o : Schedule) (s : State), s.ready →
    let failed : LinkState :=
      { s.links.get l with
        heldBytes := [], frameErrors := min ((s.links.get l).frameErrors + 1) 65535,
        summary := addBit (s.links.get l).summary 11 }
    (∀ h, (s.links.get l).heldBytes.getLast? = some h →
      ∃ t, exec (.gapTimeout l o) s = .next t ∧
        t.elapsed = s.elapsed + (10001 - s.since h.tick) ∧ (t.links.get l).hunting = true) ∧
    (∀ (b h : HeldByte) (rest : List HeldByte),
      (s.links.get l).heldBytes = b :: rest → (b :: rest).getLast? = some h →
      b.byte = 0xA5 → (∀ y ∈ rest, y.byte ≠ 0xA5) → judge rest = .incomplete →
      exec (.gapTimeout l o) s = .next
        { s with
          elapsed := s.elapsed + (10001 - s.since h.tick), links := s.links.set l failed }) ∧
    ∀ (fell noted : Tick) (wait : Nat),
      ((s.links.get l).brk = .mark ∧ noted = fell) ∨ (s.links.get l).brk = .space noted →
      let bits20 := match s.rate with | .slow => 1736 | .fast => 200
      let atSpace := (s.runFor wait).since noted
      (atSpace < bits20 → (s.links.get l).heldBytes = [] →
        exec (.framingFault l ⟨fell, wait⟩ o) s = .next
          { s with
            elapsed := s.elapsed + wait
            links := s.links.set l { s.links.get l with brk := .mark } }) ∧
      (∀ (b : HeldByte) (rest : List HeldByte), atSpace < bits20 →
        (s.links.get l).heldBytes = b :: rest → (∀ y ∈ rest, y.byte ≠ 0xA5) →
        exec (.framingFault l ⟨fell, wait⟩ o) s = .next
          { s with
            elapsed := s.elapsed + wait, links := s.links.set l { failed with brk := .mark } }) ∧
      (bits20 ≤ atSpace →
        exec (.framingFault l ⟨fell, wait⟩ o) s = .next { s with elapsed := s.elapsed + wait })

/-- A break is detected 20 bit times after the tick at which the line went to space, given with the
command or noted after a reset (log 12), or now where that is past. It empties the receiver and both
queues of its link, sets the BREAK flag, and cuts a record being sent at the end of the byte in
progress, where it is abandoned; a line in break is not detected again. The line's return to mark leaves
the receiver HUNTING (R181, R182). That the byte in progress ends at a multiple of ten bit times from
the record's first byte is log 20 (DEDUCED). -/
def Obligations.BreaksEmptyTheLink : Prop :=
  ∀ (l : Link) (s : State), s.ready →
    let bits20 := match s.rate with | .slow => 1736 | .fast => 200
    (∀ fell noted : Tick,
      ((s.links.get l).brk = .mark ∧ noted = fell) ∨ (s.links.get l).brk = .space noted →
      ∃ t, exec (.breakDetected l fell) s = .next t ∧
        t.elapsed = (s.runToTick (noted + BitVec.ofNat 32 bits20)).elapsed ∧
        bits20 ≤ t.since noted ∧ (s.since noted ≤ bits20 → t.since noted = bits20) ∧
        (t.links.get l).brk = .inBreak ∧ (t.links.get l).hunting = true ∧
        (t.links.get l).replies = [] ∧ (t.links.get l).notices = [] ∧ t.flagged l 12 ∧
        (t.links.get l).frameErrors = (s.links.get l).frameErrors ∧
        (t.links.get l).mask = (s.links.get l).mask ∧
        (∀ x, (s.links.get l).transmitter = some x → x.cutAt = none → x.startedAt ≤ t.elapsed →
          t.elapsed < x.startedAt + x.bytes.length * s.rate.byteTicks →
          ∃ cut, (t.links.get l).transmitter = some { x with cutAt := some cut } ∧
            t.elapsed < cut ∧ cut ≤ t.elapsed + s.rate.byteTicks ∧
            s.rate.byteTicks ∣ cut - x.startedAt) ∧
        t = { s with elapsed := t.elapsed, links := s.links.set l (t.links.get l) }) ∧
    (∀ fell, (s.links.get l).brk = .inBreak → exec (.breakDetected l fell) s = .next s) ∧
    (∀ wait, (s.links.get l).brk = .inBreak →
      exec (.breakEnd l wait) s = .next
        { s with
          elapsed := s.elapsed + wait
          links := s.links.set l { s.links.get l with brk := .mark, heldBytes := [] } }) ∧
    ∀ bytes started cut, (s.links.get l).transmitter = some ⟨bytes, started, some cut⟩ →
      exec (.recordAbandon l) s = .next
        { s with
          elapsed := max s.elapsed cut
          links := s.links.set l { s.links.get l with transmitter := none } }

/-- An idle transmitter begins the oldest reply, and only with no reply waiting the oldest notice: the
record leaves its queue and its frame is sent, ten bit times a byte. At the end of its last byte the
transmitter is idle (R177, R178, R186). -/
def Obligations.TransmittersSendRepliesFirst : Prop :=
  ∀ (l : Link) (s : State), s.ready →
    (∀ x rest, (s.links.get l).transmitter = none → (s.links.get l).replies = x :: rest →
      exec (.transmitStart l) s = .next
        { s with
          links :=
            s.links.set l
              { s.links.get l with
                replies := rest, transmitter := some ⟨x.frame, s.elapsed, none⟩ } }) ∧
    (∀ x rest, (s.links.get l).transmitter = none → (s.links.get l).replies = [] →
      (s.links.get l).notices = x :: rest →
      exec (.transmitStart l) s = .next
        { s with
          links :=
            s.links.set l
              { s.links.get l with
                notices := rest, transmitter := some ⟨x.frame, s.elapsed, none⟩ } }) ∧
    ∀ bytes started, (s.links.get l).transmitter = some ⟨bytes, started, none⟩ →
      exec (.transmitEnd l) s = .next
        { s with
          elapsed :=
            max s.elapsed
              (started + bytes.length * (match s.rate with | .slow => 868 | .fast => 100))
          links := s.links.set l { s.links.get l with transmitter := none } }

/-- A byte that is no sync byte is dropped by a receiver that holds nothing, and a sync byte is held. A
further byte of a candidate that is still incomplete is held. One that makes the length wrong, or the
check, discards the candidate: it counts a frame error, and the bytes after its sync byte are searched
in their turn. The byte that completes a record releases its bytes, and the record is taken as one
event, as a record of its link, kind, tag and payload is (R178, R179, R180, R183). -/
def Obligations.ArrivingBytesMakeRecords : Prop :=
  ∀ (l : Link) (b : Byte) (wait : Nat) (o : Schedule) (s : State), s.ready →
    (s.links.get l).brk ≠ .inBreak →
    let u := s.runFor wait
    ((s.links.get l).heldBytes = [] → b ≠ 0xA5 →
      exec (.byteArrival l b wait o) s = .next
        { u with links := s.links.set l { s.links.get l with brk := .mark } }) ∧
    ((s.links.get l).heldBytes = [] → b = 0xA5 →
      exec (.byteArrival l b wait o) s = .next
        { u with
          links :=
            s.links.set l { s.links.get l with brk := .mark, heldBytes := [⟨b, u.counter⟩] } }) ∧
    (∀ (h : HeldByte) (rest : List HeldByte) (len : Byte) (tail : List Byte),
      (s.links.get l).heldBytes = h :: rest → h.byte = 0xA5 →
      rest.map (fun y => y.byte) ++ [b] = len :: tail →
      (2 ≤ len.toNat → len.toNat ≤ 250 → tail.length < len.toNat + 2 →
        exec (.byteArrival l b wait o) s = .next
          { u with
            links :=
              s.links.set l
                { s.links.get l with
                  brk := .mark, heldBytes := h :: rest ++ [⟨b, u.counter⟩] } }) ∧
      ((len.toNat < 2 ∨ 250 < len.toNat) ∨
          (tail.length = len.toNat + 2 ∧
            field16 (checkOf (len :: tail.take len.toNat)).toNat ≠ tail.drop len.toNat) →
        let again := examine false 0 (rest ++ [⟨b, u.counter⟩])
        exec (.byteArrival l b wait o) s = .next
          (again.acts.foldl (fun t a => t.rxAct l o a)
            { u with
              links :=
                s.links.set l
                  { s.links.get l with
                    brk := .mark, heldBytes := again.held
                    frameErrors := min ((s.links.get l).frameErrors + 1) 65535
                    summary := addBit (s.links.get l).summary 11 } }))) ∧
    ∀ x : OutRecord, x.payload.length ≤ 248 →
      (s.links.get l).heldBytes.map (fun h => h.byte) ++ [b] = x.frame →
      exec (.byteArrival l b wait o) s = .next
        (({ u with
          links :=
            s.links.set l { s.links.get l with brk := .mark, heldBytes := [] } }).takeRecord l
          x.kind x.tag x.payload o)

/-- A record written as its frame is read back as that record: the bytes of the frame of any kind, tag
and payload of up to 248 bytes, examined in order by a receiver that holds nothing else, come to that
one record and leave no byte held (R178, R179). -/
def Obligations.FramesReadBack : Prop :=
  ∀ (x : OutRecord) (held : List HeldByte), x.payload.length ≤ 248 →
    held.map (fun h => h.byte) = x.frame →
    examine false 0 held = ⟨[], [.record x.kind x.tag x.payload]⟩

/-- A record of no request kind is taken and answered with REFUSED_KIND; beyond that only the watchdog
of its own link's holder restarts (R183). -/
def Obligations.UnknownKindsAreRefused : Prop :=
  ∀ (kind : Byte) (r : Request) (s : State), s.hears r → s.settled → isRequestKind kind = false →
    exec (.unknownKind kind r) s = .next
      ((s.atRequest r).withReply r.link ⟨kind + 0x40, r.tag, [0x02]⟩)

/-- A request of any kind that finds 4 replies waiting on its link is not taken: the link's
REPLY_OVERRUN flag is set, no reply is queued, and nothing else changes but the line, which is at mark
(R181), and the watchdog of the link that holds authority, which the record has restarted (R183). -/
def Obligations.FullReplyQueuesDropRequests : Prop :=
  ∀ (k : RequestKind) (r : Request) (s : State), s.ready → s.inBreak r.link = false →
    4 ≤ (s.links.get r.link).replies.length →
    exec (k.command r) s = .next
      { s with
        elapsed := s.elapsed + r.wait
        watchdog := if s.holder = r.link then 0 else s.watchdog
        links :=
          s.links.set r.link
            { s.links.get r.link with
              brk := .mark, summary := addBit (s.links.get r.link).summary 10 } }

/-- A taken request is refused before its own rule, in this order: SEIZE and YIELD from link P with
REFUSED_LINK, a commanding request from the link without authority with REFUSED_AUTHORITY, and a
payload of the wrong size with REFUSED_FORMAT. A refused request changes nothing (R183, R188). -/
def Obligations.RequestsAreRefusedInOrder : Prop :=
  ∀ (k : RequestKind) (r : Request) (s : State), s.hears r → s.settled →
    let refused (code : Byte) : State :=
      (s.atRequest r).withReply r.link ⟨k.code + 0x40, r.tag, [code]⟩
    (k = .seize ∨ k = .yield → r.link = .p → exec (k.command r) s = .next (refused 0x08)) ∧
    (0x10 ≤ k.code.toNat → k.code.toNat ≤ 0x1D → s.holder ≠ r.link →
      exec (k.command r) s = .next (refused 0x04)) ∧
    ((k = .seize ∨ k = .yield → r.link = .s) →
      (0x10 ≤ k.code.toNat → k.code.toNat ≤ 0x1D → s.holder = r.link) →
      k.sizeRight r.payload = false → exec (k.command r) s = .next (refused 0x01))

/-- SEIZE from S takes authority from P with an AUTHORITY event, and finds nothing to do where S holds
it; YIELD gives it back, and is refused where P holds it. The watchdog reaching AUTH_TIMEOUT returns
authority to P, or with P holding raises SUPERVISION and gives the channel of every RUNNING bridge its
safe step: the step of target SAFE_CURRENT and rate SAFE_RATE alone in its queue, its head in RAMP from
where the course stood, ACTIVE with SAFE set, and a CHANNEL event. The course then stands where the same
tick's own advance, before or after, leaves it; a course so close that the safe step arrives at that
tick is left out (R142, R188, R190, R191). That WATCHDOG_EXPIRY is the whole millisecond tick is the
model's choice (log 5). -/
def Obligations.AuthorityPassesAndReturns : Prop :=
  (∀ (r : Request) (s : State), s.hears r → s.settled → r.link = .s → r.payload = [] →
    let u := s.atRequest r
    (s.holder = .p →
      exec (.seize r) s = .next
        ((({ u with holder := .s, watchdog := 0 }).withReply .s ⟨0x60, r.tag, [0x00]⟩).announced
          (.authority .s)) ∧
      exec (.yield r) s = .next (u.withReply .s ⟨0x61, r.tag, [0x05]⟩)) ∧
    (s.holder = .s →
      exec (.seize r) s = .next (u.withReply .s ⟨0x60, r.tag, [0x00]⟩) ∧
      exec (.yield r) s = .next
        ((({ u with holder := .p, watchdog := 0 }).withReply .s ⟨0x61, r.tag, [0x00]⟩).announced
          (.authority .p)))) ∧
  ∀ (o : Schedule) (s : State), s.inReset = false → 0 < s.settings.authTimeout →
    s.settings.authTimeout ≤ s.watchdog + 1 →
    ∃ t, exec (.watchdogExpiry o) s = .next t ∧ exec (.millisecondTick o) s = .next t ∧
      t.holder = .p ∧ t.watchdog = 0 ∧
      (s.holder = .s → ∀ l, t.flagged l 7) ∧
      (s.holder = .p → ∀ l, t.flagged l 8) ∧
      (s.holder = .p → s.monitor.state = .normal → s.frequencyQuiet → ∀ c,
        s.bridgeState c = .running → s.settings.iMinLoad.get c = 0 →
        let k := s.channels.get c
        let k' := t.channels.get c
        let target := min s.settings.safeCurrent (s.settings.iMax.get c) * 1000
        let near := s.settings.safeRate + (match k.queue with | [] => 0 | p :: _ => p.rate)
        k'.safe = true ∧
          (target + near < k.course ∨ k.course + near < target →
            k'.state = .active ∧ k'.headPhase = some .ramp ∧ k'.remainingHold = none ∧
              k'.queue =
                [{ target := s.settings.safeCurrent, rate := s.settings.safeRate, hold := none,
                   calm := false, wait := none, tag := none }] ∧
              k'.course ≤ k.course + near ∧ k.course ≤ k'.course + near ∧
              ∀ l, t.flagged l 3)) ∧
      t.scanner = s.scanner ∧ t.sync = s.sync ∧ s.coreKept t

/-! ## Chapter 10: requests, replies and settings -/

/-- PING, READ_STATUS, READ_MEASURE, READ_RECORD_HEADER, READ_ENVELOPE and READ_COURSE answer OK with
their reports and change nothing but the reply queue and the watchdog of the link that holds authority.
The status report is of 222 bytes with its sections at the offsets of Table 10-10, the measure report of
70 with those of Table 10-11, and the record header report of 15 (R13, R49, R145, R170, R193, R204,
R207, R208). How the reports show what is absent rests on logs 13, 14, 17 and 33 (DEDUCED, unsafe). -/
def Obligations.ReadRequestsReport : Prop :=
  ∀ (r : Request) (s : State), s.hears r → s.settled →
    let u := s.atRequest r
    let answers (k : RequestKind) (payload : List Byte) : Prop :=
      exec (k.command r) s = .next (u.withReply r.link ⟨k.code + 0x40, r.tag, payload⟩)
    (r.payload = [] →
      answers .ping [0x00] ∧
      (answers .readStatus (0x00 :: u.statusReport r.link) ∧
        let p := 0x00 :: u.statusReport r.link
        p.length = 223 ∧ p[1]? = some (byteOf s.sync.state.code) ∧
          (p.drop 3).take 2 = field16 (u.phase.getD 65535) ∧
          (p.drop 9).take 4 = field32 s.sync.period ∧
          (∀ b : Index,
            p[30 + 13 * b.val]? = some (byteOf (s.bridgeState b).code) ∧
            (p.drop (82 + 11 * b.val)).take 4 = signed32 (s.regulators.get b).integral ∧
            p[126 + b.val]? =
              some (byteOf ((s.channels.get b).state.code +
                if (s.channels.get b).safe then 8 else 0))) ∧
          p[130]? = some (byteOf s.monitor.state.code) ∧
          p[147]? = some (byteOf s.monitor.recent.length) ∧
          p[206]? = some (byteOf s.trip.causes.toNat) ∧
          (p.drop 207).take 4 = fieldTick s.trip.tick ∧
          p[212]? = some (byteOf s.recorder.state.code) ∧
          p[213]? = some (if s.holder = .p then 0x00 else 0x01) ∧
          (p.drop 216).take 2 = field16 (s.links.get r.link).summary.toNat ∧
          p[222]? = some (if s.rate = .slow then 0x00 else 0x01)) ∧
      (answers .readMeasure (0x00 :: s.scanner.measureReport) ∧
        let p := 0x00 :: s.scanner.measureReport
        p.length = 71 ∧ (p.drop 1).take 4 = fieldTick s.scanner.scanTick ∧
          (p.drop 5).take 6 =
            signed16 s.scanner.u.ab ++ signed16 s.scanner.u.bc ++ signed16 s.scanner.u.ca ∧
          (∀ b : Index,
            (p.drop (11 + 2 * b.val)).take 2 = field16 (s.scanner.i.get b + 2000).toNat ∧
            (p.drop (19 + 3 * b.val)).take 3 = field24 (s.scanner.e.get b).toNat ∧
            (p.drop (43 + 4 * b.val)).take 4 = field32 (s.scanner.vCell.get b).toNat) ∧
          (p.drop 39).take 4 = field16 s.scanner.g ++ field16 s.scanner.uAvg ∧
          (p.drop 65).take 6 =
            field16 s.scanner.filtered.ab ++ field16 s.scanner.filtered.bc ++
              field16 s.scanner.filtered.ca) ∧
      (answers .readRecordHeader (0x00 :: s.recorder.headerReport) ∧
        s.recorder.headerReport.length = 15)) ∧
    ∀ m, r.payload = [m] →
      let points (table : List EnvelopePoint) : List Byte :=
        (table.map (fun p => field16 p.time ++ field16 p.level)).flatten
      answers .readEnvelope
        (if m = 0 then 0x00 :: 0x00 :: byteOf s.monitor.lowTable.length :: points s.monitor.lowTable
        else if m = 1 then
          0x00 :: 0x01 :: byteOf s.monitor.highTable.length :: points s.monitor.highTable
        else [0x03]) ∧
      (∀ c : Index, m.toNat = c.val → answers .readCourse (0x00 :: u.courseReport c)) ∧
      (4 ≤ m.toNat → answers .readCourse [0x03])

/-- GET_SETTING answers OK, the id and the value in force, or REFUSED_VALUE for an id that Table 10-3
does not list, from either link, and changes nothing. After either reset every setting reads its
default, whatever was set before (R199). -/
def Obligations.GetSettingReadsTheValue : Prop :=
  (∀ (r : Request) (s : State) (id : Byte), s.hears r → s.settled → r.payload = [id] →
    (∀ x : Setting, x.id = id.toNat →
      exec (.getSetting r) s = .next
        ((s.atRequest r).withReply r.link
          ⟨0x43, r.tag, 0x00 :: id :: signed32 (s.settings.value x)⟩)) ∧
    ((∀ x : Setting, x.id ≠ id.toNat) →
      exec (.getSetting r) s = .next
        ((s.atRequest r).withReply r.link ⟨0x43, r.tag, [0x03]⟩))) ∧
  (∀ (pins : Pins) (s : State),
    ∃ t, exec (.powerOnReset pins) s = .next t ∧
      ∀ x : Setting, t.settings.value x = Settings.default.value x) ∧
  ∀ (pins : Pins) (s : State), s.inReset = true →
    ∃ t, exec (.resetLineRelease pins) s = .next t ∧
      ∀ x : Setting, t.settings.value x = Settings.default.value x

/-- CLEAR_EVENTS clears the named flags of its own link's summary and SET_NOTICE_MASK replaces its own
link's mask; a field with a bit beyond the set's is refused. Neither touches the other link (R187,
R197). -/
def Obligations.LinkItemsAreTheirOwn : Prop :=
  ∀ (r : Request) (s : State) (a b : Byte), s.hears r → s.settled → r.payload = [a, b] →
    let u := s.atRequest r
    let k := u.links.get r.link
    let n := a.toNat * 256 + b.toNat
    (n < 8192 →
      exec (.clearEvents r) s = .next
        (({ u with
          links :=
            s.links.set r.link
              { k with summary := k.summary &&& ~~~(BitVec.ofNat 13 n) } }).withReply r.link
          ⟨0x48, r.tag, [0x00]⟩)) ∧
    (8192 ≤ n →
      exec (.clearEvents r) s = .next (u.withReply r.link ⟨0x48, r.tag, [0x03]⟩)) ∧
    (n < 512 →
      exec (.setNoticeMask r) s = .next
        (({ u with
          links := s.links.set r.link { k with mask := BitVec.ofNat 9 n } }).withReply r.link
          ⟨0x49, r.tag, [0x00]⟩)) ∧
    (512 ≤ n →
      exec (.setNoticeMask r) s = .next (u.withReply r.link ⟨0x49, r.tag, [0x03]⟩))

/-- A SET_SETTING of a value in range, permitted by its class and consistent with the other settings
puts that value in force and answers OK with it; every other setting stands. A setting that the part
only reads where it uses it changes nothing else, and the others act at once as their rules say, each on
the items its rule names alone: F_NOM and CROSS_SET restart the synchroniser on a change, at which the
frequency excursion is forgotten, and do nothing more where the value stands already (R25, R44, R45, R63,
R64, R119, R138, R173, R190, R200, R201). The turn mark is the model's own (log 4). -/
def Obligations.AcceptedSetTakesEffect : Prop :=
  ∀ (r : Request) (s : State) (id : Byte) (bytes : List Byte) (x : Setting), s.hears r →
    s.settled → s.holder = r.link → r.payload = id :: bytes → bytes.length = 4 →
    x.id = id.toNat →
    let u := s.atRequest r
    let v := signedValueOf bytes
    let reply : OutRecord := ⟨0x50, r.tag, 0x00 :: id :: bytes⟩
    let put : State := { u with settings := s.settings.put x v }
    x.inRange v = true → s.permits x.cls = true →
    (s.settings.put x v).consistent s.monitor.lowTable s.monitor.highTable = true →
    ∃ t, exec (.setSetting r) s = .next t ∧
      t.settings = s.settings.put x v ∧ t.settings.value x = v ∧
      (∀ y, y ≠ x → t.settings.value y = s.settings.value y) ∧
      (t.links.get r.link).replies = (s.links.get r.link).replies ++ [reply] ∧
      (x ≠ .fNom → x ≠ .crossSet → x ≠ .lockCount → x ≠ .lossCount → x ≠ .reanchorCount →
        x ≠ .repeatMax → x ≠ .xLim → (∀ c, x ≠ .iMax c) → x ≠ .authTimeout → x ≠ .recPre →
        x ≠ .recDecim →
        t = put.withReply r.link reply) ∧
      (x = .fNom ∨ x = .crossSet → v = s.settings.value x → t = put.withReply r.link reply) ∧
      (x = .fNom ∨ x = .crossSet → v ≠ s.settings.value x →
        t.sync =
          { s.sync with
            state := .acquiring, unanchored := true, good := 0, bad := 0, consistency := 0,
            coastTurns := 0, previous := none, window := none,
            period := (match t.settings.fNom with | .hz50 => 200000 | .hz60 => 166667),
            frequencyLimit := false, turn := .unmarked } ∧
          t.phase = none ∧ (∀ l, t.flagged l 0) ∧
          t.monitor = { s.monitor with excursionTimer := 0, excursionTripped := false } ∧
          (s.sync.state ≠ .locked → t.recorder = s.recorder) ∧
          t.elapsed = u.elapsed ∧ t.scanner = s.scanner ∧ t.bridges = s.bridges ∧
          t.regulators = s.regulators ∧ t.channels = s.channels ∧ t.trip = s.trip ∧
          t.holder = s.holder ∧ t.watchdog = 0 ∧ t.pending = s.pending) ∧
      (x = .lockCount →
        t = { put with sync := { s.sync with good := 0 } }.withReply r.link reply) ∧
      (x = .lossCount →
        t = { put with sync := { s.sync with bad := 0 } }.withReply r.link reply) ∧
      (x = .reanchorCount →
        t = { put with sync := { s.sync with consistency := 0 } }.withReply r.link reply) ∧
      (x = .repeatMax →
        t.monitor.recent <:+ s.monitor.recent ∧
          t.monitor.recent.length = min s.monitor.recent.length v.toNat ∧
          t = { put with
            monitor := { s.monitor with recent := t.monitor.recent } }.withReply r.link reply) ∧
      (x = .xLim →
        (∀ b, t.regulators.get b =
          { s.regulators.get b with
            integral := min (max (s.regulators.get b).integral (-(v * 1000))) (v * 1000) }) ∧
          t = { put with regulators := t.regulators }.withReply r.link reply) ∧
      (∀ c, x = .iMax c →
        let k := s.channels.get c
        let fold :=
          if k.foldCap = s.settings.iMax.get c * 1000 then v.toNat * 1000
          else min k.foldCap (v.toNat * 1000)
        t = { put with
          channels :=
            s.channels.set c
              { k with
                foldCap := fold
                foldback := decide (fold < v.toNat * 1000) } }.withReply r.link reply) ∧
      (x = .authTimeout → t = { put with watchdog := 0 }.withReply r.link reply) ∧
      (x = .recPre ∨ x = .recDecim →
        t = { put with
          recorder := { s.recorder with ring := [], decimation := 0 } }.withReply r.link reply)

/-- SET_SETTING is judged in order: an id that is not listed or a value out of range is refused with
REFUSED_VALUE, a class that does not permit it with REFUSED_STATE, and a value that breaks a constraint
among settings with REFUSED_VALUE. The stopped class needs every bridge BLOCKED or in LOCKOUT, the calm
class the monitor NORMAL, the recorder class the recorder ARMED. Nothing is set (R200, R201). -/
def Obligations.RefusedSetChangesNothing : Prop :=
  ∀ (r : Request) (s : State) (id : Byte) (bytes : List Byte), s.hears r → s.settled →
    s.holder = r.link → r.payload = id :: bytes → bytes.length = 4 →
    let v := signedValueOf bytes
    let refused (code : Byte) : Prop :=
      exec (.setSetting r) s = .next
        ((s.atRequest r).withReply r.link ⟨0x50, r.tag, [code]⟩)
    ((∀ x : Setting, x.id ≠ id.toNat) → refused 0x03) ∧
    ∀ x : Setting, x.id = id.toNat →
      (x.inRange v = false → refused 0x03) ∧
      (x.inRange v = true →
        (x.cls = .stopped ∧ ∃ b, s.bridgeState b ≠ .blocked ∧ s.bridgeState b ≠ .lockout) ∨
          (x.cls = .calm ∧ s.monitor.state ≠ .normal) ∨
          (x.cls = .recorder ∧ s.recorder.state ≠ .armed) →
        refused 0x05) ∧
      (x.inRange v = true → s.permits x.cls = true →
        (s.settings.put x v).consistent s.monitor.lowTable s.monitor.highTable = false →
        refused 0x03)

/-- LOAD_ENVELOPE with a valid table replaces it while the monitor is NORMAL; it is refused with
REFUSED_STATE in any other state, and an invalid table or an unknown one with REFUSED_VALUE (R48,
R49). -/
def Obligations.LoadEnvelopeReplaces : Prop :=
  ∀ (r : Request) (s : State) (which count : Byte) (bytes : List Byte), s.hears r → s.settled →
    s.holder = r.link → r.payload = which :: count :: bytes → bytes.length = 4 * count.toNat →
    let u := s.atRequest r
    let points := readPoints bytes
    let answered (t : State) (code : Byte) : State := t.withReply r.link ⟨0x51, r.tag, [code]⟩
    (s.monitor.state ≠ .normal → exec (.loadEnvelope r) s = .next (answered u 0x05)) ∧
    (s.monitor.state = .normal → which = 0 → validLow s.settings.dipStart points = true →
      exec (.loadEnvelope r) s = .next
        (answered { u with monitor := { s.monitor with lowTable := points } } 0x00)) ∧
    (s.monitor.state = .normal → which = 1 → validHigh s.settings.swellStart points = true →
      exec (.loadEnvelope r) s = .next
        (answered { u with monitor := { s.monitor with highTable := points } } 0x00)) ∧
    (s.monitor.state = .normal →
      (which = 0 → validLow s.settings.dipStart points = false) →
      (which = 1 → validHigh s.settings.swellStart points = false) →
      exec (.loadEnvelope r) s = .next (answered u 0x03))

/-- SYNC_RESTART with every bridge BLOCKED or in LOCKOUT puts the synchroniser, whatever its state, into
ACQUIRING with the unanchored flag set, its counts at 0 and the nominal period, answers OK and raises a
SYNC event; with any other bridge state it is refused with REFUSED_STATE (R25, R40, R43). The turn mark
is the model's own (log 4). -/
def Obligations.SyncRestartUnanchors : Prop :=
  ∀ (r : Request) (s : State), s.hears r → s.settled → s.holder = r.link → r.payload = [] →
    ((∀ b, s.bridgeState b = .blocked ∨ s.bridgeState b = .lockout) →
      ∃ t, exec (.syncRestart r) s = .next t ∧
        t.sync =
          { s.sync with
            state := .acquiring, unanchored := true, good := 0, bad := 0, consistency := 0,
            coastTurns := 0, previous := none, window := none,
            period := (match s.settings.fNom with | .hz50 => 200000 | .hz60 => 166667),
            frequencyLimit := false, turn := .unmarked } ∧
        (∀ l, t.flagged l 0) ∧
        (t.links.get r.link).replies =
          (s.links.get r.link).replies ++ [⟨0x5B, r.tag, [0x00]⟩] ∧
        t.elapsed = s.elapsed + r.wait ∧ t.settings = s.settings ∧ t.scanner = s.scanner ∧
        t.bridges = s.bridges ∧ t.regulators = s.regulators ∧ t.channels = s.channels ∧
        t.trip = s.trip ∧ t.holder = s.holder ∧ t.pending = s.pending) ∧
    ((∃ b, s.bridgeState b ≠ .blocked ∧ s.bridgeState b ≠ .lockout) →
      exec (.syncRestart r) s = .next
        ((s.atRequest r).withReply r.link ⟨0x5B, r.tag, [0x05]⟩))

/-! ## Invariants of every step -/

/-- Every step keeps every setting in its range, the constraints among settings, both envelope tables
valid against the thresholds in force, and the tracked period within 66 Hz to 44 Hz (R22, R48, R200,
R201). -/
def Obligations.SettingsAndPeriodStayValid : Prop :=
  ∀ s t : State, step s = .next t →
    (s.settingsValid → t.settingsValid) ∧ (s.periodBounded → t.periodBounded)

/-- Every step keeps the reply queues at 4 and the notice queues at 8, and every course queue at 16
(R123, R184). -/
def Obligations.QueuesStayBounded : Prop :=
  ∀ s t : State, step s = .next t →
    (s.queuesBounded → t.queuesBounded) ∧ (s.coursesBounded → t.coursesBounded)

/-- Every step keeps the latch, BKRTRIP, the cause set and the bridges in agreement: while a trip is
latched BKRTRIP is asserted, the set holds the first-out cause and every bridge is in LOCKOUT, and while
none is, the set is empty and the line released (R152). -/
def Obligations.TripLatchStaysSafe : Prop :=
  ∀ s t : State, step s = .next t → s.tripSafe → t.tripSafe

/-- The machine right after reset meets every invariant above. -/
def Obligations.ResetMeetsTheInvariants : Prop :=
  State.reset.settingsValid ∧ State.reset.periodBounded ∧ State.reset.queuesBounded ∧
    State.reset.coursesBounded ∧ State.reset.tripSafe
end

