-- ==== Sys2Proof/Laws/State.lean ====
section
/-! SUPPORT. One lemma per field for each update of State, each true by definition, so that no proof
unfolds a record update; and reading back an item that was set. -/

namespace Sys2Proof

theorem Four.get_set {α : Type} (q : Four α) (i j : Index) (x : α) :
    (q.set i x).get j = if i = j then x else q.get j := by
  fin_cases i <;> fin_cases j <;> rfl

@[simp] theorem Four.get_set_self {α : Type} (q : Four α) (i : Index) (x : α) :
    (q.set i x).get i = x := by simp [Four.get_set]

theorem Four.get_set_of_ne {α : Type} (q : Four α) (i j : Index) (x : α) (h : i ≠ j) :
    (q.set i x).get j = q.get j := by simp [Four.get_set, h]

@[simp] theorem Four.get_map {α β : Type} (f : α → β) (q : Four α) (i : Index) :
    (q.map f).get i = f (q.get i) := by fin_cases i <;> rfl

@[simp] theorem Four.get_fill {α : Type} (x : α) (i : Index) : (Four.fill x).get i = x := by
  fin_cases i <;> rfl

@[simp] theorem Four.get_tabulate {α : Type} (f : Index → α) (i : Index) :
    (Four.tabulate f).get i = f i := by fin_cases i <;> rfl

theorem Three.get_set {α : Type} (q : Three α) (i j : Line) (x : α) :
    (q.set i x).get j = if i = j then x else q.get j := by
  cases i <;> cases j <;> rfl

@[simp] theorem Three.get_set_self {α : Type} (q : Three α) (i : Line) (x : α) :
    (q.set i x).get i = x := by simp [Three.get_set]

theorem Both.get_set {α : Type} (q : Both α) (i j : Link) (x : α) :
    (q.set i x).get j = if i = j then x else q.get j := by
  cases i <;> cases j <;> rfl

@[simp] theorem Both.get_set_self {α : Type} (q : Both α) (i : Link) (x : α) :
    (q.set i x).get i = x := by simp [Both.get_set]

@[simp] theorem Both.get_map {α β : Type} (f : α → β) (q : Both α) (i : Link) :
    (q.map f).get i = f (q.get i) := by cases i <;> rfl

end Sys2Proof

namespace Sys2Proof.Machine

variable (s : State)

/-! ### runFor -/

@[simp] theorem State.runFor_elapsed (d : Nat) : (s.runFor d).elapsed = s.elapsed + d := rfl
@[simp] theorem State.runFor_millisecondAt (d : Nat) :
    (s.runFor d).millisecondAt = s.millisecondAt := rfl
@[simp] theorem State.runFor_inReset (d : Nat) : (s.runFor d).inReset = s.inReset := rfl
@[simp] theorem State.runFor_rate (d : Nat) : (s.runFor d).rate = s.rate := rfl
@[simp] theorem State.runFor_breakerClosed (d : Nat) :
    (s.runFor d).breakerClosed = s.breakerClosed := rfl
@[simp] theorem State.runFor_settings (d : Nat) : (s.runFor d).settings = s.settings := rfl
@[simp] theorem State.runFor_scanner (d : Nat) : (s.runFor d).scanner = s.scanner := rfl
@[simp] theorem State.runFor_sync (d : Nat) : (s.runFor d).sync = s.sync := rfl
@[simp] theorem State.runFor_monitor (d : Nat) : (s.runFor d).monitor = s.monitor := rfl
@[simp] theorem State.runFor_bridges (d : Nat) : (s.runFor d).bridges = s.bridges := rfl
@[simp] theorem State.runFor_regulators (d : Nat) : (s.runFor d).regulators = s.regulators := rfl
@[simp] theorem State.runFor_channels (d : Nat) : (s.runFor d).channels = s.channels := rfl
@[simp] theorem State.runFor_trip (d : Nat) : (s.runFor d).trip = s.trip := rfl
@[simp] theorem State.runFor_recorder (d : Nat) : (s.runFor d).recorder = s.recorder := rfl
@[simp] theorem State.runFor_links (d : Nat) : (s.runFor d).links = s.links := rfl
@[simp] theorem State.runFor_holder (d : Nat) : (s.runFor d).holder = s.holder := rfl
@[simp] theorem State.runFor_watchdog (d : Nat) : (s.runFor d).watchdog = s.watchdog := rfl
@[simp] theorem State.runFor_outbox (d : Nat) : (s.runFor d).outbox = s.outbox := rfl
@[simp] theorem State.runFor_triggers (d : Nat) : (s.runFor d).triggers = s.triggers := rfl
@[simp] theorem State.runFor_pending (d : Nat) : (s.runFor d).pending = s.pending := rfl

/-! ### runTo -/

@[simp] theorem State.runTo_elapsed (x : Nat) : (s.runTo x).elapsed = max s.elapsed x := rfl
@[simp] theorem State.runTo_millisecondAt (x : Nat) :
    (s.runTo x).millisecondAt = s.millisecondAt := rfl
@[simp] theorem State.runTo_inReset (x : Nat) : (s.runTo x).inReset = s.inReset := rfl
@[simp] theorem State.runTo_rate (x : Nat) : (s.runTo x).rate = s.rate := rfl
@[simp] theorem State.runTo_breakerClosed (x : Nat) :
    (s.runTo x).breakerClosed = s.breakerClosed := rfl
@[simp] theorem State.runTo_settings (x : Nat) : (s.runTo x).settings = s.settings := rfl
@[simp] theorem State.runTo_scanner (x : Nat) : (s.runTo x).scanner = s.scanner := rfl
@[simp] theorem State.runTo_sync (x : Nat) : (s.runTo x).sync = s.sync := rfl
@[simp] theorem State.runTo_monitor (x : Nat) : (s.runTo x).monitor = s.monitor := rfl
@[simp] theorem State.runTo_bridges (x : Nat) : (s.runTo x).bridges = s.bridges := rfl
@[simp] theorem State.runTo_regulators (x : Nat) : (s.runTo x).regulators = s.regulators := rfl
@[simp] theorem State.runTo_channels (x : Nat) : (s.runTo x).channels = s.channels := rfl
@[simp] theorem State.runTo_trip (x : Nat) : (s.runTo x).trip = s.trip := rfl
@[simp] theorem State.runTo_recorder (x : Nat) : (s.runTo x).recorder = s.recorder := rfl
@[simp] theorem State.runTo_links (x : Nat) : (s.runTo x).links = s.links := rfl
@[simp] theorem State.runTo_holder (x : Nat) : (s.runTo x).holder = s.holder := rfl
@[simp] theorem State.runTo_watchdog (x : Nat) : (s.runTo x).watchdog = s.watchdog := rfl
@[simp] theorem State.runTo_outbox (x : Nat) : (s.runTo x).outbox = s.outbox := rfl
@[simp] theorem State.runTo_triggers (x : Nat) : (s.runTo x).triggers = s.triggers := rfl
@[simp] theorem State.runTo_pending (x : Nat) : (s.runTo x).pending = s.pending := rfl

/-! ### mapBridge -/

@[simp] theorem State.mapBridge_elapsed (b : Index) (f : Bridge → Bridge) :
    (s.mapBridge b f).elapsed = s.elapsed := rfl
@[simp] theorem State.mapBridge_millisecondAt (b : Index) (f : Bridge → Bridge) :
    (s.mapBridge b f).millisecondAt = s.millisecondAt := rfl
@[simp] theorem State.mapBridge_inReset (b : Index) (f : Bridge → Bridge) :
    (s.mapBridge b f).inReset = s.inReset := rfl
@[simp] theorem State.mapBridge_rate (b : Index) (f : Bridge → Bridge) :
    (s.mapBridge b f).rate = s.rate := rfl
@[simp] theorem State.mapBridge_breakerClosed (b : Index) (f : Bridge → Bridge) :
    (s.mapBridge b f).breakerClosed = s.breakerClosed := rfl
@[simp] theorem State.mapBridge_settings (b : Index) (f : Bridge → Bridge) :
    (s.mapBridge b f).settings = s.settings := rfl
@[simp] theorem State.mapBridge_scanner (b : Index) (f : Bridge → Bridge) :
    (s.mapBridge b f).scanner = s.scanner := rfl
@[simp] theorem State.mapBridge_sync (b : Index) (f : Bridge → Bridge) :
    (s.mapBridge b f).sync = s.sync := rfl
@[simp] theorem State.mapBridge_monitor (b : Index) (f : Bridge → Bridge) :
    (s.mapBridge b f).monitor = s.monitor := rfl
@[simp] theorem State.mapBridge_bridges (b : Index) (f : Bridge → Bridge) :
    (s.mapBridge b f).bridges = s.bridges.set b (f (s.bridges.get b)) := rfl
@[simp] theorem State.mapBridge_regulators (b : Index) (f : Bridge → Bridge) :
    (s.mapBridge b f).regulators = s.regulators := rfl
@[simp] theorem State.mapBridge_channels (b : Index) (f : Bridge → Bridge) :
    (s.mapBridge b f).channels = s.channels := rfl
@[simp] theorem State.mapBridge_trip (b : Index) (f : Bridge → Bridge) :
    (s.mapBridge b f).trip = s.trip := rfl
@[simp] theorem State.mapBridge_recorder (b : Index) (f : Bridge → Bridge) :
    (s.mapBridge b f).recorder = s.recorder := rfl
@[simp] theorem State.mapBridge_links (b : Index) (f : Bridge → Bridge) :
    (s.mapBridge b f).links = s.links := rfl
@[simp] theorem State.mapBridge_holder (b : Index) (f : Bridge → Bridge) :
    (s.mapBridge b f).holder = s.holder := rfl
@[simp] theorem State.mapBridge_watchdog (b : Index) (f : Bridge → Bridge) :
    (s.mapBridge b f).watchdog = s.watchdog := rfl
@[simp] theorem State.mapBridge_outbox (b : Index) (f : Bridge → Bridge) :
    (s.mapBridge b f).outbox = s.outbox := rfl
@[simp] theorem State.mapBridge_triggers (b : Index) (f : Bridge → Bridge) :
    (s.mapBridge b f).triggers = s.triggers := rfl
@[simp] theorem State.mapBridge_pending (b : Index) (f : Bridge → Bridge) :
    (s.mapBridge b f).pending = s.pending := rfl

/-! ### mapRegulator -/

@[simp] theorem State.mapRegulator_elapsed (b : Index) (f : Regulator → Regulator) :
    (s.mapRegulator b f).elapsed = s.elapsed := rfl
@[simp] theorem State.mapRegulator_millisecondAt (b : Index) (f : Regulator → Regulator) :
    (s.mapRegulator b f).millisecondAt = s.millisecondAt := rfl
@[simp] theorem State.mapRegulator_inReset (b : Index) (f : Regulator → Regulator) :
    (s.mapRegulator b f).inReset = s.inReset := rfl
@[simp] theorem State.mapRegulator_rate (b : Index) (f : Regulator → Regulator) :
    (s.mapRegulator b f).rate = s.rate := rfl
@[simp] theorem State.mapRegulator_breakerClosed (b : Index) (f : Regulator → Regulator) :
    (s.mapRegulator b f).breakerClosed = s.breakerClosed := rfl
@[simp] theorem State.mapRegulator_settings (b : Index) (f : Regulator → Regulator) :
    (s.mapRegulator b f).settings = s.settings := rfl
@[simp] theorem State.mapRegulator_scanner (b : Index) (f : Regulator → Regulator) :
    (s.mapRegulator b f).scanner = s.scanner := rfl
@[simp] theorem State.mapRegulator_sync (b : Index) (f : Regulator → Regulator) :
    (s.mapRegulator b f).sync = s.sync := rfl
@[simp] theorem State.mapRegulator_monitor (b : Index) (f : Regulator → Regulator) :
    (s.mapRegulator b f).monitor = s.monitor := rfl
@[simp] theorem State.mapRegulator_bridges (b : Index) (f : Regulator → Regulator) :
    (s.mapRegulator b f).bridges = s.bridges := rfl
@[simp] theorem State.mapRegulator_regulators (b : Index) (f : Regulator → Regulator) :
    (s.mapRegulator b f).regulators = s.regulators.set b (f (s.regulators.get b)) := rfl
@[simp] theorem State.mapRegulator_channels (b : Index) (f : Regulator → Regulator) :
    (s.mapRegulator b f).channels = s.channels := rfl
@[simp] theorem State.mapRegulator_trip (b : Index) (f : Regulator → Regulator) :
    (s.mapRegulator b f).trip = s.trip := rfl
@[simp] theorem State.mapRegulator_recorder (b : Index) (f : Regulator → Regulator) :
    (s.mapRegulator b f).recorder = s.recorder := rfl
@[simp] theorem State.mapRegulator_links (b : Index) (f : Regulator → Regulator) :
    (s.mapRegulator b f).links = s.links := rfl
@[simp] theorem State.mapRegulator_holder (b : Index) (f : Regulator → Regulator) :
    (s.mapRegulator b f).holder = s.holder := rfl
@[simp] theorem State.mapRegulator_watchdog (b : Index) (f : Regulator → Regulator) :
    (s.mapRegulator b f).watchdog = s.watchdog := rfl
@[simp] theorem State.mapRegulator_outbox (b : Index) (f : Regulator → Regulator) :
    (s.mapRegulator b f).outbox = s.outbox := rfl
@[simp] theorem State.mapRegulator_triggers (b : Index) (f : Regulator → Regulator) :
    (s.mapRegulator b f).triggers = s.triggers := rfl
@[simp] theorem State.mapRegulator_pending (b : Index) (f : Regulator → Regulator) :
    (s.mapRegulator b f).pending = s.pending := rfl

/-! ### mapChannel -/

@[simp] theorem State.mapChannel_elapsed (c : Index) (f : Channel → Channel) :
    (s.mapChannel c f).elapsed = s.elapsed := rfl
@[simp] theorem State.mapChannel_millisecondAt (c : Index) (f : Channel → Channel) :
    (s.mapChannel c f).millisecondAt = s.millisecondAt := rfl
@[simp] theorem State.mapChannel_inReset (c : Index) (f : Channel → Channel) :
    (s.mapChannel c f).inReset = s.inReset := rfl
@[simp] theorem State.mapChannel_rate (c : Index) (f : Channel → Channel) :
    (s.mapChannel c f).rate = s.rate := rfl
@[simp] theorem State.mapChannel_breakerClosed (c : Index) (f : Channel → Channel) :
    (s.mapChannel c f).breakerClosed = s.breakerClosed := rfl
@[simp] theorem State.mapChannel_settings (c : Index) (f : Channel → Channel) :
    (s.mapChannel c f).settings = s.settings := rfl
@[simp] theorem State.mapChannel_scanner (c : Index) (f : Channel → Channel) :
    (s.mapChannel c f).scanner = s.scanner := rfl
@[simp] theorem State.mapChannel_sync (c : Index) (f : Channel → Channel) :
    (s.mapChannel c f).sync = s.sync := rfl
@[simp] theorem State.mapChannel_monitor (c : Index) (f : Channel → Channel) :
    (s.mapChannel c f).monitor = s.monitor := rfl
@[simp] theorem State.mapChannel_bridges (c : Index) (f : Channel → Channel) :
    (s.mapChannel c f).bridges = s.bridges := rfl
@[simp] theorem State.mapChannel_regulators (c : Index) (f : Channel → Channel) :
    (s.mapChannel c f).regulators = s.regulators := rfl
@[simp] theorem State.mapChannel_channels (c : Index) (f : Channel → Channel) :
    (s.mapChannel c f).channels = s.channels.set c (f (s.channels.get c)) := rfl
@[simp] theorem State.mapChannel_trip (c : Index) (f : Channel → Channel) :
    (s.mapChannel c f).trip = s.trip := rfl
@[simp] theorem State.mapChannel_recorder (c : Index) (f : Channel → Channel) :
    (s.mapChannel c f).recorder = s.recorder := rfl
@[simp] theorem State.mapChannel_links (c : Index) (f : Channel → Channel) :
    (s.mapChannel c f).links = s.links := rfl
@[simp] theorem State.mapChannel_holder (c : Index) (f : Channel → Channel) :
    (s.mapChannel c f).holder = s.holder := rfl
@[simp] theorem State.mapChannel_watchdog (c : Index) (f : Channel → Channel) :
    (s.mapChannel c f).watchdog = s.watchdog := rfl
@[simp] theorem State.mapChannel_outbox (c : Index) (f : Channel → Channel) :
    (s.mapChannel c f).outbox = s.outbox := rfl
@[simp] theorem State.mapChannel_triggers (c : Index) (f : Channel → Channel) :
    (s.mapChannel c f).triggers = s.triggers := rfl
@[simp] theorem State.mapChannel_pending (c : Index) (f : Channel → Channel) :
    (s.mapChannel c f).pending = s.pending := rfl

/-! ### mapLink -/

@[simp] theorem State.mapLink_elapsed (l : Link) (f : LinkState → LinkState) :
    (s.mapLink l f).elapsed = s.elapsed := rfl
@[simp] theorem State.mapLink_millisecondAt (l : Link) (f : LinkState → LinkState) :
    (s.mapLink l f).millisecondAt = s.millisecondAt := rfl
@[simp] theorem State.mapLink_inReset (l : Link) (f : LinkState → LinkState) :
    (s.mapLink l f).inReset = s.inReset := rfl
@[simp] theorem State.mapLink_rate (l : Link) (f : LinkState → LinkState) :
    (s.mapLink l f).rate = s.rate := rfl
@[simp] theorem State.mapLink_breakerClosed (l : Link) (f : LinkState → LinkState) :
    (s.mapLink l f).breakerClosed = s.breakerClosed := rfl
@[simp] theorem State.mapLink_settings (l : Link) (f : LinkState → LinkState) :
    (s.mapLink l f).settings = s.settings := rfl
@[simp] theorem State.mapLink_scanner (l : Link) (f : LinkState → LinkState) :
    (s.mapLink l f).scanner = s.scanner := rfl
@[simp] theorem State.mapLink_sync (l : Link) (f : LinkState → LinkState) :
    (s.mapLink l f).sync = s.sync := rfl
@[simp] theorem State.mapLink_monitor (l : Link) (f : LinkState → LinkState) :
    (s.mapLink l f).monitor = s.monitor := rfl
@[simp] theorem State.mapLink_bridges (l : Link) (f : LinkState → LinkState) :
    (s.mapLink l f).bridges = s.bridges := rfl
@[simp] theorem State.mapLink_regulators (l : Link) (f : LinkState → LinkState) :
    (s.mapLink l f).regulators = s.regulators := rfl
@[simp] theorem State.mapLink_channels (l : Link) (f : LinkState → LinkState) :
    (s.mapLink l f).channels = s.channels := rfl
@[simp] theorem State.mapLink_trip (l : Link) (f : LinkState → LinkState) :
    (s.mapLink l f).trip = s.trip := rfl
@[simp] theorem State.mapLink_recorder (l : Link) (f : LinkState → LinkState) :
    (s.mapLink l f).recorder = s.recorder := rfl
@[simp] theorem State.mapLink_links (l : Link) (f : LinkState → LinkState) :
    (s.mapLink l f).links = s.links.set l (f (s.links.get l)) := rfl
@[simp] theorem State.mapLink_holder (l : Link) (f : LinkState → LinkState) :
    (s.mapLink l f).holder = s.holder := rfl
@[simp] theorem State.mapLink_watchdog (l : Link) (f : LinkState → LinkState) :
    (s.mapLink l f).watchdog = s.watchdog := rfl
@[simp] theorem State.mapLink_outbox (l : Link) (f : LinkState → LinkState) :
    (s.mapLink l f).outbox = s.outbox := rfl
@[simp] theorem State.mapLink_triggers (l : Link) (f : LinkState → LinkState) :
    (s.mapLink l f).triggers = s.triggers := rfl
@[simp] theorem State.mapLink_pending (l : Link) (f : LinkState → LinkState) :
    (s.mapLink l f).pending = s.pending := rfl

/-! ### mapMonitor -/

@[simp] theorem State.mapMonitor_elapsed (f : Monitor → Monitor) :
    (s.mapMonitor f).elapsed = s.elapsed := rfl
@[simp] theorem State.mapMonitor_millisecondAt (f : Monitor → Monitor) :
    (s.mapMonitor f).millisecondAt = s.millisecondAt := rfl
@[simp] theorem State.mapMonitor_inReset (f : Monitor → Monitor) :
    (s.mapMonitor f).inReset = s.inReset := rfl
@[simp] theorem State.mapMonitor_rate (f : Monitor → Monitor) :
    (s.mapMonitor f).rate = s.rate := rfl
@[simp] theorem State.mapMonitor_breakerClosed (f : Monitor → Monitor) :
    (s.mapMonitor f).breakerClosed = s.breakerClosed := rfl
@[simp] theorem State.mapMonitor_settings (f : Monitor → Monitor) :
    (s.mapMonitor f).settings = s.settings := rfl
@[simp] theorem State.mapMonitor_scanner (f : Monitor → Monitor) :
    (s.mapMonitor f).scanner = s.scanner := rfl
@[simp] theorem State.mapMonitor_sync (f : Monitor → Monitor) :
    (s.mapMonitor f).sync = s.sync := rfl
@[simp] theorem State.mapMonitor_monitor (f : Monitor → Monitor) :
    (s.mapMonitor f).monitor = f s.monitor := rfl
@[simp] theorem State.mapMonitor_bridges (f : Monitor → Monitor) :
    (s.mapMonitor f).bridges = s.bridges := rfl
@[simp] theorem State.mapMonitor_regulators (f : Monitor → Monitor) :
    (s.mapMonitor f).regulators = s.regulators := rfl
@[simp] theorem State.mapMonitor_channels (f : Monitor → Monitor) :
    (s.mapMonitor f).channels = s.channels := rfl
@[simp] theorem State.mapMonitor_trip (f : Monitor → Monitor) :
    (s.mapMonitor f).trip = s.trip := rfl
@[simp] theorem State.mapMonitor_recorder (f : Monitor → Monitor) :
    (s.mapMonitor f).recorder = s.recorder := rfl
@[simp] theorem State.mapMonitor_links (f : Monitor → Monitor) :
    (s.mapMonitor f).links = s.links := rfl
@[simp] theorem State.mapMonitor_holder (f : Monitor → Monitor) :
    (s.mapMonitor f).holder = s.holder := rfl
@[simp] theorem State.mapMonitor_watchdog (f : Monitor → Monitor) :
    (s.mapMonitor f).watchdog = s.watchdog := rfl
@[simp] theorem State.mapMonitor_outbox (f : Monitor → Monitor) :
    (s.mapMonitor f).outbox = s.outbox := rfl
@[simp] theorem State.mapMonitor_triggers (f : Monitor → Monitor) :
    (s.mapMonitor f).triggers = s.triggers := rfl
@[simp] theorem State.mapMonitor_pending (f : Monitor → Monitor) :
    (s.mapMonitor f).pending = s.pending := rfl

/-! ### mapSync -/

@[simp] theorem State.mapSync_elapsed (f : Sync → Sync) : (s.mapSync f).elapsed = s.elapsed := rfl
@[simp] theorem State.mapSync_millisecondAt (f : Sync → Sync) :
    (s.mapSync f).millisecondAt = s.millisecondAt := rfl
@[simp] theorem State.mapSync_inReset (f : Sync → Sync) : (s.mapSync f).inReset = s.inReset := rfl
@[simp] theorem State.mapSync_rate (f : Sync → Sync) : (s.mapSync f).rate = s.rate := rfl
@[simp] theorem State.mapSync_breakerClosed (f : Sync → Sync) :
    (s.mapSync f).breakerClosed = s.breakerClosed := rfl
@[simp] theorem State.mapSync_settings (f : Sync → Sync) :
    (s.mapSync f).settings = s.settings := rfl
@[simp] theorem State.mapSync_scanner (f : Sync → Sync) : (s.mapSync f).scanner = s.scanner := rfl
@[simp] theorem State.mapSync_sync (f : Sync → Sync) : (s.mapSync f).sync = f s.sync := rfl
@[simp] theorem State.mapSync_monitor (f : Sync → Sync) : (s.mapSync f).monitor = s.monitor := rfl
@[simp] theorem State.mapSync_bridges (f : Sync → Sync) : (s.mapSync f).bridges = s.bridges := rfl
@[simp] theorem State.mapSync_regulators (f : Sync → Sync) :
    (s.mapSync f).regulators = s.regulators := rfl
@[simp] theorem State.mapSync_channels (f : Sync → Sync) :
    (s.mapSync f).channels = s.channels := rfl
@[simp] theorem State.mapSync_trip (f : Sync → Sync) : (s.mapSync f).trip = s.trip := rfl
@[simp] theorem State.mapSync_recorder (f : Sync → Sync) :
    (s.mapSync f).recorder = s.recorder := rfl
@[simp] theorem State.mapSync_links (f : Sync → Sync) : (s.mapSync f).links = s.links := rfl
@[simp] theorem State.mapSync_holder (f : Sync → Sync) : (s.mapSync f).holder = s.holder := rfl
@[simp] theorem State.mapSync_watchdog (f : Sync → Sync) :
    (s.mapSync f).watchdog = s.watchdog := rfl
@[simp] theorem State.mapSync_outbox (f : Sync → Sync) : (s.mapSync f).outbox = s.outbox := rfl
@[simp] theorem State.mapSync_triggers (f : Sync → Sync) : (s.mapSync f).triggers = s.triggers := rfl
@[simp] theorem State.mapSync_pending (f : Sync → Sync) : (s.mapSync f).pending = s.pending := rfl

/-! ### mapScanner -/

@[simp] theorem State.mapScanner_elapsed (f : Scanner → Scanner) :
    (s.mapScanner f).elapsed = s.elapsed := rfl
@[simp] theorem State.mapScanner_millisecondAt (f : Scanner → Scanner) :
    (s.mapScanner f).millisecondAt = s.millisecondAt := rfl
@[simp] theorem State.mapScanner_inReset (f : Scanner → Scanner) :
    (s.mapScanner f).inReset = s.inReset := rfl
@[simp] theorem State.mapScanner_rate (f : Scanner → Scanner) :
    (s.mapScanner f).rate = s.rate := rfl
@[simp] theorem State.mapScanner_breakerClosed (f : Scanner → Scanner) :
    (s.mapScanner f).breakerClosed = s.breakerClosed := rfl
@[simp] theorem State.mapScanner_settings (f : Scanner → Scanner) :
    (s.mapScanner f).settings = s.settings := rfl
@[simp] theorem State.mapScanner_scanner (f : Scanner → Scanner) :
    (s.mapScanner f).scanner = f s.scanner := rfl
@[simp] theorem State.mapScanner_sync (f : Scanner → Scanner) :
    (s.mapScanner f).sync = s.sync := rfl
@[simp] theorem State.mapScanner_monitor (f : Scanner → Scanner) :
    (s.mapScanner f).monitor = s.monitor := rfl
@[simp] theorem State.mapScanner_bridges (f : Scanner → Scanner) :
    (s.mapScanner f).bridges = s.bridges := rfl
@[simp] theorem State.mapScanner_regulators (f : Scanner → Scanner) :
    (s.mapScanner f).regulators = s.regulators := rfl
@[simp] theorem State.mapScanner_channels (f : Scanner → Scanner) :
    (s.mapScanner f).channels = s.channels := rfl
@[simp] theorem State.mapScanner_trip (f : Scanner → Scanner) :
    (s.mapScanner f).trip = s.trip := rfl
@[simp] theorem State.mapScanner_recorder (f : Scanner → Scanner) :
    (s.mapScanner f).recorder = s.recorder := rfl
@[simp] theorem State.mapScanner_links (f : Scanner → Scanner) :
    (s.mapScanner f).links = s.links := rfl
@[simp] theorem State.mapScanner_holder (f : Scanner → Scanner) :
    (s.mapScanner f).holder = s.holder := rfl
@[simp] theorem State.mapScanner_watchdog (f : Scanner → Scanner) :
    (s.mapScanner f).watchdog = s.watchdog := rfl
@[simp] theorem State.mapScanner_outbox (f : Scanner → Scanner) :
    (s.mapScanner f).outbox = s.outbox := rfl
@[simp] theorem State.mapScanner_triggers (f : Scanner → Scanner) :
    (s.mapScanner f).triggers = s.triggers := rfl
@[simp] theorem State.mapScanner_pending (f : Scanner → Scanner) :
    (s.mapScanner f).pending = s.pending := rfl

/-! ### mapTrip -/

@[simp] theorem State.mapTrip_elapsed (f : Trip → Trip) : (s.mapTrip f).elapsed = s.elapsed := rfl
@[simp] theorem State.mapTrip_millisecondAt (f : Trip → Trip) :
    (s.mapTrip f).millisecondAt = s.millisecondAt := rfl
@[simp] theorem State.mapTrip_inReset (f : Trip → Trip) : (s.mapTrip f).inReset = s.inReset := rfl
@[simp] theorem State.mapTrip_rate (f : Trip → Trip) : (s.mapTrip f).rate = s.rate := rfl
@[simp] theorem State.mapTrip_breakerClosed (f : Trip → Trip) :
    (s.mapTrip f).breakerClosed = s.breakerClosed := rfl
@[simp] theorem State.mapTrip_settings (f : Trip → Trip) :
    (s.mapTrip f).settings = s.settings := rfl
@[simp] theorem State.mapTrip_scanner (f : Trip → Trip) : (s.mapTrip f).scanner = s.scanner := rfl
@[simp] theorem State.mapTrip_sync (f : Trip → Trip) : (s.mapTrip f).sync = s.sync := rfl
@[simp] theorem State.mapTrip_monitor (f : Trip → Trip) : (s.mapTrip f).monitor = s.monitor := rfl
@[simp] theorem State.mapTrip_bridges (f : Trip → Trip) : (s.mapTrip f).bridges = s.bridges := rfl
@[simp] theorem State.mapTrip_regulators (f : Trip → Trip) :
    (s.mapTrip f).regulators = s.regulators := rfl
@[simp] theorem State.mapTrip_channels (f : Trip → Trip) :
    (s.mapTrip f).channels = s.channels := rfl
@[simp] theorem State.mapTrip_trip (f : Trip → Trip) : (s.mapTrip f).trip = f s.trip := rfl
@[simp] theorem State.mapTrip_recorder (f : Trip → Trip) :
    (s.mapTrip f).recorder = s.recorder := rfl
@[simp] theorem State.mapTrip_links (f : Trip → Trip) : (s.mapTrip f).links = s.links := rfl
@[simp] theorem State.mapTrip_holder (f : Trip → Trip) : (s.mapTrip f).holder = s.holder := rfl
@[simp] theorem State.mapTrip_watchdog (f : Trip → Trip) :
    (s.mapTrip f).watchdog = s.watchdog := rfl
@[simp] theorem State.mapTrip_outbox (f : Trip → Trip) : (s.mapTrip f).outbox = s.outbox := rfl
@[simp] theorem State.mapTrip_triggers (f : Trip → Trip) : (s.mapTrip f).triggers = s.triggers := rfl
@[simp] theorem State.mapTrip_pending (f : Trip → Trip) : (s.mapTrip f).pending = s.pending := rfl

/-! ### mapRecorder -/

@[simp] theorem State.mapRecorder_elapsed (f : Recorder → Recorder) :
    (s.mapRecorder f).elapsed = s.elapsed := rfl
@[simp] theorem State.mapRecorder_millisecondAt (f : Recorder → Recorder) :
    (s.mapRecorder f).millisecondAt = s.millisecondAt := rfl
@[simp] theorem State.mapRecorder_inReset (f : Recorder → Recorder) :
    (s.mapRecorder f).inReset = s.inReset := rfl
@[simp] theorem State.mapRecorder_rate (f : Recorder → Recorder) :
    (s.mapRecorder f).rate = s.rate := rfl
@[simp] theorem State.mapRecorder_breakerClosed (f : Recorder → Recorder) :
    (s.mapRecorder f).breakerClosed = s.breakerClosed := rfl
@[simp] theorem State.mapRecorder_settings (f : Recorder → Recorder) :
    (s.mapRecorder f).settings = s.settings := rfl
@[simp] theorem State.mapRecorder_scanner (f : Recorder → Recorder) :
    (s.mapRecorder f).scanner = s.scanner := rfl
@[simp] theorem State.mapRecorder_sync (f : Recorder → Recorder) :
    (s.mapRecorder f).sync = s.sync := rfl
@[simp] theorem State.mapRecorder_monitor (f : Recorder → Recorder) :
    (s.mapRecorder f).monitor = s.monitor := rfl
@[simp] theorem State.mapRecorder_bridges (f : Recorder → Recorder) :
    (s.mapRecorder f).bridges = s.bridges := rfl
@[simp] theorem State.mapRecorder_regulators (f : Recorder → Recorder) :
    (s.mapRecorder f).regulators = s.regulators := rfl
@[simp] theorem State.mapRecorder_channels (f : Recorder → Recorder) :
    (s.mapRecorder f).channels = s.channels := rfl
@[simp] theorem State.mapRecorder_trip (f : Recorder → Recorder) :
    (s.mapRecorder f).trip = s.trip := rfl
@[simp] theorem State.mapRecorder_recorder (f : Recorder → Recorder) :
    (s.mapRecorder f).recorder = f s.recorder := rfl
@[simp] theorem State.mapRecorder_links (f : Recorder → Recorder) :
    (s.mapRecorder f).links = s.links := rfl
@[simp] theorem State.mapRecorder_holder (f : Recorder → Recorder) :
    (s.mapRecorder f).holder = s.holder := rfl
@[simp] theorem State.mapRecorder_watchdog (f : Recorder → Recorder) :
    (s.mapRecorder f).watchdog = s.watchdog := rfl
@[simp] theorem State.mapRecorder_outbox (f : Recorder → Recorder) :
    (s.mapRecorder f).outbox = s.outbox := rfl
@[simp] theorem State.mapRecorder_triggers (f : Recorder → Recorder) :
    (s.mapRecorder f).triggers = s.triggers := rfl
@[simp] theorem State.mapRecorder_pending (f : Recorder → Recorder) :
    (s.mapRecorder f).pending = s.pending := rfl

/-! ### raise -/

@[simp] theorem State.raise_elapsed (e : Event) : (s.raise e).elapsed = s.elapsed := rfl
@[simp] theorem State.raise_millisecondAt (e : Event) :
    (s.raise e).millisecondAt = s.millisecondAt := rfl
@[simp] theorem State.raise_inReset (e : Event) : (s.raise e).inReset = s.inReset := rfl
@[simp] theorem State.raise_rate (e : Event) : (s.raise e).rate = s.rate := rfl
@[simp] theorem State.raise_breakerClosed (e : Event) :
    (s.raise e).breakerClosed = s.breakerClosed := rfl
@[simp] theorem State.raise_settings (e : Event) : (s.raise e).settings = s.settings := rfl
@[simp] theorem State.raise_scanner (e : Event) : (s.raise e).scanner = s.scanner := rfl
@[simp] theorem State.raise_sync (e : Event) : (s.raise e).sync = s.sync := rfl
@[simp] theorem State.raise_monitor (e : Event) : (s.raise e).monitor = s.monitor := rfl
@[simp] theorem State.raise_bridges (e : Event) : (s.raise e).bridges = s.bridges := rfl
@[simp] theorem State.raise_regulators (e : Event) : (s.raise e).regulators = s.regulators := rfl
@[simp] theorem State.raise_channels (e : Event) : (s.raise e).channels = s.channels := rfl
@[simp] theorem State.raise_trip (e : Event) : (s.raise e).trip = s.trip := rfl
@[simp] theorem State.raise_recorder (e : Event) : (s.raise e).recorder = s.recorder := rfl
@[simp] theorem State.raise_links (e : Event) :
    (s.raise e).links = s.links.map (fun k => { k with summary := addBit k.summary e.row }) := rfl
@[simp] theorem State.raise_holder (e : Event) : (s.raise e).holder = s.holder := rfl
@[simp] theorem State.raise_watchdog (e : Event) : (s.raise e).watchdog = s.watchdog := rfl
@[simp] theorem State.raise_outbox (e : Event) : (s.raise e).outbox = s.outbox ++ [e] := rfl
@[simp] theorem State.raise_triggers (e : Event) : (s.raise e).triggers = s.triggers := rfl
@[simp] theorem State.raise_pending (e : Event) : (s.raise e).pending = s.pending := rfl

/-! ### withPending -/

@[simp] theorem State.withPending_elapsed (q : List Instr) :
    (s.withPending q).elapsed = s.elapsed := rfl
@[simp] theorem State.withPending_millisecondAt (q : List Instr) :
    (s.withPending q).millisecondAt = s.millisecondAt := rfl
@[simp] theorem State.withPending_inReset (q : List Instr) :
    (s.withPending q).inReset = s.inReset := rfl
@[simp] theorem State.withPending_rate (q : List Instr) : (s.withPending q).rate = s.rate := rfl
@[simp] theorem State.withPending_breakerClosed (q : List Instr) :
    (s.withPending q).breakerClosed = s.breakerClosed := rfl
@[simp] theorem State.withPending_settings (q : List Instr) :
    (s.withPending q).settings = s.settings := rfl
@[simp] theorem State.withPending_scanner (q : List Instr) :
    (s.withPending q).scanner = s.scanner := rfl
@[simp] theorem State.withPending_sync (q : List Instr) : (s.withPending q).sync = s.sync := rfl
@[simp] theorem State.withPending_monitor (q : List Instr) :
    (s.withPending q).monitor = s.monitor := rfl
@[simp] theorem State.withPending_bridges (q : List Instr) :
    (s.withPending q).bridges = s.bridges := rfl
@[simp] theorem State.withPending_regulators (q : List Instr) :
    (s.withPending q).regulators = s.regulators := rfl
@[simp] theorem State.withPending_channels (q : List Instr) :
    (s.withPending q).channels = s.channels := rfl
@[simp] theorem State.withPending_trip (q : List Instr) : (s.withPending q).trip = s.trip := rfl
@[simp] theorem State.withPending_recorder (q : List Instr) :
    (s.withPending q).recorder = s.recorder := rfl
@[simp] theorem State.withPending_links (q : List Instr) : (s.withPending q).links = s.links := rfl
@[simp] theorem State.withPending_holder (q : List Instr) :
    (s.withPending q).holder = s.holder := rfl
@[simp] theorem State.withPending_watchdog (q : List Instr) :
    (s.withPending q).watchdog = s.watchdog := rfl
@[simp] theorem State.withPending_outbox (q : List Instr) :
    (s.withPending q).outbox = s.outbox := rfl
@[simp] theorem State.withPending_triggers (q : List Instr) :
    (s.withPending q).triggers = s.triggers := rfl
@[simp] theorem State.withPending_pending (q : List Instr) : (s.withPending q).pending = q := rfl

end Sys2Proof.Machine
end

