-- ==== Sys2Proof/Laws/Frame.lean ====
section
/-! SUPPORT. What the blocks leave alone when they act at an event: the time base, the input levels, the
settings, the scanner, the envelope tables, authority, the waiting commands, and everything of a link
but its event summary. `Steady` says it; `Calm` says it of the synchroniser too. One lemma for each
shared operation. -/

namespace Sys2Proof.Machine

/-- A link's state with its summary left out. -/
def LinkState.unsummed (k : LinkState) : LinkState := { k with summary := 0 }

/-- The parts that the blocks leave alone when they act at an event, the synchroniser included. -/
structure Steady (s t : State) : Prop where
  elapsed : t.elapsed = s.elapsed
  millisecondAt : t.millisecondAt = s.millisecondAt
  inReset : t.inReset = s.inReset
  rate : t.rate = s.rate
  breakerClosed : t.breakerClosed = s.breakerClosed
  settings : t.settings = s.settings
  scanner : t.scanner = s.scanner
  lowTable : t.monitor.lowTable = s.monitor.lowTable
  highTable : t.monitor.highTable = s.monitor.highTable
  holder : t.holder = s.holder
  watchdog : t.watchdog = s.watchdog
  pending : t.pending = s.pending
  links : ∀ l, (t.links.get l).unsummed = (s.links.get l).unsummed

/-- The same, with the synchroniser left alone. -/
structure Calm (s t : State) : Prop extends Steady s t where
  sync : t.sync = s.sync

theorem Steady.rfl' (s : State) : Steady s s :=
  ⟨rfl, rfl, rfl, rfl, rfl, rfl, rfl, rfl, rfl, rfl, rfl, rfl, fun _ => rfl⟩

theorem Calm.rfl' (s : State) : Calm s s := ⟨Steady.rfl' s, rfl⟩

theorem Steady.trans' {s t u : State} (h : Steady s t) (k : Steady t u) : Steady s u :=
  ⟨k.elapsed.trans h.elapsed, k.millisecondAt.trans h.millisecondAt, k.inReset.trans h.inReset,
    k.rate.trans h.rate, k.breakerClosed.trans h.breakerClosed, k.settings.trans h.settings,
    k.scanner.trans h.scanner, k.lowTable.trans h.lowTable, k.highTable.trans h.highTable,
    k.holder.trans h.holder, k.watchdog.trans h.watchdog, k.pending.trans h.pending,
    fun l => (k.links l).trans (h.links l)⟩

theorem Calm.trans' {s t u : State} (h : Calm s t) (k : Calm t u) : Calm s u :=
  ⟨h.toSteady.trans' k.toSteady, k.sync.trans h.sync⟩

/-! ## Plain updates -/

theorem calm_raise (s : State) (e : Event) : Calm s (s.raise e) :=
  ⟨⟨rfl, rfl, rfl, rfl, rfl, rfl, rfl, rfl, rfl, rfl, rfl, rfl,
    fun l => by simp [LinkState.unsummed]⟩, rfl⟩

theorem calm_mapBridge (s : State) (b : Index) (f : Bridge → Bridge) : Calm s (s.mapBridge b f) :=
  ⟨⟨rfl, rfl, rfl, rfl, rfl, rfl, rfl, rfl, rfl, rfl, rfl, rfl, fun _ => rfl⟩, rfl⟩

theorem calm_mapRegulator (s : State) (b : Index) (f : Regulator → Regulator) :
    Calm s (s.mapRegulator b f) :=
  ⟨⟨rfl, rfl, rfl, rfl, rfl, rfl, rfl, rfl, rfl, rfl, rfl, rfl, fun _ => rfl⟩, rfl⟩

theorem calm_mapChannel (s : State) (c : Index) (f : Channel → Channel) :
    Calm s (s.mapChannel c f) :=
  ⟨⟨rfl, rfl, rfl, rfl, rfl, rfl, rfl, rfl, rfl, rfl, rfl, rfl, fun _ => rfl⟩, rfl⟩

theorem calm_mapMonitor (s : State) (f : Monitor → Monitor)
    (hl : (f s.monitor).lowTable = s.monitor.lowTable)
    (hh : (f s.monitor).highTable = s.monitor.highTable) : Calm s (s.mapMonitor f) :=
  ⟨⟨rfl, rfl, rfl, rfl, rfl, rfl, rfl, hl, hh, rfl, rfl, rfl, fun _ => rfl⟩, rfl⟩

theorem calm_mapTrip (s : State) (f : Trip → Trip) : Calm s (s.mapTrip f) :=
  ⟨⟨rfl, rfl, rfl, rfl, rfl, rfl, rfl, rfl, rfl, rfl, rfl, rfl, fun _ => rfl⟩, rfl⟩

theorem calm_mapRecorder (s : State) (f : Recorder → Recorder) : Calm s (s.mapRecorder f) :=
  ⟨⟨rfl, rfl, rfl, rfl, rfl, rfl, rfl, rfl, rfl, rfl, rfl, rfl, fun _ => rfl⟩, rfl⟩

theorem steady_mapSync (s : State) (f : Sync → Sync) : Steady s (s.mapSync f) :=
  ⟨rfl, rfl, rfl, rfl, rfl, rfl, rfl, rfl, rfl, rfl, rfl, rfl, fun _ => rfl⟩

/-- What every action keeps, a run of actions keeps. -/
theorem calm_forAll (s : State) (order : List Index) (f : Index → State → State)
    (h : ∀ i t, Calm t (f i t)) : Calm s (s.forAll order f) := by
  induction order generalizing s with
  | nil => exact Calm.rfl' s
  | cons i rest ih => exact (h i s).trans' (ih (f i s))

theorem steady_forAll (s : State) (order : List Index) (f : Index → State → State)
    (h : ∀ i t, Steady t (f i t)) : Steady s (s.forAll order f) := by
  induction order generalizing s with
  | nil => exact Steady.rfl' s
  | cons i rest ih => exact (h i s).trans' (ih (f i s))

theorem calm_foldl {α : Type} (s : State) (l : List α) (f : State → α → State)
    (h : ∀ t x, Calm t (f t x)) : Calm s (l.foldl f s) := by
  induction l generalizing s with
  | nil => exact Calm.rfl' s
  | cons x rest ih => exact (h s x).trans' (ih (f s x))

theorem steady_foldl {α : Type} (s : State) (l : List α) (f : State → α → State)
    (h : ∀ t x, Steady t (f t x)) : Steady s (l.foldl f s) := by
  induction l generalizing s with
  | nil => exact Steady.rfl' s
  | cons x rest ih => exact (h s x).trans' (ih (f s x))

/-! ## The recorder -/

theorem calm_triggers (s : State) (l : List Trigger) : Calm s { s with triggers := l } :=
  ⟨⟨rfl, rfl, rfl, rfl, rfl, rfl, rfl, rfl, rfl, rfl, rfl, rfl, fun _ => rfl⟩, rfl⟩

theorem calm_trigger (s : State) (x : TriggerSource) : Calm s (s.trigger x) := by
  unfold State.trigger
  split
  · exact calm_triggers s _
  · exact Calm.rfl' s

theorem calm_takeTrigger (s : State) (x : Trigger) : Calm s (s.takeTrigger x) := by
  unfold State.takeTrigger
  split
  · exact (calm_mapRecorder s _).trans' (calm_raise _ _)
  · exact calm_mapRecorder s _

theorem calm_takeTriggers (s : State) (k : Nat) : Calm s (s.takeTriggers k) :=
  (calm_triggers s []).trans' (calm_foldl _ _ _ calm_takeTrigger)

theorem calm_keepSnapshot (s : State) (x : Snapshot) : Calm s (s.keepSnapshot x) := by
  unfold State.keepSnapshot
  split
  · exact Calm.rfl' s
  · exact calm_mapRecorder s _
  · dsimp only
    split
    · exact calm_mapRecorder s _
    · split
      · exact ((calm_mapRecorder s _).trans' (calm_mapRecorder _ _)).trans' (calm_raise _ _)
      · exact calm_mapRecorder s _

theorem calm_recorderScan (s : State) : Calm s s.recorderScan := by
  unfold State.recorderScan
  split
  · exact Calm.rfl' s
  · split
    · exact (calm_mapRecorder s _).trans' (calm_keepSnapshot _ _)
    · exact calm_mapRecorder s _

theorem calm_recorderShare (s : State) (k : Nat) : Calm s (s.recorderShare k) :=
  (calm_takeTriggers s k).trans' (calm_recorderScan _)

/-! ## Bridges -/

theorem calm_preset (s : State) (b : Index) : Calm s (s.preset b) := calm_mapRegulator s b _

theorem calm_blockBridge (s : State) (b : Index) (c : BlockCause) : Calm s (s.blockBridge b c) :=
  (calm_mapBridge s b _).trans' (calm_raise _ _)

theorem calm_holdBridge (s : State) (b : Index) (c : HeldCause) : Calm s (s.holdBridge b c) :=
  ((calm_trigger s _).trans' (calm_mapBridge _ b _)).trans' (calm_raise _ _)

theorem calm_resumeBridge (s : State) (b : Index) : Calm s (s.resumeBridge b) :=
  ((calm_mapBridge s b _).trans' (calm_preset _ b)).trans' (calm_raise _ _)

theorem calm_clearHeld (s : State) (b : Index) (c : HeldCause) : Calm s (s.clearHeld b c) := by
  unfold State.clearHeld
  dsimp only
  split
  · split
    · exact calm_resumeBridge s b
    · exact calm_mapBridge s b _
  · exact Calm.rfl' s

theorem calm_stopBridge (s : State) (b : Index) : Calm s (s.stopBridge b) := by
  unfold State.stopBridge
  split
  case h_2 => exact (calm_mapBridge s b _).trans' (calm_raise _ _)
  all_goals first | exact calm_blockBridge s b _ | exact Calm.rfl' s

theorem calm_holdRequestOn (s : State) (b : Index) : Calm s (s.holdRequestOn b) := by
  unfold State.holdRequestOn
  split
  all_goals first
    | exact calm_holdBridge s b _
    | exact calm_blockBridge s b _
    | exact calm_mapBridge s b _
    | exact Calm.rfl' s

theorem calm_breakerOpens (s : State) (b : Index) : Calm s (s.breakerOpens b) := by
  unfold State.breakerOpens
  split
  all_goals first | exact calm_blockBridge s b _ | exact Calm.rfl' s

theorem calm_phaseLost (s : State) (b : Index) : Calm s (s.phaseLost b) := by
  unfold State.phaseLost
  split
  all_goals first | exact calm_blockBridge s b _ | exact Calm.rfl' s

theorem calm_coastBegins (s : State) (b : Index) : Calm s (s.coastBegins b) := by
  unfold State.coastBegins
  split
  all_goals first | exact calm_blockBridge s b _ | exact Calm.rfl' s

theorem calm_lockoutBridge (s : State) (b : Index) : Calm s (s.lockoutBridge b) := by
  unfold State.lockoutBridge
  dsimp only
  split
  · exact calm_mapBridge s b _
  · exact (calm_mapBridge s b _).trans' (calm_raise _ _)

theorem calm_unlockBridge (s : State) (b : Index) : Calm s (s.unlockBridge b) := by
  unfold State.unlockBridge
  split
  · exact (calm_mapBridge s b _).trans' (calm_raise _ _)
  · exact Calm.rfl' s

theorem calm_reanchorStep (s : State) (b : Index) (old new : Nat) (d : Int) :
    Calm s (s.reanchorStep b old new d) := by
  unfold State.reanchorStep
  repeat' split
  all_goals first
    | exact calm_holdBridge s b _
    | exact calm_blockBridge s b _
    | exact calm_mapBridge s b _
    | exact Calm.rfl' s

/-! ## Regulation and firing -/

theorem calm_accumulate (s : State) (b : Index) : Calm s (s.accumulate b) := by
  unfold State.accumulate
  split
  all_goals first | exact calm_mapRegulator s b _ | exact Calm.rfl' s

theorem calm_startPulse (s : State) (b : Index) (n : Scheduled) : Calm s (s.startPulse b n) :=
  calm_mapBridge s b _

theorem calm_firstFiring (s : State) (b : Index) : Calm s (s.firstFiring b) := by
  unfold State.firstFiring
  split
  · exact (calm_mapBridge s b _).trans' (calm_raise _ _)
  · exact Calm.rfl' s

theorem calm_scheduleNext (s : State) (b : Index) (n : Scheduled) : Calm s (s.scheduleNext b n) := by
  unfold State.scheduleNext
  extract_lets retarding r req sched t
  have h : Calm s t := (calm_mapRegulator s b _).trans' (calm_mapBridge _ b _)
  split
  · exact h.trans' (calm_blockBridge _ b _)
  · exact h

theorem calm_fire (s : State) (b : Index) (n : Scheduled) : Calm s (s.fire b n) :=
  ((calm_startPulse s b n).trans' (calm_firstFiring _ b)).trans' (calm_scheduleNext _ b n)

theorem calm_dueReached (s : State) (b : Index) : Calm s (s.dueReached b) := by
  unfold State.dueReached
  repeat' split
  all_goals first
    | exact calm_blockBridge s b _
    | exact calm_fire s b _
    | exact Calm.rfl' s

theorem calm_correctionFiring (s : State) (b : Index) (old new : Nat) :
    Calm s (s.correctionFiring b old new) := by
  unfold State.correctionFiring
  repeat' split
  all_goals first | exact calm_dueReached s b | exact Calm.rfl' s

/-! ## Channels -/

theorem calm_channelEvent (s : State) (c : Index) : Calm s (s.channelEvent c) := calm_raise s _

theorem calm_setChannelState (s : State) (c : Index) (x : ChannelState) :
    Calm s (s.setChannelState c x) := by
  unfold State.setChannelState
  split
  · exact Calm.rfl' s
  · exact (calm_mapChannel s c _).trans' (calm_channelEvent _ c)

theorem calm_flushChannel (s : State) (c : Index) : Calm s (s.flushChannel c) := by
  unfold State.flushChannel
  split
  · exact Calm.rfl' s
  · exact (calm_mapChannel s c _).trans' (calm_setChannelState _ c _)

theorem calm_tripFlush (s : State) (c : Index) : Calm s (s.tripFlush c) := by
  unfold State.tripFlush
  dsimp only
  split
  · exact calm_mapChannel s c _
  · exact (calm_mapChannel s c _).trans' (calm_setChannelState _ c _)

theorem calm_completeHead (s : State) (c : Index) : Calm s (s.completeHead c) := by
  unfold State.completeHead
  split
  · exact Calm.rfl' s
  · rename_i p rest _
    dsimp only
    have h : Calm s (match p.tag with
        | none => s
        | some t => s.raise (.stepDone c t (s.channels.get c).headClamped)) := by
      split
      · exact Calm.rfl' s
      · exact calm_raise s _
    split
    · exact (h.trans' (calm_mapChannel _ c _)).trans' (calm_setChannelState _ c _)
    · exact h.trans' (calm_mapChannel _ c _)

theorem calm_advance (s : State) (c : Index) : Calm s (s.advance c) := by
  unfold State.advance
  dsimp only
  split
  · exact (calm_mapChannel s c _).trans' (calm_completeHead _ c)
  · exact calm_mapChannel s c _

theorem calm_barrierTest (s : State) (adv : Index → Bool) : Calm s (s.barrierTest adv) := by
  unfold State.barrierTest
  apply calm_forAll
  intro i t
  split
  · exact calm_completeHead t i
  · exact Calm.rfl' t

theorem calm_foldTick (s : State) (c : Index) : Calm s (s.foldTick c) := by
  unfold State.foldTick
  exact calm_mapChannel s c _

theorem calm_park (s : State) (c : Index) : Calm s (s.park c) :=
  (((calm_mapChannel s c _).trans' (calm_setChannelState _ c _)).trans'
    (calm_stopBridge _ c)).trans' (calm_mapChannel _ c _)

theorem calm_lowLoadTick (s : State) (c : Index) : Calm s (s.lowLoadTick c) := by
  unfold State.lowLoadTick
  dsimp only
  repeat' split
  all_goals first | exact calm_park s c | exact calm_mapChannel s c _

theorem calm_channelTick (s : State) (adv : Index → Bool) (c : Index) :
    Calm s (s.channelTick adv c) := by
  unfold State.channelTick
  dsimp only
  split
  · exact (calm_foldTick s c).trans' (calm_setChannelState _ c _)
  · split
    · exact (calm_foldTick s c).trans' (calm_advance _ c)
    · exact calm_foldTick s c

theorem calm_channelsTick (s : State) : Calm s s.channelsTick :=
  ((calm_forAll s _ _ (fun c t => calm_channelTick t _ c)).trans' (calm_barrierTest _ _)).trans'
    (calm_forAll _ _ _ (fun c t => calm_lowLoadTick t c))

theorem calm_reseed (s : State) (c : Index) : Calm s (s.reseed c) := calm_mapChannel s c _

theorem calm_superviseChannel (s : State) (c : Index) : Calm s (s.superviseChannel c) := by
  unfold State.superviseChannel
  split
  · exact (calm_mapChannel s c _).trans' (calm_channelEvent _ c)
  · exact Calm.rfl' s

/-! ## Trips -/

theorem calm_tripEvent (s : State) : Calm s s.tripEvent :=
  (calm_trigger s _).trans' (calm_raise _ _)

theorem calm_latchTrip (s : State) (c : TripCause) : Calm s (s.latchTrip c) :=
  (((calm_mapTrip s _).trans' (calm_tripEvent _)).trans'
    (calm_forAll _ _ _ (fun b t => calm_lockoutBridge t b))).trans'
    (calm_forAll _ _ _ (fun c t => calm_tripFlush t c))

theorem calm_raiseCause (s : State) (c : TripCause) : Calm s (s.raiseCause c) := by
  unfold State.raiseCause
  repeat' split
  all_goals first
    | exact Calm.rfl' s
    | exact calm_latchTrip s c
    | exact (calm_mapTrip s _).trans' (calm_tripEvent _)

theorem calm_overcurrentScan (s : State) (b : Index) : Calm s (s.overcurrentScan b) := by
  unfold State.overcurrentScan
  dsimp only
  split
  · exact (calm_mapTrip s _).trans' (calm_raiseCause _ _)
  · exact calm_mapTrip s _

theorem calm_overvoltageScan (s : State) (c : Index) : Calm s (s.overvoltageScan c) := by
  unfold State.overvoltageScan
  dsimp only
  split
  · exact (calm_mapChannel s c _).trans' (calm_raiseCause _ _)
  · exact calm_mapChannel s c _

theorem calm_externalHigh (s : State) : Calm s s.externalHigh := by
  unfold State.externalHigh
  split
  · exact Calm.rfl' s
  · exact (calm_mapTrip s _).trans' (calm_raiseCause _ _)

theorem calm_clearTrip (s : State) : Calm s s.clearTrip := by
  unfold State.clearTrip
  exact ((calm_mapTrip s _).trans' (calm_mapMonitor _ Monitor.excursionCleared rfl rfl)).trans'
    (calm_forAll _ _ _ (fun b t => calm_unlockBridge t b))

theorem calm_countRetard (s : State) (b : Index) : Calm s (s.countRetard b) := calm_mapBridge s b _

theorem calm_timeRetard (s : State) (b : Index) : Calm s (s.timeRetard b) := by
  unfold State.timeRetard
  split
  · exact calm_raiseCause s _
  · exact Calm.rfl' s

theorem calm_bridgeTurn (s : State) (b : Index) (x : Bool) : Calm s (s.bridgeTurn b x) := by
  unfold State.bridgeTurn
  repeat' split
  all_goals first
    | exact calm_countRetard s b
    | exact calm_clearHeld s b _
    | exact Calm.rfl' s

/-! ## The monitor -/

theorem calm_noteLevel (s : State) : Calm s s.noteLevel := calm_mapMonitor s _ rfl rfl

theorem calm_breach (s : State) (c : TripCause) (x : Bool) : Calm s (s.breach c x) := by
  unfold State.breach
  repeat' split
  all_goals first
    | exact Calm.rfl' s
    | exact (calm_raiseCause s c).trans' (calm_mapMonitor _ _ rfl rfl)

theorem calm_episodeEvent (s : State) (x : Bool) : Calm s (s.episodeEvent x) := by
  unfold State.episodeEvent
  split
  · exact Calm.rfl' s
  · exact calm_raise s _

theorem calm_turnHoldOn (s : State) : Calm s s.turnHoldOn :=
  (calm_mapMonitor s _ rfl rfl).trans' (calm_forAll _ _ _ (fun b t => calm_holdRequestOn t b))

theorem calm_turnHoldOff (s : State) : Calm s s.turnHoldOff := by
  unfold State.turnHoldOff
  split
  · exact (calm_mapMonitor s _ rfl rfl).trans' (calm_forAll _ _ _ (fun b t => calm_clearHeld t b _))
  · exact Calm.rfl' s

theorem calm_updateHold (s : State) : Calm s s.updateHold := by
  unfold State.updateHold
  repeat' split
  all_goals first
    | exact calm_turnHoldOff s
    | exact calm_turnHoldOn s
    | exact Calm.rfl' s

theorem calm_fixCaps (s : State) : Calm s s.fixCaps := by
  unfold State.fixCaps
  exact calm_mapMonitor s _ rfl rfl

theorem calm_capsTick (s : State) : Calm s s.capsTick := calm_mapMonitor s _ rfl rfl

theorem calm_listStart (s : State) : Calm s s.listStart := by
  unfold State.listStart
  dsimp only
  split
  · exact (calm_raiseCause s _).trans' (calm_mapMonitor _ _ rfl rfl)
  · exact calm_mapMonitor s _ rfl rfl

theorem calm_startEpisode (s : State) (k : EpisodeKind) (r : Bool) : Calm s (s.startEpisode k r) := by
  unfold State.startEpisode
  dsimp only
  have h := calm_mapMonitor s
    (fun m => { m with
      episode := some (s.newEpisode k r), elapsedTime := 0, recoveryTimer := 0,
      state := k.state }) rfl rfl
  cases k
  · exact ((h.trans' (calm_fixCaps _)).trans' (calm_trigger _ _)).trans' (calm_episodeEvent _ _)
  · exact (h.trans' (calm_trigger _ _)).trans' (calm_episodeEvent _ _)

theorem calm_endEpisode (s : State) : Calm s s.endEpisode :=
  (calm_mapMonitor s _ rfl rfl).trans' (calm_episodeEvent _ _)

theorem calm_recoveryScan (s : State) : Calm s s.recoveryScan := by
  unfold State.recoveryScan
  repeat' split
  all_goals first
    | exact calm_endEpisode s
    | exact Calm.rfl' s
    | exact calm_mapMonitor s _ rfl rfl

theorem calm_enterRecovering (s : State) : Calm s s.enterRecovering :=
  (calm_mapMonitor s _ rfl rfl).trans' (calm_turnHoldOff _)

theorem calm_recoverFrom (s : State) (k : EpisodeKind) : Calm s (s.recoverFrom k) := by
  unfold State.recoverFrom
  cases k <;> dsimp only <;> split
  all_goals first
    | exact calm_enterRecovering s
    | exact Calm.rfl' s

theorem calm_recoveryAtEntry (s : State) : Calm s s.recoveryAtEntry := by
  unfold State.recoveryAtEntry
  split
  · exact calm_recoveryScan s
  · exact Calm.rfl' s

theorem calm_testLimit (s : State) (k : EpisodeKind) : Calm s (s.testLimit k) := by
  unfold State.testLimit
  split <;> exact calm_breach s _ _

theorem calm_testLastLevel (s : State) (k : EpisodeKind) : Calm s (s.testLastLevel k) := by
  unfold State.testLastLevel
  split <;> exact calm_breach s _ _

theorem calm_supersede (s : State) : Calm s s.supersede :=
  (calm_mapMonitor s _ rfl rfl).trans' (calm_episodeEvent _ _)

/-- Every step of a list is calm. -/
def CalmSteps (l : List (State → State)) : Prop := ∀ f ∈ l, ∀ t, Calm t (f t)

theorem calmSteps_nil : CalmSteps [] := fun _ h => absurd h List.not_mem_nil

theorem calmSteps_cons {f : State → State} {l : List (State → State)} (hf : ∀ t, Calm t (f t))
    (hl : CalmSteps l) : CalmSteps (f :: l) := List.forall_mem_cons.mpr ⟨hf, hl⟩

theorem calmSteps_scanSteps (k : EpisodeKind) : CalmSteps (scanSteps k) := by
  cases k
  · exact calmSteps_cons calm_noteLevel (calmSteps_cons (calm_testLimit · _)
      (calmSteps_cons calm_updateHold (calmSteps_cons (calm_recoverFrom · _)
        (calmSteps_cons calm_recoveryAtEntry calmSteps_nil))))
  · exact calmSteps_cons calm_noteLevel (calmSteps_cons (calm_testLimit · _)
      (calmSteps_cons (calm_recoverFrom · _) (calmSteps_cons calm_recoveryAtEntry calmSteps_nil)))

theorem calmSteps_openingSteps (s : State) (k : EpisodeKind) : CalmSteps (s.openingSteps k) :=
  calmSteps_cons calm_listStart
    (calmSteps_cons (calm_startEpisode · k _) (calmSteps_scanSteps k))

theorem calmSteps_monitorSteps (s : State) : CalmSteps s.monitorSteps := by
  unfold State.monitorSteps
  split
  · split
    · exact calmSteps_openingSteps s _
    · exact calmSteps_nil
  · exact calmSteps_scanSteps _
  · exact calmSteps_scanSteps _
  · split
    · exact calmSteps_cons calm_supersede (calmSteps_openingSteps s _)
    · exact calmSteps_cons calm_recoveryScan calmSteps_nil
  · exact calmSteps_cons calm_noteLevel (calmSteps_cons (calm_testLastLevel · _)
      (calmSteps_cons (calm_testLastLevel · _) (calmSteps_cons calm_recoveryScan calmSteps_nil)))

theorem calm_enterLong (s : State) : Calm s s.enterLong :=
  (calm_mapMonitor s _ rfl rfl).trans' (calm_turnHoldOff _)

theorem calm_elapsedTick (s : State) : Calm s s.elapsedTick := by
  unfold State.elapsedTick
  dsimp only
  split
  · exact (calm_mapMonitor s _ rfl rfl).trans' (calm_enterLong _)
  · exact calm_mapMonitor s _ rfl rfl

theorem calm_recoveryTick (s : State) : Calm s s.recoveryTick := by
  unfold State.recoveryTick
  dsimp only
  repeat' split
  all_goals first
    | exact (calm_mapMonitor s _ rfl rfl).trans' (calm_endEpisode _)
    | exact calm_mapMonitor s _ rfl rfl
    | exact Calm.rfl' s

theorem calm_episodeTick (s : State) : Calm s s.episodeTick := by
  unfold State.episodeTick
  dsimp only
  have h := (calm_mapMonitor s Monitor.agesTick rfl rfl).trans' (calm_capsTick _)
  split
  · exact h
  · exact h.trans' (calm_elapsedTick _)
  · exact h.trans' (calm_elapsedTick _)
  · exact h.trans' (calm_recoveryTick _)
  · exact h.trans' (calm_recoveryTick _)

theorem calm_frequencyTick (s : State) : Calm s s.frequencyTick := by
  unfold State.frequencyTick
  dsimp only
  repeat' split
  all_goals first
    | exact calm_mapMonitor s _ rfl rfl
    | exact Calm.rfl' s
    | exact ((calm_mapMonitor s _ rfl rfl).trans' (calm_raiseCause _ _)).trans'
        (calm_mapMonitor _ _ rfl rfl)

/-! ## The readers of a scan -/

theorem calmSteps_shareSteps (s : State) (x : ScanShare) : CalmSteps (s.shareSteps x) := by
  cases x
  · exact calmSteps_monitorSteps s
  · exact calmSteps_cons (fun t => calm_forAll t _ _ (fun b u => calm_accumulate u b)) calmSteps_nil
  · exact List.forall_mem_map.mpr (fun b _ t => calm_overcurrentScan t b)
  · exact List.forall_mem_map.mpr (fun c _ t => calm_overvoltageScan t c)

/-- What every step of a list keeps, the list keeps. -/
theorem runSteps_keeps {P : State → Prop} {l : List (State → State)}
    (h : ∀ f ∈ l, ∀ t, P t → P (f t)) {s : State} (hs : P s) : P (s.runSteps l) := by
  induction l generalizing s with
  | nil => exact hs
  | cons f l ih =>
    exact ih (fun g hg => h g (List.mem_cons_of_mem f hg)) (h f List.mem_cons_self s hs)

/-- What every step of every reader and the recorder's share keep, a scan's readers keep in every
order. -/
theorem actOnScan_keeps {P : State → Prop} (s : State) (k : Nat)
    (hstep : ∀ x, ∀ f ∈ s.shareSteps x, ∀ t, P t → P (f t))
    (hrecorder : ∀ t j, P t → P (t.recorderShare j)) (hs : P s) : P (s.actOnScan k) := by
  have h : ∀ f ∈ (inOrder k scanShares).flatMap s.shareSteps, ∀ t, P t → P (f t) := by
    intro f hf
    obtain ⟨x, -, hx⟩ := List.mem_flatMap.mp hf
    exact hstep x f hx
  exact runSteps_keeps (fun f hf => h f (List.mem_of_mem_drop hf))
    (hrecorder _ _ (runSteps_keeps (fun f hf => h f (List.mem_of_mem_take hf)) hs))

/-- The readers of a scan leave the scanner, the time, the settings and the synchroniser alone. -/
theorem calm_actOnScan (s : State) (k : Nat) : Calm s (s.actOnScan k) :=
  actOnScan_keeps s k (fun x f hf t ht => ht.trans' (calmSteps_shareSteps s x f hf t))
    (fun t j ht => ht.trans' (calm_recorderShare t j)) (Calm.rfl' s)

/-! ## The synchroniser -/

theorem steady_syncEvent (s : State) (old : SyncState) (d : Option Int) :
    Steady s (s.syncEvent old d) := by
  unfold State.syncEvent
  dsimp only
  have h1 : Calm s (if old = .locked ∧ s.sync.state ≠ .locked then s.trigger .syncLeftLocked
      else s) := by
    split
    · exact calm_trigger s _
    · exact Calm.rfl' s
  have h2 := h1.trans' (calm_raise _ (.sync s.sync.state d))
  split
  · exact (h2.trans' ((calm_mapMonitor _ _ rfl rfl).trans'
      (calm_forAll _ _ _ (fun b t => calm_phaseLost t b)))).toSteady
  · exact (h2.trans' ((calm_mapMonitor _ _ rfl rfl).trans'
      (calm_forAll _ _ _ (fun b t => calm_phaseLost t b)))).toSteady
  · split
    · exact (h2.trans' (calm_forAll _ _ _ (fun b t => calm_coastBegins t b))).toSteady
    · exact h2.toSteady
  · exact h2.toSteady

theorem steady_restartSync (s : State) : Steady s s.restartSync :=
  (steady_mapSync s _).trans' (steady_syncEvent _ _ _)

theorem calm_firingTurn (s : State) (order : List Index) (x : Index → Bool) :
    Calm s (s.firingTurn order x) :=
  (calm_forAll _ _ _ (fun b t => calm_bridgeTurn t b _)).trans'
    (calm_forAll _ _ _ (fun b t => calm_timeRetard t b))

theorem steady_syncTurn (s : State) : Steady s s.syncTurn := by
  unfold State.syncTurn
  dsimp only
  repeat' split
  · exact (steady_mapSync s _).trans' (steady_syncEvent _ _ _)
  · exact steady_mapSync s _
  · exact Steady.rfl' s

theorem steady_turnShare (s : State) (order : List Index) (x : TurnShare) :
    Steady s (s.turnShare order x) := by
  cases x
  · exact steady_syncTurn s
  · exact (calm_firingTurn s order _).toSteady

theorem steady_turnReached (s : State) (k : Nat) : Steady s (s.turnReached k) :=
  (steady_mapSync s _).trans' (steady_foldl _ _ _ (fun t x => steady_turnShare t _ x))

theorem calm_stepShare (s : State) (order : List Index) (old new : Nat) (d : Int) (x : StepShare) :
    Calm s (s.stepShare order old new d x) := by
  cases x <;> unfold State.stepShare <;> dsimp only <;> split
  · exact calm_forAll _ _ _ (fun b t => calm_correctionFiring t b _ _)
  · exact Calm.rfl' s
  · exact calm_firingTurn s _ _
  · exact Calm.rfl' s

theorem calm_correctionStep (s : State) (k old new : Nat) : Calm s (s.correctionStep k old new) :=
  calm_foldl s _ _ (fun t x => calm_stepShare t _ _ _ _ x)

theorem calm_reanchorStepAll (s : State) (k old new : Nat) (d : Int) :
    Calm s (s.reanchorStepAll k old new d) := by
  unfold State.reanchorStepAll
  dsimp only
  have h := calm_forAll s (bridgeOrder (k / 2)) (fun b t => t.reanchorStep b old new d)
    (fun b t => calm_reanchorStep t b _ _ _)
  split
  · exact h.trans' (calm_firingTurn _ _ _)
  · exact h

theorem steady_arrive (s : State) (k : Nat) (a : Arrival) : Steady s (s.arrive k a) := by
  unfold State.arrive
  split
  · unfold State.arriveAcquiring
    dsimp only
    split
    · exact (steady_mapSync s _).trans' (steady_syncEvent _ _ _)
    · exact steady_mapSync s _
  · unfold State.arriveLocked
    repeat' split
    all_goals first
      | exact (steady_mapSync s _).trans' (calm_correctionStep _ _ _ _).toSteady
      | exact steady_mapSync s _
  · unfold State.arriveCoast
    dsimp only
    repeat' split
    all_goals first
      | exact steady_mapSync s _
      | exact ((steady_mapSync s _).trans' (calm_reanchorStepAll _ _ _ _ _).toSteady).trans'
          (steady_syncEvent _ _ _)
  · exact (steady_mapSync s _).trans' (steady_syncEvent _ _ _)

theorem steady_enterCoast (s : State) : Steady s s.enterCoast :=
  (steady_mapSync s _).trans' (steady_syncEvent _ _ _)

end Sys2Proof.Machine
end

