-- ==== Sys2Proof/Laws/Ops.lean ====
section
/-! SUPPORT. What the shared operations of a command come to: how the link unit settles an event, when a
command's effect is its outcome, and what a received record is taken as. -/

namespace Sys2Proof.Machine

/-- With no trigger raised the recorder has none to take. -/
theorem takeTriggers_of_empty (s : State) (k : Nat) (h : s.triggers = []) : s.takeTriggers k = s := by
  cases s
  simp only at h
  subst h
  simp [State.takeTriggers, triggerOrder]

/-- With no event raised the link unit has nothing to take. -/
theorem takeNotices_of_empty (s : State) (k : Nat) (h : s.outbox = []) : s.takeNotices k = s := by
  cases s
  simp only at h
  subst h
  simp [State.takeNotices, takenOrder, Both.map]

/-- With nothing raised there is nothing to take. -/
theorem settle_of_settled (s : State) (o : Schedule) (h : s.settled) : s.settle o = s := by
  unfold State.settle
  rw [takeTriggers_of_empty s _ h.2, takeNotices_of_empty s _ h.1]

/-- Taking a trigger leaves those that wait. -/
theorem takeTrigger_triggers (s : State) (x : Trigger) : (s.takeTrigger x).triggers = s.triggers := by
  unfold State.takeTrigger
  split <;> rfl

/-- The recorder leaves no trigger. -/
@[simp] theorem takeTriggers_triggers (s : State) (k : Nat) : (s.takeTriggers k).triggers = [] := by
  unfold State.takeTriggers
  have h : ∀ (l : List Trigger) (t : State), (l.foldl State.takeTrigger t).triggers = t.triggers := by
    intro l
    induction l with
    | nil => exact fun _ => rfl
    | cons x rest ih => exact fun t => (ih _).trans (takeTrigger_triggers t x)
  exact h _ _

/-- Nothing is left to take. -/
theorem settle_settled (s : State) (o : Schedule) : (s.settle o).settled :=
  ⟨rfl, takeTriggers_triggers s _⟩

/-- Outside reset a command is its effect, with the events it raises taken. -/
theorem take_of_running (s : State) (o : Schedule) (f : State → State) (h : s.inReset = false) :
    s.take o f = .next ((f s).settle o) := by
  simp [State.take, h]

/-- Outside reset a command whose effect raises nothing is its effect. -/
theorem take_of_quiet (s : State) (o : Schedule) (f : State → State) (h : s.inReset = false)
    (hq : (f s).settled) : s.take o f = .next (f s) := by
  rw [take_of_running s o f h, settle_of_settled _ _ hq]

/-- In reset a command changes nothing. -/
theorem take_of_reset (s : State) (o : Schedule) (f : State → State) (h : s.inReset = true) :
    s.take o f = .next s := by
  simp [State.take, h]

/-- A kind byte names a request kind exactly where its code is that byte. -/
theorem ofByte_code (k : RequestKind) : RequestKind.ofByte k.code = some k := by
  cases k <;> rfl

/-- The syntax check and the decoder of kinds agree on which bytes are request kinds. -/
theorem isRequestKind_iff (b : Byte) :
    isRequestKind b = (RequestKind.ofByte b).isSome := by
  revert b
  decide

/-! The line seen at mark changes the break state alone (R181). -/

@[simp] theorem LinkState.atMark_brk (k : LinkState) : k.atMark.brk = .mark := rfl
@[simp] theorem LinkState.atMark_heldBytes (k : LinkState) : k.atMark.heldBytes = k.heldBytes := rfl
@[simp] theorem LinkState.atMark_frameErrors (k : LinkState) : k.atMark.frameErrors = k.frameErrors := rfl
@[simp] theorem LinkState.atMark_replies (k : LinkState) : k.atMark.replies = k.replies := rfl
@[simp] theorem LinkState.atMark_notices (k : LinkState) : k.atMark.notices = k.notices := rfl
@[simp] theorem LinkState.atMark_transmitter (k : LinkState) : k.atMark.transmitter = k.transmitter := rfl
@[simp] theorem LinkState.atMark_mask (k : LinkState) : k.atMark.mask = k.mask := rfl
@[simp] theorem LinkState.atMark_summary (k : LinkState) : k.atMark.summary = k.summary := rfl

/-- A request is judged with its own link's line at mark, and the links otherwise as they stood (R181). -/
theorem atRequest_links (s : State) (r : Request) :
    (s.atRequest r).links = s.links.set r.link (s.links.get r.link).atMark := by
  unfold State.atRequest State.heardFrom
  split <;> rfl

/-- A heard request is judged on the state at its tick, and its reply and events are taken (R183). -/
theorem request_of_hears (s : State) (k : RequestKind) (r : Request) (h : s.hears r) :
    s.request k r =
      .next ((((s.atRequest r).judgeRequest r.link k.code r.payload).reply r.link k.code r.tag
        r.order).settle r.order) := by
  obtain ⟨hr, hb, hq⟩ := h
  have hf : (s.atRequest r).repliesFull r.link = false := by
    unfold State.repliesFull
    rw [atRequest_links, Both.get_set_self]
    exact decide_eq_false (Nat.not_le.mpr hq)
  have hi : (s.runFor r.wait).inBreak r.link = false := hb
  unfold State.request State.receive State.takeRecord
  rw [take_of_running s _ _ hr]
  dsimp only
  rw [hi]
  simp only [Bool.false_eq_true, if_false]
  rw [show ((s.runFor r.wait).mapLink r.link LinkState.atMark).heardFrom r.link = s.atRequest r from rfl,
    hf]
  simp

/-- The reply queue's newest entry is the reply just queued. -/
theorem withReply_replies (s : State) (l : Link) (x : OutRecord) :
    ((s.withReply l x).links.get l).replies = (s.links.get l).replies ++ [x] := by
  simp [State.withReply]

end Sys2Proof.Machine
end

