-- ==== Sys2Proof/Laws/PerInstr.lean ====
section
/-! SUPPORT. Facts about every command as syntax, one lemma for each constructor: a command the
environment can give comes after an interval the part can measure (R3) and carries a payload that a
record can hold (R178). -/

namespace Sys2Proof.Laws.WaitBounded

/-- A well-formed command's interval is one the part measures, and its payload is one a record holds. -/
def Statement (i : Instr) : Prop :=
  i.wellFormed = true →
    i.waitTicks < Config.longestInterval ∧ i.payload.length ≤ Config.payloadMax

/-- The checks of `wellFormed` say so for every command. -/
theorem of_wellFormed (i : Instr) : Statement i := by
  intro h
  simp only [Instr.wellFormed, Instr.waitFits, Instr.payloadFits, Bool.and_eq_true,
    decide_eq_true_eq] at h
  exact h.1

theorem powerOnReset (pins : Pins) : Statement (.powerOnReset pins) :=
  of_wellFormed _

theorem resetLineAssert (wait : Nat) : Statement (.resetLineAssert wait) :=
  of_wellFormed _

theorem resetLineRelease (pins : Pins) : Statement (.resetLineRelease pins) :=
  of_wellFormed _

theorem scan (samples : Samples) (o : Schedule) : Statement (.scan samples o) :=
  of_wellFormed _

theorem millisecondTick (o : Schedule) : Statement (.millisecondTick o) :=
  of_wellFormed _

theorem crossingEdge (line : Line) (rising : Bool) (wait : Nat) (o : Schedule) :
    Statement (.crossingEdge line rising wait o) := of_wellFormed _

theorem lastEdgeExpiry (line : Line) : Statement (.lastEdgeExpiry line) :=
  of_wellFormed _

theorem syncLock (line : Line) (rising : Bool) (wait : Nat) (o : Schedule) :
    Statement (.syncLock line rising wait o) := of_wellFormed _

theorem anchorGiveUp : Statement .anchorGiveUp :=
  of_wellFormed _

theorem windowOpen : Statement .windowOpen :=
  of_wellFormed _

theorem windowClose (o : Schedule) : Statement (.windowClose o) :=
  of_wellFormed _

theorem coastEntry (o : Schedule) : Statement (.coastEntry o) :=
  of_wellFormed _

theorem reAnchor (line : Line) (rising : Bool) (wait : Nat) (o : Schedule) :
    Statement (.reAnchor line rising wait o) := of_wellFormed _

theorem turnBoundary (o : Schedule) : Statement (.turnBoundary o) :=
  of_wellFormed _

theorem coastLimitLost (o : Schedule) : Statement (.coastLimitLost o) :=
  of_wellFormed _

theorem retardTimeout (o : Schedule) : Statement (.retardTimeout o) :=
  of_wellFormed _

theorem firing (b : Index) (o : Schedule) : Statement (.firing b o) :=
  of_wellFormed _

theorem pulseExpiry (b : Index) : Statement (.pulseExpiry b) :=
  of_wellFormed _

theorem episodeLong (o : Schedule) : Statement (.episodeLong o) :=
  of_wellFormed _

theorem episodeEnd (scan : Option Samples) (o : Schedule) : Statement (.episodeEnd scan o) :=
  of_wellFormed _

theorem frequency (o : Schedule) : Statement (.frequency o) :=
  of_wellFormed _

theorem holdEnd (c : Index) (o : Schedule) : Statement (.holdEnd c o) :=
  of_wellFormed _

theorem lowLoadPark (c : Index) (o : Schedule) : Statement (.lowLoadPark c o) :=
  of_wellFormed _

theorem cellOvervoltage (c : Index) (samples : Samples) (o : Schedule) :
    Statement (.cellOvervoltage c samples o) := of_wellFormed _

theorem overcurrent (b : Index) (samples : Samples) (o : Schedule) :
    Statement (.overcurrent b samples o) := of_wellFormed _

theorem external (wait : Nat) (o : Schedule) : Statement (.external wait o) :=
  of_wellFormed _

theorem exttripLow (wait : Nat) : Statement (.exttripLow wait) :=
  of_wellFormed _

theorem breakerOpen (wait : Nat) (o : Schedule) : Statement (.breakerOpen wait o) :=
  of_wellFormed _

theorem breakerClose (wait : Nat) : Statement (.breakerClose wait) :=
  of_wellFormed _

theorem snapshot (samples : Samples) (o : Schedule) : Statement (.snapshot samples o) :=
  of_wellFormed _

theorem captureComplete (samples : Samples) (o : Schedule) :
    Statement (.captureComplete samples o) := of_wellFormed _

theorem gapTimeout (l : Link) (o : Schedule) : Statement (.gapTimeout l o) :=
  of_wellFormed _

theorem framingFault (l : Link) (space : LineSpace) (o : Schedule) :
    Statement (.framingFault l space o) := of_wellFormed _

theorem breakDetected (l : Link) (fell : Tick) : Statement (.breakDetected l fell) :=
  of_wellFormed _

theorem breakEnd (l : Link) (wait : Nat) : Statement (.breakEnd l wait) :=
  of_wellFormed _

theorem transmitStart (l : Link) : Statement (.transmitStart l) :=
  of_wellFormed _

theorem transmitEnd (l : Link) : Statement (.transmitEnd l) :=
  of_wellFormed _

theorem unknownKind (kind : Byte) (r : Request) : Statement (.unknownKind kind r) :=
  of_wellFormed _

theorem readStatus (r : Request) : Statement (.readStatus r) :=
  of_wellFormed _

theorem readMeasure (r : Request) : Statement (.readMeasure r) :=
  of_wellFormed _

theorem getSetting (r : Request) : Statement (.getSetting r) :=
  of_wellFormed _

theorem readEnvelope (r : Request) : Statement (.readEnvelope r) :=
  of_wellFormed _

theorem readCourse (r : Request) : Statement (.readCourse r) :=
  of_wellFormed _

theorem readRecordHeader (r : Request) : Statement (.readRecordHeader r) :=
  of_wellFormed _

theorem readRecord (r : Request) : Statement (.readRecord r) :=
  of_wellFormed _

theorem clearEvents (r : Request) : Statement (.clearEvents r) :=
  of_wellFormed _

theorem setNoticeMask (r : Request) : Statement (.setNoticeMask r) :=
  of_wellFormed _

theorem ping (r : Request) : Statement (.ping r) :=
  of_wellFormed _

theorem setSetting (r : Request) : Statement (.setSetting r) :=
  of_wellFormed _

theorem loadEnvelope (r : Request) : Statement (.loadEnvelope r) :=
  of_wellFormed _

theorem deblock (r : Request) : Statement (.deblock r) :=
  of_wellFormed _

theorem stop (r : Request) : Statement (.stop r) :=
  of_wellFormed _

theorem appendStep (r : Request) : Statement (.appendStep r) :=
  of_wellFormed _

theorem flush (r : Request) : Statement (.flush r) :=
  of_wellFormed _

theorem pause (r : Request) : Statement (.pause r) :=
  of_wellFormed _

theorem resume (r : Request) : Statement (.resume r) :=
  of_wellFormed _

theorem releaseStep (r : Request) : Statement (.releaseStep r) :=
  of_wellFormed _

theorem wake (r : Request) : Statement (.wake r) :=
  of_wellFormed _

theorem tripClear (r : Request) : Statement (.tripClear r) :=
  of_wellFormed _

theorem syncRestart (r : Request) : Statement (.syncRestart r) :=
  of_wellFormed _

theorem recordTrigger (r : Request) : Statement (.recordTrigger r) :=
  of_wellFormed _

theorem recordRelease (r : Request) : Statement (.recordRelease r) :=
  of_wellFormed _

theorem seize (r : Request) : Statement (.seize r) :=
  of_wellFormed _

theorem yield (r : Request) : Statement (.yield r) :=
  of_wellFormed _

theorem watchdogExpiry (o : Schedule) : Statement (.watchdogExpiry o) :=
  of_wellFormed _

theorem byteArrival (l : Link) (byte : Byte) (wait : Nat) (o : Schedule) :
    Statement (.byteArrival l byte wait o) := of_wellFormed _

theorem recordAbandon (l : Link) : Statement (.recordAbandon l) :=
  of_wellFormed _

end Sys2Proof.Laws.WaitBounded
end

