-- ==== Sys2Proof/Tests/Slice0.lean ====
section
/-! SUPPORT. Tests: terms that the well-formedness checks refuse, steps checked against numbers that the
manual prints or that follow from its rules by hand, and for each statement with hypotheses a state and
operands that meet them. -/

namespace Sys2Proof.Machine.Tests

-- One evaluation at a time: each holds much of the sandbox's memory while it runs.
set_option Elab.async false

/-! ## Small states -/

/-- Samples of a steady line: each line voltage 1,000 V, no current, no stack voltage. -/
def steady : Samples := ⟨.fill 1000000, .fill 0, .fill 0⟩

/-- Samples of a collapsed line. -/
def collapsed : Samples := ⟨.fill 0, .fill 0, .fill 0⟩

/-- The order in which the manual lists the parts of an event. -/
def listed : Schedule := Schedule.listed

/-- A request on link P with a payload, at once. -/
def req (payload : List Byte) : Request := ⟨.p, 0x21, payload, 0, listed⟩

/-- A request on link S with a payload, at once. -/
def reqS (payload : List Byte) : Request := ⟨.s, 0x21, payload, 0, listed⟩

/-- A part 0.1 s after reset. -/
def early : State := { State.reset with elapsed := 1000000 }

/-- A part LOCKED at phase 0 on a 50 Hz grid with the breaker closed. -/
def locked : State :=
  { early with
    breakerClosed := true
    sync :=
      { early.sync with
        state := .locked, unanchored := false, anchorTick := 1000000, anchorAngle := 0,
        previous := some ⟨.abRise, 1000000⟩, window := some ⟨.caFall, 5500, 6500, .waiting⟩ } }

/-- The same with its window in another status. -/
def withWindow (st : WindowStatus) : State :=
  { locked with
    sync := { locked.sync with window := some ⟨.caFall, 5500, 6500, st⟩ } }

/-- The same in COAST with some coast turns, its last arrival a sixth of a turn back. -/
def coasting (turns : Nat) : State :=
  { locked with
    sync :=
      { locked.sync with
        state := .coast, coastTurns := turns, consistency := 3, window := none
        previous := some ⟨.bcFall, 966667⟩ } }

/-- Bridge 0 in a state, with thyristor 3 scheduled. -/
def bridged (s : State) (x : BridgeState) : State :=
  s.mapBridge 0 (fun b => { b with state := x, next := some ⟨3, 33000, 15000⟩ })

/-- A running bridge 0 with a course of 5,000 A under a limit of 10,000 A. -/
def running : State :=
  let s := bridged locked .running
  { s.mapChannel 0 (fun k =>
      { k with
        state := .active, course := 5000000, foldCap := 10000000, headPhase := some .ramp
        queue := [⟨6000, 2000, none, false, none, none⟩] }) with
    settings := { s.settings with iMax := .fill 10000 } }

/-- The same with its head in another phase and step. -/
def heading (p : CourseStep) (phase : HeadPhase) (hold : Option Nat) : State :=
  running.mapChannel 0 (fun k =>
    { k with queue := [p], headPhase := some phase, remainingHold := hold })

/-- A latched trip of one cause. -/
def tripped : State :=
  { early with
    trip :=
      { early.trip with
        latched := true, firstOut := some .external, causes := 128, breakerTrip := true }
    bridges := early.bridges.map (fun b => { b with state := .lockout }) }

/-- A monitor in a state, with an episode and timers one short of their limits. -/
def monitored (x : MonitorState) : State :=
  { early with
    scanner := { early.scanner with g := 1000 }
    monitor :=
      { early.monitor with
        state := x, episode := some ⟨.low, 0, 500, .opened, false, 0⟩, elapsedTime := 9999
        recoveryTimer := 199 } }

/-- A recorder in a state with a record of one planned snapshot. -/
def recording (x : RecorderState) : State :=
  { early with
    recorder :=
      { early.recorder with state := x, header := some ⟨.trip, 0, 0, 1, 1, false, false⟩ } }

/-- A part whose link P has the given line state. -/
def linked (f : LinkState → LinkState) : State := early.mapLink .p f

/-- The state of a step's outcome. -/
def after (x : Host.Outcome State Fault Refusal) : Option State :=
  match x with
  | .next s => some s
  | .fault _ => none
  | .refused _ => none

/-! ## Well-formedness -/

theorem test_wellFormed_accepts : (Instr.ping (req [])).wellFormed = true := by decide
theorem test_wellFormed_refuses_long_wait :
    (Instr.external 2147483648 listed).wellFormed = false := by decide
theorem test_wellFormed_refuses_long_payload :
    (Instr.ping (req (List.replicate 249 0))).wellFormed = false := by decide +kernel
theorem test_wellFormed_refuses_known_kind :
    (Instr.unknownKind 0x0A (req [])).wellFormed = false := by decide

/-! ## Arithmetic and layouts -/

/-- The check of the string 1 to 9 is the one the manual prints (R178). -/
theorem test_check_of_digits :
    checkOf [0x31, 0x32, 0x33, 0x34, 0x35, 0x36, 0x37, 0x38, 0x39] = 0x29B1#16 := by decide +kernel

theorem test_rounding_halves :
    (roundInt (-5) 2, roundInt 5 2, roundNat 7 2, signedAngle 18000 0, signedAngle 0 1) =
      (-3, 3, 4, 18000, -1) := by decide

theorem test_arccos_exact :
    (arccosSteps 16384, arccosSteps 8192, arccosSteps 0, arccosSteps (-16384)) =
      (0, 6000, 9000, 18000) := by decide +kernel

/-- The limits the manual works out for its default tables (R50, worked values). -/
theorem test_limits_of_the_default_tables :
    ([400, 151, 1000].map (limitAt defaultLowTable),
      [400, 151].map (limitAt defaultHighTable)) = ([318, 1, 756], [1167, 1195]) := by decide +kernel

/-! ## Steps with the numbers the manual works out -/

/-- The second scan of Table 1-2: the sample 36 V after 0 V makes U_ab 25 V. -/
theorem test_scan_rms :
    (after (exec (.scan ⟨.fill 35541, .fill 0, .fill 0⟩ listed)
      { State.reset with
        elapsed := 800
        scanner := { State.reset.scanner with scanAt := 800, squares := .fill [0] } })).map
      (fun t => (t.elapsed, t.scanner.u.ab, t.scanner.rms.ab, t.scanner.g)) =
      some (1600, 36, 25, 25) := by decide +kernel

/-- The last chatter of Table 1-4, one tick short of the guard. -/
theorem test_crossingEdge_chatter :
    (after (exec (.crossingEdge .ab true 9999 listed)
      { State.reset with
        elapsed := 4200000
        scanner :=
          { State.reset.scanner with
            lastEdge := ⟨some 4200000, none, none⟩, chatter := ⟨9, 0, 0⟩ } })).map
      (fun t => (t.elapsed, t.scanner.chatter.ab, t.scanner.lastEdge.ab, t.sync.unanchored)) =
      some (4209999, 10, some 4200000, true) := by decide +kernel

/-- The second arrival of Table 2-2: a bad arrival that takes the estimate. -/
theorem test_crossingEdge_badAcquisition :
    (after (exec (.crossingEdge .ca false 27778 listed)
      { State.reset with
        elapsed := 2000000
        sync :=
          { State.reset.sync with
            unanchored := false, anchorTick := 2000000
            previous := some ⟨.abRise, 2000000⟩ } })).map
      (fun t => (t.sync.anchorTick, t.sync.anchorAngle, t.sync.period, t.sync.good)) =
      some (2027778, 6000, 166668, 0) := by decide +kernel

/-- The firing of Table 5-4: thyristor 6 is scheduled at 5,709 cd, due at 8,709 cd. -/
theorem test_firing_table_5_4 :
    (after (exec (.firing 2 listed)
      { locked with
        sync := { locked.sync with anchorAngle := 2400 }
        scanner := { locked.scanner with uAvg := 1000, e := ⟨0, 0, 7200, 0⟩ }
        settings := { locked.settings with kp := 20, ki := 32, iMax := .fill 40000 }
        bridges :=
          locked.bridges.set 2
            { locked.bridges.at2 with state := .running, next := some ⟨5, 2400, 5400⟩ }
        regulators :=
          locked.regulators.set 2
            { locked.regulators.at2 with integral := 5000, sum := 823200, count := 42 }
        channels :=
          locked.channels.set 2
            { locked.channels.at2 with course := 20000000, foldCap := 40000000 } })).map
      (fun t => (t.regulators.at2, t.bridges.at2.next)) =
      some (⟨5800, 0, 0, some 19600, some 5709, false⟩, some ⟨6, 8709, 5709⟩) := by decide +kernel

/-- The presets of Table 5-5. -/
theorem test_preset_table_5_5 :
    [15000, 9000, 6000].map (fun a =>
      ({ locked with
        scanner := { locked.scanner with uAvg := 1000, e := .fill 7200 }
        settings := { locked.settings with alphaStart := a } } : State).presetIntegral 1) =
      [-200000, -200000, -44750] := by decide +kernel

/-- The gap failure of Table 9-3: the PING found behind the false sync byte is answered. -/
theorem test_gapTimeout_table_9_3 :
    (after (exec (.gapTimeout .p listed)
      { (linked (fun k =>
        { k with
          heldBytes :=
            ⟨0xA5, 2000000⟩ ::
              ((⟨0x0A, 7, []⟩ : OutRecord).frame.map (fun b => ⟨b, 2000800⟩)) })) with
        elapsed := 2000800 })).map
      (fun t => (t.elapsed, t.links.p.heldBytes, t.links.p.frameErrors, t.links.p.replies)) =
      some (2010801, [], 1, [⟨0x4A, 7, [0]⟩]) := by decide +kernel

/-- The first SET of Table 10-4 breaks a constraint with the LOW table. -/
theorem test_setSetting_table_10_4 :
    (after (exec (.setSetting (req [17, 0, 0, 3, 32])) early)).map
      (fun t => (t.settings.dipStart, t.links.p.replies)) =
      some (900, [⟨0x50, 0x21, [3]⟩]) := by decide +kernel

/-- An append of Table 10-13 to a queue of 15 steps: accepted as the sixteenth. -/
theorem test_appendStep_table_10_13 :
    (after (exec (.appendStep (req [1, 0x13, 0x46, 0x50, 0x03, 0xE8, 0, 0, 0xEA, 0x60, 21]))
      (early.mapChannel 1 (fun k =>
        { k with state := .active, queue := List.replicate 15 early.safeStep })))).map
      (fun t => (t.channels.at1.queue.getLast?, t.links.p.replies)) =
      some (some ⟨18000, 1000, some 60000, true, none, some 21⟩, [⟨0x54, 0x21, [0, 16]⟩]) := by
  decide +kernel

/-- A PING from link S is answered whoever holds authority, with its tag. -/
theorem test_ping_answers :
    (after (exec (.ping (reqS [])) early)).map (fun t => t.links.s.replies) =
      some [⟨0x4A, 0x21, [0]⟩] := by decide +kernel

/-- A DEBLOCK from link S, which does not hold authority. -/
theorem test_deblock_needs_authority :
    (after (exec (.deblock (reqS [1])) locked)).map (fun t => (t.bridgeState 0, t.links.s.replies)) =
      some (.blocked, [⟨0x52, 0x21, [4]⟩]) := by decide +kernel

/-- The phase equals 0 from 199,998 ticks after the anchor, and the AB+ arrival of that very tick is
taken first and moves the anchor: the turn boundary is still taken at that tick, and once; the next comes
199,998 ticks on (R20, R21, R24). -/
theorem test_turnBoundary_after_arrival :
    (((after (exec (.crossingEdge .ab true 199998 listed)
      { locked with
        sync := { locked.sync with window := some ⟨.abRise, 35500, 500, .opened⟩ }
        bridges := locked.bridges.map (fun b => { b with state := .retarding }) })).bind
      (fun t => after (exec (.turnBoundary listed) t))).bind
      (fun t => after (exec (.turnBoundary listed) t))).map
      (fun t => (t.elapsed, t.bridges.toList.map (fun b => b.retardTurns))) =
      some (1399996, [2, 2, 2, 2]) := by decide +kernel

/-- Four RETARDING bridges one turn short of the limit of 25 all count the turn that latches the trip
(R87, R98). -/
theorem test_retardTimeout_counts_all :
    (after (exec (.retardTimeout listed)
      { locked with
        bridges := locked.bridges.map (fun b =>
          { b with state := .retarding, retardTurns := 24 }) })).map
      (fun t => (t.trip.firstOut, t.bridges.toList.map (fun b => b.retardTurns))) =
      some (some .retardTimeout, [25, 25, 25, 25]) := by decide +kernel

/-- A LOW start that breaches its limit at once raises two triggers, and the recorder takes them in
either order; its snapshot of that scan comes after both, between them, or before both, and shows the
monitor and the latch as they then stand (R175, Table 8-5). -/
theorem test_triggers_and_snapshot_of_one_scan :
    [0, 408, 336, 384].map (fun k =>
      (after (exec (.scan ⟨.fill 0, .fill 0, .fill 0⟩ ⟨k, 0, 0⟩)
        { early with monitor := { early.monitor with lowTable := [⟨0, 400⟩, ⟨100, 800⟩] } })).map
        (fun t => (t.recorder.header.map (fun h => (h.cause, h.preCount)),
          t.recorder.ring.map (fun y => (y.monitor, y.tripLatched))))) =
      [some (some (.episodeStart, 0), [(.low, true)]), some (some (.trip, 0), [(.low, true)]),
        some (some (.episodeStart, 0), [(.low, false)]),
        some (some (.episodeStart, 1), [(.normal, false)])] := by decide +kernel

/-- The snapshot of the scan that latches OVERCURRENT stands before the latch, as the newest before the
trigger and with no trip, or after it, as the first of the capture and with the trip (R150, R153,
R175). -/
theorem test_snapshot_beside_a_latch :
    [192, 0].map (fun k =>
      (after (exec (.overcurrent 0 ⟨.fill 1000000, .fill 45000000, .fill 0⟩ ⟨k, 0, 0⟩)
        { early with
          monitor := { early.monitor with state := .long }
          trip := { early.trip with overcurrentScans := ⟨1, 0, 0, 0⟩ } })).map
        (fun t => (t.recorder.header.map (fun h => (h.cause, h.preCount)),
          t.recorder.ring.map (fun y => (y.tripLatched, y.bridges.get 0))))) =
      [some (some (.trip, 1), [(false, .blocked)]),
        some (some (.trip, 0), [(true, .lockout)])] := by decide +kernel

/-- At 115,200 bit/s a fault 1,735 ticks after the line went to space drops the candidate, and one 1,736
ticks after is none (R181). -/
theorem test_framingFault_20_bit_times :
    [1735, 1736].map (fun w =>
      (after (exec (.framingFault .p ⟨1000000, w⟩ listed)
        (linked (fun k => { k with heldBytes := [⟨0xA5, 999200⟩] })))).map
        (fun t => (t.elapsed, t.links.p.heldBytes.length, t.links.p.frameErrors))) =
      [some (1001735, 0, 1), some (1001736, 1, 0)] := by decide +kernel

/-- A record received on a line last seen at space finds it at mark, so that a fault whose line fell 1,735
ticks before still drops the candidate (R177, R181). -/
theorem test_ping_finds_mark :
    ((after (exec (.ping (req []))
      (linked (fun k => { k with heldBytes := [⟨0xA5, 999200⟩], brk := .space 999000 })))).bind
      (fun t => after (exec (.framingFault .p ⟨1000000, 1735⟩ listed) t))).map
      (fun t => (t.elapsed, t.links.p.frameErrors)) = some (1001735, 1) := by decide +kernel

/-! ## Hypotheses met: resets and the time base -/

theorem test_meets_resetLine :
    early.inReset = false ∧ early.recorder.state ≠ .frozen ∧
      (recording .frozen).inReset = false ∧ (recording .frozen).recorder.state = .frozen ∧
      early.putInReset.inReset = true := by decide +kernel

theorem test_meets_scan :
    early.inReset = false ∧ early.monitor.state = .normal ∧
      early.settings.dipStart ≤ (early.completeScan steady).scanner.g ∧
      (early.completeScan steady).scanner.g ≤ early.settings.swellStart ∧
      (∀ b, early.trip.overcurrentScans.get b ≠ 1) ∧
      ∀ c, (early.channels.get c).overvoltageScans ≠ 1 := by decide +kernel

theorem test_meets_millisecondTick :
    early.inReset = false ∧ early.settings.authTimeout = 0 ∧
      ({ early with settings := { early.settings with authTimeout := 100 } } : State).watchdog + 1 <
        ({ early with settings := { early.settings with authTimeout := 100 } } :
          State).settings.authTimeout := by decide +kernel

/-- A monitor in a state, its channels with a DIP cap, a RAMP cap that ends, one that goes on, and none,
and its counts at 0. -/
def capped (x : MonitorState) : State :=
  (monitored x).mapMonitor (fun m =>
    { m with
      elapsedTime := 0, recoveryTimer := 0, refStart := .fill 5000
      cap := ⟨some ⟨.dip, 4000⟩, some ⟨.ramp, 3000⟩, some ⟨.ramp, 2999⟩, none⟩ })

/-- A DIP cap in LOW short of EPISODE_MAX and in another state, a RAMP cap that RECOVERY_RATE brings to
ref_start and one it leaves 1 mA short, and a recovery timer in the band and out of it. -/
theorem test_meets_capTicks :
    (capped .low).monitor.cap.get 0 = some ⟨.dip, 4000⟩ ∧
      (capped .low).monitor.elapsedTime + 1 < (capped .low).settings.episodeMax ∧
      (capped .recovering).monitor.cap.get 3 = none ∧
      (capped .recovering).monitor.refStart.get 1 ≤ 3000 + (capped .low).settings.recoveryRate ∧
      2999 + (capped .low).settings.recoveryRate < (capped .recovering).monitor.refStart.get 2 ∧
      (capped .recovering).settings.dipEnd ≤ (capped .recovering).scanner.g ∧
      (capped .recovering).scanner.g ≤ (capped .recovering).settings.swellEnd ∧
      (capped .recovering).monitor.recoveryTimer + 1 < (capped .recovering).settings.recoverTime ∧
      early.scanner.g < early.settings.dipEnd := by decide +kernel

/-- An accepted edge on XAB so many ticks back. -/
def edged (back : Nat) (set : CrossingSet) : State :=
  { early with
    settings := { early.settings with crossSet := set }
    scanner := { early.scanner with lastEdge := .fill (some (BitVec.ofNat 32 (1000000 - back))) } }

/-- One tick inside the guard of 1,000 µs, and the guard exactly. -/
theorem test_meets_chatterAndFilter :
    (edged 9999 .all6).ready ∧
      ((edged 9999 .all6).runFor 0).since (BitVec.ofNat 32 990001) <
        (edged 9999 .all6).settings.crossGuard * 10 ∧
      (edged 10000 .abOnly).ready ∧
      (∀ t0, (edged 10000 .abOnly).scanner.lastEdge.get .bc = some t0 →
        (edged 10000 .abOnly).settings.crossGuard * 10 ≤
          ((edged 10000 .abOnly).runFor 0).since t0) ∧
      (edged 10000 .abOnly).settings.crossSet = .abOnly ∧ Line.bc ≠ .ab := by
  refine ⟨⟨rfl, rfl, rfl⟩, by decide +kernel, ⟨rfl, rfl, rfl⟩, ?_, rfl, by decide⟩
  intro t0 h
  cases h
  decide +kernel

/-- An anchored synchroniser in ACQUIRING, its last arrival a sixth of a turn back. -/
def acquiring : State :=
  { early with
    sync :=
      { early.sync with
        unanchored := false, anchorTick := 966667, anchorAngle := 30000, good := 11
        previous := some ⟨.bcFall, 966667⟩ } }

theorem test_meets_silence :
    (edged 5 .all6).ready ∧
      (edged 5 .all6).scanner.lastEdge.get .ab = some (BitVec.ofNat 32 999995) ∧
      acquiring.ready ∧ acquiring.sync.state = .acquiring ∧ acquiring.sync.unanchored = false ∧
      acquiring.sync.previous = some ⟨.bcFall, 966667⟩ :=
  ⟨⟨rfl, rfl, rfl⟩, rfl, ⟨rfl, rfl, rfl⟩, rfl, rfl, rfl⟩

/-! ## Hypotheses met: the synchroniser -/

/-- A synchroniser that is LOST. -/
def lost : State := { early with sync := { early.sync with state := .lost } }

theorem test_meets_unanchored :
    early.ready ∧ early.handsOn .ab 0 ∧ early.sync.state = .acquiring ∧
      early.sync.unanchored = true ∧
      ∀ x, (bridged lost x).ready ∧ (bridged lost x).handsOn .ab 0 ∧
        (bridged lost x).sync.state = .lost ∧ (bridged lost x).bridgeState 0 = x :=
  ⟨⟨rfl, rfl, rfl⟩, ⟨by decide, by decide⟩, rfl, rfl,
    fun x => ⟨⟨rfl, rfl, rfl⟩, ⟨by cases x <;> decide, rfl⟩, rfl, rfl⟩⟩

theorem test_meets_acquisition :
    acquiring.ready ∧ acquiring.handsOn .ab 0 ∧
      acquiring.sync.phaseAt (acquiring.arrivalAt .ab true 0).tick = some 0 ∧
      roundNat (33333 * 36000) 6000 = 199998 ∧
      acquiring.sync.good + 1 = acquiring.settings.lockCount :=
  ⟨⟨rfl, rfl, rfl⟩, ⟨by decide, by decide⟩, by decide +kernel, by decide +kernel, by decide⟩

theorem test_meets_lockedArrival :
    (withWindow .opened).ready ∧ (withWindow .opened).handsOn .ca 33333 ∧
      (withWindow .opened).sync.state = .locked ∧
      (withWindow .opened).sync.phaseAt
        ((withWindow .opened).arrivalAt .ca false 33333).tick = some 6000 ∧
      ((withWindow .opened).arrivalAt .ca false 33333).crossing = .caFall ∧
      ((withWindow .opened).arrivalAt .ab true 33333).crossing ≠ .caFall :=
  ⟨⟨rfl, rfl, rfl⟩, ⟨by decide, by decide⟩, rfl, by decide +kernel, by decide, by decide⟩

/-- The same with bridge 0's thyristor due at 5,650 cd, and a phase so much behind. -/
def behind (x : BridgeState) (back : Nat) : State :=
  let s := (withWindow .opened).mapBridge 0 (fun b =>
    { b with state := x, next := some ⟨3, 5650, 15000⟩ })
  { s with sync := { s.sync with anchorAngle := 36000 - back } }

/-- A phase 4° behind the crossing is brought 1° forward, from 5,600 to 5,700 cd: past a due angle of
5,650 cd, or of the new phase, and not past one of the old phase or of 0. -/
theorem test_meets_forwardCorrection :
    (∀ x, (behind x 400).ready) ∧ (behind .running 400).handsOn .ca 33333 ∧
      (behind .running 400).sync.phaseAt
        ((behind .running 400).arrivalAt .ca false 33333).tick = some 5600 ∧
      (5600 : Int) - roundInt (signedAngle 5600 6000)
        (2 ^ (behind .running 400).settings.phaseK) = 5700 ∧
      0 < forwardArc 5600 5650 ∧ forwardArc 5600 5650 ≤ forwardArc 5600 5700 ∧
      forwardArc 5600 5600 = 0 ∧ forwardArc 5600 5700 < forwardArc 5600 0 ∧
      (∀ x, (behind x 400).bridgeState 0 = x ∧
        ((behind x 400).bridges.get 0).next = some ⟨3, 5650, 15000⟩) ∧
      (∀ x, x ≠ .retarding → ∀ d, (behind x 400).bridgeState d ≠ .retarding) ∧
      0 + 1 < (behind .retarding 400).settings.retardLimit :=
  ⟨fun _ => ⟨rfl, rfl, rfl⟩, ⟨by decide, by decide⟩, by decide +kernel, by decide, by decide,
    by decide, by decide, by decide, fun _ => ⟨rfl, rfl⟩,
    fun x hx d => by fin_cases d <;> first | exact hx | (intro h; cases h), by decide⟩

/-- A phase of 35,990 cd at an arrival of AB+, brought 10 cd forward by a PHASE_K of 1 to 35,995 cd, and
one of 35,999 cd brought to 0, where the arc carries the turn boundary. -/
theorem test_meets_turnCarried :
    (35990 : Int) - roundInt (signedAngle 35990 0) (2 ^ 1) = 35995 ∧
      wrapAngle ((35999 : Int) - roundInt (signedAngle 35999 0) (2 ^ 1)) = 0 ∧
      0 < forwardArc 35999 0 ∧ forwardArc 35999 0 ≤ forwardArc 35999 0 ∧
      forwardArc 35990 35995 < forwardArc 35990 0 := by decide

theorem test_meets_windows :
    (∀ st, (withWindow st).ready ∧ (withWindow st).sync.state = .locked ∧
      (withWindow st).sync.window = some ⟨.caFall, 5500, 6500, st⟩) ∧
      (withWindow .opened).sync.bad + 1 < (withWindow .opened).settings.lossCount :=
  ⟨fun _ => ⟨⟨rfl, rfl, rfl⟩, rfl, rfl⟩, by decide⟩

/-- A window open with the bad count one short of LOSS_COUNT, and bridge 0 DEBLOCKING. -/
def missing : State :=
  bridged { withWindow .opened with sync := { (withWindow .opened).sync with bad := 2 } } .deblocking

theorem test_meets_coastEntry :
    missing.ready ∧ missing.sync.state = .locked ∧
      missing.settings.lossCount ≤ missing.sync.bad + 1 ∧ missing.bridgeState 0 = .deblocking ∧
      missing.bridgeState 1 ≠ .deblocking ∧ missing.recorder.state = .armed ∧
      hasBit missing.settings.recTriggers 2 = true :=
  ⟨⟨rfl, rfl, rfl⟩, rfl, by decide, rfl, by decide, rfl, by decide⟩

/-- A phase that stands 30° ahead of the crossing to come, with bridge 0 RUNNING. -/
def ahead (x : BridgeState) : State :=
  bridged { coasting 0 with sync := { (coasting 0).sync with anchorAngle := 3000 } } x

theorem test_meets_reAnchor :
    (∀ x, (ahead x).ready) ∧ (ahead .running).handsOn .ab 0 ∧ (ahead .running).sync.state = .coast ∧
      (ahead .running).sync.previous = some ⟨.bcFall, 966667⟩ ∧
      (ahead .running).sync.phaseAt ((ahead .running).arrivalAt .ab true 0).tick = some 3000 ∧
      roundNat (33333 * 36000) (ahead .running).sync.period = 6000 ∧
      (ahead .running).sync.consistency + 1 = (ahead .running).settings.reanchorCount ∧
      ((ahead .running).settings.stepLimit : Int) < |signedAngle 0 3000| ∧
      (ahead .running).bridgeState 0 = .running ∧ (ahead .retarding).bridgeState 0 = .retarding :=
  ⟨fun _ => ⟨rfl, rfl, rfl⟩, ⟨by decide, by decide⟩, rfl, rfl, by decide +kernel, by decide +kernel,
    by decide, by decide, rfl, rfl⟩

/-- A phase that stands 10° behind the crossing to come, within STEP_LIMIT, with a bridge 0 due in the
arc between, or beyond it. -/
def slightlyBehind (x : BridgeState) (due : Nat) : State :=
  ({ coasting 0 with sync := { (coasting 0).sync with anchorAngle := 35000 } } : State).mapBridge 0
    (fun b => { b with state := x, heldCauses := ⟨true, false⟩, next := some ⟨3, due, 15000⟩ })

theorem test_meets_smallReAnchor :
    (∀ x d, (slightlyBehind x d).ready ∧ (slightlyBehind x d).bridgeState 0 = x ∧
      ((slightlyBehind x d).bridges.get 0).next = some ⟨3, d, 15000⟩ ∧
      ((slightlyBehind x d).bridges.get 0).heldCauses = ⟨true, false⟩) ∧
      (slightlyBehind .running 35500).handsOn .ab 0 ∧
      (slightlyBehind .running 35500).sync.phaseAt
        ((slightlyBehind .running 35500).arrivalAt .ab true 0).tick = some 35000 ∧
      |signedAngle 0 35000| ≤ ((slightlyBehind .running 35500).settings.stepLimit : Int) ∧
      signedAngle 0 35000 = 1000 ∧ 0 < forwardArc 35000 35500 ∧
      forwardArc 35000 35500 ≤ forwardArc 35000 0 ∧ forwardArc 35000 0 < forwardArc 35000 1 ∧
      0 + 1 < (slightlyBehind .retarding 1).settings.retardLimit :=
  ⟨fun _ _ => ⟨⟨rfl, rfl, rfl⟩, rfl, rfl, rfl⟩, ⟨by decide, by decide⟩, by decide +kernel, by decide,
    by decide, by decide, by decide, by decide, by decide⟩

/-- A HELD bridge 0 with its held causes. -/
def held (causes : HeldCauses) : State :=
  (bridged locked .held).mapBridge 0 (fun b => { b with heldCauses := causes })

theorem test_meets_turnBoundary :
    (bridged (coasting 8) .retarding).ready ∧
      (bridged (coasting 8) .retarding).phase.isSome = true ∧
      (bridged (coasting 8) .retarding).sync.coastTurns + 1 <
        (bridged (coasting 8) .retarding).settings.coastLimit ∧
      (∀ b, (bridged (coasting 8) .retarding).bridgeState b = .retarding →
        ((bridged (coasting 8) .retarding).bridges.get b).retardTurns + 1 <
          (bridged (coasting 8) .retarding).settings.retardLimit) ∧
      (∀ h, (held h).ready ∧ (held h).bridgeState 0 = .held ∧
        ((held h).bridges.get 0).heldCauses = h) ∧
      (held ⟨true, true⟩).phase.isSome = true :=
  ⟨⟨rfl, rfl, rfl⟩, by decide +kernel, by decide, by decide +kernel, fun _ => ⟨⟨rfl, rfl, rfl⟩, rfl, rfl⟩,
    by decide +kernel⟩

theorem test_meets_coastLimit :
    (coasting 9).ready ∧ (coasting 9).phase.isSome = true ∧ (coasting 9).sync.state = .coast ∧
      (coasting 9).settings.coastLimit ≤ (coasting 9).sync.coastTurns + 1 :=
  ⟨⟨rfl, rfl, rfl⟩, by decide +kernel, rfl, by decide⟩

theorem test_meets_runToAngle :
    locked.periodBounded ∧ locked.phase = some 0 ∧ 35999 < 36000 ∧
      locked.sinceAnchor + 2 * locked.sync.period < 4294967296 :=
  ⟨⟨by decide, by decide⟩, by decide +kernel, by decide, by decide +kernel⟩

/-! ## Hypotheses met: bridges and regulators -/

/-- A RETARDING bridge 0 one turn short of RETARD_LIMIT. -/
def retarded : State :=
  (bridged locked .retarding).mapBridge 0 (fun b => { b with retardTurns := 24 })

theorem test_meets_retardTimeout :
    retarded.ready ∧ retarded.phase.isSome = true ∧ retarded.sync.state ≠ .coast ∧
      retarded.bridgeState 0 = .retarding ∧
      retarded.settings.retardLimit ≤ (retarded.bridges.get 0).retardTurns + 1 ∧
      retarded.trip.latched = false ∧ retarded.trip.causes = 0 :=
  ⟨⟨rfl, rfl, rfl⟩, by decide +kernel, by decide, rfl, by decide, rfl, rfl⟩

theorem test_meets_firing :
    running.ready ∧ running.bridgeState 0 = .running ∧
      (running.bridges.get 0).next = some ⟨3, 33000, 15000⟩ ∧
      (∀ x, (bridged locked x).ready ∧ (bridged locked x).bridgeState 0 = x ∧
        ((bridged locked x).bridges.get 0).next = some ⟨3, 33000, 15000⟩) ∧
      (bridged locked .deblocking).monitor.holdRequest = false ∧
      (bridged (locked.mapMonitor (fun m => { m with holdRequest := true }))
        .deblocking).monitor.holdRequest = true :=
  ⟨⟨rfl, rfl, rfl⟩, rfl, rfl, fun _ => ⟨⟨rfl, rfl, rfl⟩, rfl, rfl⟩, rfl, rfl⟩

/-- A bridge 1 with an active pulse. -/
def pulsing : State := locked.mapBridge 1 (fun b => { b with pulse := some ⟨3, 2, 1001500⟩ })

theorem test_meets_quietLineEvents :
    pulsing.ready ∧ (pulsing.bridges.get 1).pulse = some ⟨3, 2, 1001500⟩ ∧ early.ready :=
  ⟨⟨rfl, rfl, rfl⟩, rfl, ⟨rfl, rfl, rfl⟩⟩

theorem test_meets_breakerOpening :
    running.ready ∧ running.bridgeState 1 = .blocked ∧
      running.bridgeState 0 ≠ .blocked ∧ running.bridgeState 0 ≠ .lockout :=
  ⟨⟨rfl, rfl, rfl⟩, rfl, by decide, by decide⟩

/-! ## Hypotheses met: the monitor -/

/-- A full list of recent episodes. -/
def crowded : State :=
  { early with monitor := { early.monitor with recent := [⟨0, 29999⟩, ⟨0, 20000⟩, ⟨0, 0⟩] } }

theorem test_meets_episodeOpens :
    early.inReset = false ∧ early.monitor.state = .normal ∧
      early.settings.dipStart < early.settings.dipEnd ∧
      early.settings.swellEnd < early.settings.swellStart ∧
      (early.completeScan collapsed).scanner.g < early.settings.holdLevel ∧
      0 < early.settings.holdLevel ∧ early.monitor.holdRequest = false ∧
      early.settings.swellStart <
        (early.completeScan ⟨.fill 1200000, .fill 0, .fill 0⟩).scanner.g ∧
      (early.completeScan ⟨.fill 1200000, .fill 0, .fill 0⟩).scanner.g ≤
        limitAt early.monitor.highTable 0 ∧
      limitAt early.monitor.highTable 0 <
        (early.completeScan ⟨.fill 1400000, .fill 0, .fill 0⟩).scanner.g ∧
      (crowded.monitor.recent.filter
        (fun r => decide (r.age < crowded.settings.repeatWindow * 1000))).length =
        crowded.settings.repeatMax := by decide +kernel

/-- An episode under way in RECOVERING with the hold request off, HOLD_LEVEL at 0, and bridge 0 RUNNING
under a RAMP cap below its course. -/
def again : State :=
  { running with
    monitor :=
      { running.monitor with
        state := .recovering, episode := some ⟨.low, 0, 500, .opened, false, 0⟩
        cap := ⟨some ⟨.ramp, 4000000⟩, none, none, none⟩ }
    settings := { running.settings with holdLevel := 0 } }

/-- No trip comes at the start: no list entry, no scan count at 1, and the limit at time 0 met. -/
theorem test_meets_secondEpisode :
    again.ready ∧ again.monitor.state = .recovering ∧
      again.monitor.episode = some ⟨.low, 0, 500, .opened, false, 0⟩ ∧
      again.settings.holdLevel = 0 ∧ again.monitor.holdRequest = false ∧
      (again.completeScan collapsed).scanner.g < again.settings.dipStart ∧
      limitAt again.monitor.lowTable 0 ≤ (again.completeScan collapsed).scanner.g ∧
      again.monitor.recent.length < again.settings.repeatMax ∧
      (∀ b, again.trip.overcurrentScans.get b ≠ 1) ∧
      (∀ c, (again.channels.get c).overvoltageScans ≠ 1) ∧
      hasBit (again.links.get .p).mask 4 = true ∧ (again.links.get .p).notices.length ≤ 4 :=
  ⟨⟨rfl, rfl, rfl⟩, rfl, rfl, rfl, rfl, by decide +kernel, by decide +kernel, by decide, by decide,
    by decide, by decide, by decide⟩

/-- A LOW table whose limit at time 0 a collapsed line breaches. -/
def strict : State :=
  { early with monitor := { early.monitor with lowTable := [⟨0, 400⟩, ⟨100, 800⟩] } }

theorem test_meets_envelopeBreach :
    strict.inReset = false ∧ strict.monitor.state = .normal ∧
      (strict.completeScan collapsed).scanner.g < limitAt strict.monitor.lowTable 0 := by
  decide +kernel

/-- RECOVER_TIME at 0. -/
def hasty : State :=
  { monitored .recovering with
    settings := { (monitored .recovering).settings with recoverTime := 0 } }

theorem test_meets_longAndEnd :
    (monitored .low).inReset = false ∧ (monitored .low).monitor.state = .low ∧
      (monitored .low).settings.episodeMax ≤ (monitored .low).monitor.elapsedTime + 1 ∧
      (monitored .recovering).monitor.state = .recovering ∧
      (monitored .recovering).monitor.episode = some ⟨.low, 0, 500, .opened, false, 0⟩ ∧
      (monitored .recovering).settings.dipEnd ≤ (monitored .recovering).scanner.g ∧
      (monitored .recovering).scanner.g ≤ (monitored .recovering).settings.swellEnd ∧
      0 < (monitored .recovering).settings.recoverTime ∧
      (monitored .recovering).settings.recoverTime ≤
        (monitored .recovering).monitor.recoveryTimer + 1 ∧
      hasty.inReset = false ∧ hasty.monitor.state = .recovering ∧
      hasty.settings.recoverTime = 0 ∧ hasty.settings.dipStart ≤ hasty.settings.dipEnd ∧
      hasty.settings.swellEnd ≤ hasty.settings.swellStart ∧
      hasty.settings.dipEnd ≤ (hasty.completeScan steady).scanner.g ∧
      (hasty.completeScan steady).scanner.g ≤ hasty.settings.swellEnd := by decide +kernel

/-- Bridge 0 HELD with its held causes while the hold request is on, in LOW or HIGH long after the end
of the tables. -/
def waiting (x : MonitorState) (h : HeldCauses) : State :=
  { held h with
    scanner := (monitored x).scanner
    monitor := { (monitored x).monitor with elapsedTime := 3000, holdRequest := true } }

/-- A steady scan ends both kinds, within the tables' last levels, and a collapsed one breaches the LOW
table in LONG. -/
theorem test_meets_recoveries :
    (∀ h, (waiting .low h).bridgeState 0 = .held ∧ ((waiting .low h).bridges.get 0).heldCauses = h) ∧
      (waiting .low ⟨false, true⟩).inReset = false ∧
      (waiting .low ⟨false, true⟩).monitor.holdRequest = true ∧
      ((waiting .low ⟨false, true⟩).completeScan steady).scanner.g = 1000 ∧
      (waiting .low ⟨false, true⟩).settings.dipEnd ≤ 1000 ∧
      limitAt (waiting .low ⟨false, true⟩).monitor.lowTable 3000 ≤ 1000 ∧
      1000 ≤ (waiting .high ⟨false, true⟩).settings.swellEnd ∧
      1000 ≤ limitAt (waiting .high ⟨false, true⟩).monitor.highTable 3000 ∧
      0 < (waiting .low ⟨false, true⟩).settings.recoverTime ∧
      lastLevel hasty.monitor.lowTable ≤ 1000 ∧ 1000 ≤ lastLevel hasty.monitor.highTable ∧
      (monitored .long).monitor.state = .long ∧
      ((monitored .long).completeScan collapsed).scanner.g <
        lastLevel (monitored .long).monitor.lowTable ∧
      hasBit (0 : CauseSet) 1 = false ∧
      lastLevel (monitored .long).monitor.highTable <
        ((monitored .long).completeScan ⟨.fill 1400000, .fill 0, .fill 0⟩).scanner.g :=
  ⟨fun _ => ⟨rfl, rfl⟩, rfl, rfl, by decide +kernel, by decide, by decide +kernel, by decide,
    by decide +kernel, by decide, by decide, by decide, rfl, by decide +kernel, by decide,
    by decide +kernel⟩

/-- A grid at 66 Hz for all but the last millisecond of F_DELAY. -/
def swift : State :=
  { locked with
    sync := { locked.sync with period := 151515 }
    monitor := { locked.monitor with excursionTimer := 199 } }

theorem test_meets_frequency :
    swift.inReset = false ∧ swift.sync.frequency = some 66000 ∧ swift.settings.fHigh < 66000 ∧
      swift.monitor.excursionTripped = false ∧
      swift.settings.fDelay ≤ swift.monitor.excursionTimer + 1 ∧ swift.trip.latched = false := by
  decide +kernel

/-! ## Hypotheses met: channels -/

/-- A frequency of 50 Hz lies in its band. -/
theorem quiet_of_nominal (s : State) (h : s.sync.frequency = some 50000)
    (hb : s.frequencyOutside 50000 = false) : s.frequencyQuiet := by
  intro f hf ho
  rw [h] at hf
  cases hf
  rw [hb] at ho
  cases ho

/-- A step to 5,000 A with a hold and the given wait. -/
def stepTo (wait : Option CourseWait) : CourseStep := ⟨5000, 2000, some 1, true, wait, some 9⟩

/-- Channel 0 one tick short of T_LOWLOAD at a current below I_MINLOAD. -/
def light : State :=
  let s := running.mapChannel 0 (fun k => { k with lowLoadTimer := 59999 })
  { s with settings := { s.settings with iMinLoad := .fill 100 } }

theorem test_meets_holdsAndParks :
    (∀ w, (heading (stepTo w) .hold (some 1)).frequencyQuiet ∧
      (heading (stepTo w) .hold (some 1)).bridgeState 0 = .running ∧
      ((heading (stepTo w) .hold (some 1)).channels.get 0).queue = [stepTo w] ∧
      ((heading (stepTo w) .hold (some 1)).channels.get 0).remainingHold = some 1 ∧
      (heading (stepTo w) .hold (some 1)).sync.state = .locked ∧
      (heading (stepTo w) .hold (some 1)).settings.iMinLoad.get 0 = 0) ∧
      (heading (stepTo none) .hold (some 1)).watchdogDue = false ∧
      light.frequencyQuiet ∧ light.monitor.state = .normal ∧ light.bridgeState 0 = .running ∧
      light.scanner.i.get 0 < (light.settings.iMinLoad.get 0 : Int) ∧
      (light.channels.get 0).state ≠ .standby ∧ light.watchdogDue = false ∧
      light.settings.tLowLoad.get 0 * 1000 ≤ (light.channels.get 0).lowLoadTimer + 1 :=
  ⟨fun _ => ⟨quiet_of_nominal _
      (by decide +kernel : running.sync.frequency = some 50000)
      (by decide +kernel : running.frequencyOutside 50000 = false), rfl, rfl, rfl, rfl, rfl⟩,
    by decide, quiet_of_nominal _ (by decide +kernel) (by decide +kernel), rfl, rfl, by decide,
    by decide, by decide, by decide⟩

theorem test_meets_advancingTick :
    running.frequencyQuiet ∧ running.inReset = false ∧ running.monitor.state = .normal ∧
      running.bridgeState 0 = .running ∧ running.watchdogDue = false ∧
      running.settings.iMinLoad.get 0 = 0 ∧ (running.channels.get 0).state = .active ∧
      (running.channels.get 0).headPhase = some .ramp ∧ running.monitor.cap.get 0 = none ∧
      ((heading (stepTo (some (.barrier 4 1))) .wait none).channels.get 0).headPhase = some .wait ∧
      (∀ m : Index, hasBit (1 : BitVec 4) m.val = true → m = 0) :=
  ⟨quiet_of_nominal _ (by decide +kernel) (by decide +kernel), rfl, rfl, rfl, by decide, rfl, rfl,
    rfl, rfl, rfl, by decide⟩

/-- In LONG under a RAMP cap below the course, the head of channel 0 arrives this tick at a barrier of
the given mask, with no other head at one; the mask 1 names channel 0 alone, and 3 a channel that has not
come. -/
def meeting (mask : BitVec 4) : State :=
  (heading ⟨5000, 2000, none, true, some (.barrier 4 mask), none⟩ .ramp none).mapMonitor (fun m =>
    { m with state := .long, cap := ⟨some ⟨.ramp, 4000000⟩, none, none, none⟩ })

theorem test_meets_arrivalInLong :
    (∀ k, (meeting k).frequencyQuiet ∧ (meeting k).inReset = false ∧
      (meeting k).monitor.state = .long ∧ (meeting k).bridgeState 0 = .running ∧
      (meeting k).watchdogDue = false ∧ (meeting k).settings.iMinLoad.get 0 = 0 ∧
      ((meeting k).channels.get 0).state = .active ∧
      ((meeting k).channels.get 0).headPhase = some .ramp ∧
      (meeting k).monitor.cap.get 0 = some ⟨.ramp, 4000000⟩ ∧
      ((meeting k).channels.get 0).queue = [⟨5000, 2000, none, true, some (.barrier 4 k), none⟩] ∧
      ((meeting k).channels.get 0).course = 5000000 ∧ (meeting k).settings.iMax.get 0 = 10000 ∧
      ∀ d : Index, d ≠ 0 → ((meeting k).channels.get d).queue = []) ∧
      hasBit (3 : BitVec 4) (1 : Index).val = true :=
  ⟨fun _ => ⟨quiet_of_nominal _
      (by decide +kernel : running.sync.frequency = some 50000)
      (by decide +kernel : running.frequencyOutside 50000 = false), rfl, rfl, rfl, rfl, rfl, rfl, rfl,
      rfl, rfl, rfl, rfl, fun d hd => by fin_cases d <;> first | rfl | exact absurd rfl hd⟩,
    by decide⟩

/-- A request heard by an idle link. -/
theorem test_hears (p : List Byte) : early.hears (req p) ∧ early.hears (reqS p) :=
  ⟨⟨rfl, rfl, (by decide : 0 < 4)⟩, ⟨rfl, rfl, (by decide : 0 < 4)⟩⟩

/-- Four channels: ACTIVE, PAUSED, STANDBY and IDLE. -/
def mixed : State :=
  ((early.mapChannel 0 (fun k =>
      { k with
        state := .active, headPhase := some .wait
        queue := [⟨10, 1, none, false, some .release, some 3⟩] })).mapChannel 1
    (fun k => { k with state := .paused })).mapChannel 2 (fun k => { k with state := .standby })

theorem test_meets_channelRequests :
    (∀ p, mixed.hears (req p)) ∧ mixed.settled ∧ mixed.holder = (req []).link ∧
      (0x0F#8).toNat < 16 ∧ 0 < (0x01#8).toNat ∧
      (mixed.channels.get 0).state = .active ∧ (mixed.channels.get 1).state = .paused ∧
      (mixed.channels.get 2).state = .standby ∧ (mixed.channels.get 3).state = .idle ∧
      (mixed.channels.get 0).headPhase = some .wait ∧ (0x03#8).toNat = (3 : Index).val ∧
      4 ≤ (0x04#8).toNat ∧ (0x00#8).toNat = 0 ∧ 16 ≤ (0x10#8).toNat :=
  ⟨fun _ => ⟨rfl, rfl, (by decide : 0 < 4)⟩, ⟨rfl, rfl⟩, rfl, by decide, by decide, rfl, rfl, rfl, rfl, rfl,
    by decide, by decide, by decide, by decide⟩

/-- A head that waits for a release, and one that waits at a barrier, which no release ends. -/
theorem test_meets_releaseWaits :
    (mixed.channels.get 0).queue = [⟨10, 1, none, false, some .release, some 3⟩] ∧
      ((heading (stepTo (some (.barrier 4 1))) .wait none).channels.get 0).queue =
        [stepTo (some (.barrier 4 1))] ∧
      (stepTo (some (.barrier 4 1))).wait ≠ some .release :=
  ⟨rfl, rfl, by decide⟩

/-- A step of 100 A at 1 A/s for channel 0, and one whose hold is 0. -/
theorem test_meets_appendStep :
    readStep 0 0x00 [0, 100, 0, 1] = some ⟨100, 1, none, false, none, none⟩ ∧
      [0, 100, 0, (1 : Byte)].length + 1 = stepSize 0x00 ∧
      readStep 0 0x01 [0, 100, 0, 1, 0, 0, 0, 0] = none ∧
      [0, 100, 0, 1, 0, 0, 0, (0 : Byte)].length + 1 = stepSize 0x01 ∧
      16 ≤ ((early.mapChannel 0 (fun k =>
        { k with queue := List.replicate 16 early.safeStep })).channels.get 0).queue.length := by
  decide +kernel

theorem test_meets_courseStep :
    let p : CourseStep := ⟨40000, 20000, some 3600000, true, some (.barrier 7 1), some 255⟩
    p.target ≤ 40000 ∧ 0 < p.rate ∧ p.rate ≤ 20000 ∧ p.hold = some 3600000 ∧
      hasBit (1 : BitVec 4) (0 : Index).val = true := by decide

/-! ## Hypotheses met: trips and bridges' requests -/

/-- Bridge 0 and stack 0 each one scan over its limit. -/
def straining : State :=
  let s := early.mapChannel 0 (fun k => { k with overvoltageScans := 1 })
  { s with trip := { s.trip with overcurrentScans := ⟨1, 0, 0, 0⟩ } }

/-- Samples of 45,000 A and of 2.5 V on every bridge and stack. -/
def excess : Samples := ⟨.fill 1000000, .fill 45000000, .fill 25000⟩

theorem test_meets_secondScans :
    straining.inReset = false ∧ straining.trip.overcurrentScans.get 0 = 1 ∧
      (straining.settings.iTrip.get 0 : Int) <
        min (max (roundInt (excess.i.get 0) 1000) (-2000)) 48000 ∧
      (straining.channels.get 0).overvoltageScans = 1 ∧
      (straining.settings.vcellTrip : Int) <
        roundInt (min (max (roundInt (excess.e.get 0) 1000) 0) 150000 * 100)
          (straining.settings.cells.get 0) := by decide +kernel

theorem test_meets_external :
    early.inReset = false ∧ early.trip.externalHigh = false ∧ early.trip.latched = false ∧
      early.recorder.state = .armed ∧ hasBit early.settings.recTriggers 1 = true ∧
      (swift.mapTrip (fun x => { x with latched := true, causes := 1 })).trip.latched = true ∧
      hasBit (1 : CauseSet) 7 = false ∧
      tripped.trip.externalHigh = false ∧ tripped.trip.latched = true ∧
      hasBit tripped.trip.causes 7 = true ∧ tripped.outbox = [] ∧ tripped.triggers = [] ∧
      (early.externalHigh).trip.externalHigh = true := by decide +kernel

theorem test_meets_tripClear :
    early.trip.latched = false ∧ tripped.trip.latched = true ∧
      tripped.trip.externalHigh = false ∧
      (¬∃ c, (tripped.settings.vcellTrip : Int) < tripped.scanner.vCell.get c) ∧
      tripped.monitor.state = .normal ∧ tripped.bridgeState 0 = .lockout ∧
      (tripped.mapTrip (fun x => { x with externalHigh := true })).trip.externalHigh = true := by
  decide +kernel

theorem test_meets_deblockAndStop :
    (∀ p, running.hears (req p)) ∧ running.settled ∧ running.holder = (req []).link ∧
      running.bridgeState 1 = .blocked ∧ running.breakerClosed = true ∧
      running.sync.state = .locked ∧ running.trip.latched = false ∧
      (running.channels.get 1).state ≠ .standby ∧ running.bridgeState 0 ≠ .blocked ∧
      (0x00#8).toNat = 0 ∧ 16 ≤ (0x10#8).toNat :=
  ⟨fun _ => ⟨rfl, rfl, (by decide : 0 < 4)⟩, ⟨rfl, rfl⟩, rfl, rfl, rfl, rfl, rfl, by decide, by decide,
    by decide, by decide⟩

/-! ## Hypotheses met: the recorder -/

theorem test_meets_snapshots :
    early.inReset = false ∧ early.recorder.state ≠ .frozen ∧
      early.recorder.decimation + 1 = early.settings.recDecim ∧ 0 < early.settings.recPre ∧
      (recording .capturing).recorder.state = .capturing ∧
      (recording .capturing).recorder.ring.length + 1 = 1 := by decide

theorem test_meets_recorderRequests :
    (∀ x p, (recording x).hears (req p) ∧ (recording x).settled ∧
      (recording x).holder = (req p).link ∧ (recording x).recorder.state = x) ∧
      hasBit early.settings.recTriggers 4 = true ∧
      hasBit ({ early.settings with recTriggers := 15 } : Settings).recTriggers 4 = false :=
  ⟨fun _ _ => ⟨⟨rfl, rfl, (by decide : 0 < 4)⟩, ⟨rfl, rfl⟩, rfl, rfl⟩, by decide, by decide⟩

/-! ## Hypotheses met: links -/

/-- A notice queue that is full, and a mask that enables nothing. -/
theorem test_meets_announced :
    early.settled ∧ hasBit (early.links.get .p).mask 8 = true ∧
      (early.links.get .p).notices.length < 8 ∧
      8 ≤ ((linked (fun k =>
        { k with notices := List.replicate 8 ⟨0x80, 0, []⟩ })).links.get .p).notices.length ∧
      hasBit ((linked (fun k => { k with mask := 0 })).links.get .p).mask 8 = false :=
  ⟨⟨rfl, rfl⟩, by decide⟩

/-- A candidate of a sync byte and a length byte, on a line at space since reset for 1,735 ticks. -/
def collecting : State :=
  linked (fun k =>
    { k with heldBytes := [⟨0xA5, 999000⟩, ⟨0x02, 999868⟩], brk := .space 998265 })

/-- The tick given for a line at mark: 1,735 ticks at space are no break, and 1,736 are. -/
theorem test_meets_gapsAndFaults :
    collecting.ready ∧
      (collecting.links.get .p).heldBytes.getLast? = some ⟨0x02, 999868⟩ ∧
      (∀ y ∈ [(⟨0x02, 999868⟩ : HeldByte)], y.byte ≠ 0xA5) ∧
      judge [⟨0x02, 999868⟩] = .incomplete ∧
      (collecting.runFor 0).since 998265 < 1736 ∧ 1736 ≤ (collecting.runFor 1).since 998265 ∧
      collecting.rate = .slow ∧ (collecting.links.get .p).brk = .space 998265 ∧
      (early.links.get .p).brk = .mark ∧ (early.links.get .p).heldBytes = [] :=
  ⟨⟨rfl, rfl, rfl⟩, rfl, by decide, by decide, by decide +kernel, by decide +kernel, rfl, rfl, rfl,
    rfl⟩

/-- A record of 6 bytes being sent, its first byte begun 900 ticks ago. -/
def sending (cut : Option Nat) : State :=
  linked (fun k => { k with transmitter := some ⟨List.replicate 6 0, 999100, cut⟩ })

/-- A line at mark that is said to have gone to space 900 ticks ago is in break 836 ticks on, with the
record still being sent; one said to have done so 2,000 ticks ago is in break now. -/
theorem test_meets_breaks :
    (∀ c, (sending c).ready ∧ ((sending c).links.get .p).brk = .mark ∧
      ((sending c).links.get .p).transmitter = some ⟨List.replicate 6 0, 999100, c⟩) ∧
      (sending none).since 999100 ≤ 1736 ∧
      ((sending none).runToTick (999100 + BitVec.ofNat 32 1736)).elapsed = 1000836 ∧
      1000836 < 999100 + 6 * (sending none).rate.byteTicks ∧
      1736 ≤ (sending none).since 998000 ∧
      (collecting.links.get .p).brk = .space 998265 ∧
      ((linked (fun k => { k with brk := .inBreak })).links.get .p).brk = .inBreak :=
  ⟨fun _ => ⟨⟨rfl, rfl, rfl⟩, rfl, rfl⟩, by decide +kernel, by decide +kernel, by decide,
    by decide +kernel, rfl, rfl⟩

theorem test_meets_transmitters :
    (linked (fun k => { k with replies := [⟨0x4A, 1, [0]⟩], notices := [⟨0x80, 0, []⟩] })).ready ∧
      (early.links.get .p).transmitter = none ∧ (early.links.get .p).replies = [] ∧
      ((linked (fun k => { k with notices := [⟨0x80, 0, []⟩] })).links.get .p).notices =
        [⟨0x80, 0, []⟩] :=
  ⟨⟨rfl, rfl, rfl⟩, rfl, rfl, rfl⟩

/-- The frame of a PING with tag 1, all but its last byte held. -/
def almost : State :=
  linked (fun k =>
    { k with
      heldBytes := ((⟨0x0A, 1, []⟩ : OutRecord).frame.dropLast).map (fun b => ⟨b, 999000⟩) })

theorem test_meets_bytes :
    almost.ready ∧ (almost.links.get .p).brk ≠ .inBreak ∧
      (almost.links.get .p).heldBytes.map (fun h => h.byte) ++
          [((⟨0x0A, 1, []⟩ : OutRecord).frame.getLast?).getD 0] =
        (⟨0x0A, 1, []⟩ : OutRecord).frame ∧
      (early.links.get .p).heldBytes = [] ∧ (0x00 : Byte) ≠ 0xA5 ∧ isRequestKind 0x30 = false :=
  ⟨⟨rfl, rfl, rfl⟩, by decide, by decide +kernel, rfl, by decide, by decide⟩

/-- A further byte of a candidate that stays incomplete, a length byte below 2 and one above 250, and
the last byte of a PING with a check that is not its own. -/
theorem test_meets_candidates :
    almost.ready ∧
      (∃ h rest, (almost.links.get .p).heldBytes = h :: rest ∧ h.byte = 0xA5 ∧
        (∃ len tail, rest.map (fun y => y.byte) ++ [0x00] = len :: tail ∧
          tail.length = len.toNat + 2 ∧
          field16 (checkOf (len :: tail.take len.toNat)).toNat ≠ tail.drop len.toNat)) ∧
      (∃ len tail, [0x02] ++ [(0x0A : Byte)] = len :: tail ∧ 2 ≤ len.toNat ∧ len.toNat ≤ 250 ∧
        tail.length < len.toNat + 2) ∧
      (0x01#8).toNat < 2 ∧ 250 < (0xFB#8).toNat :=
  ⟨⟨rfl, rfl, rfl⟩, ⟨_, _, rfl, by decide +kernel, _, _, rfl, by decide +kernel, by decide +kernel⟩,
    ⟨_, _, rfl, by decide, by decide, by decide⟩, by decide, by decide⟩

theorem test_meets_frames :
    ((⟨0x41, 7, [0, 0xA5]⟩ : OutRecord).frame.map (fun b => (⟨b, 0⟩ : HeldByte))).map
        (fun h => h.byte) = (⟨0x41, 7, [0, 0xA5]⟩ : OutRecord).frame ∧
      (⟨0x41, 7, [0, 0xA5]⟩ : OutRecord).payload.length ≤ 248 := by decide +kernel

/-- A link with four replies waiting. -/
def full : State := linked (fun k => { k with replies := List.replicate 4 ⟨0x4A, 1, [0]⟩ })

theorem test_meets_refusals :
    full.ready ∧ full.inBreak .p = false ∧ 4 ≤ (full.links.get .p).replies.length ∧
      (req []).link = .p ∧ early.holder ≠ (reqS []).link ∧ early.holder = (req []).link ∧
      RequestKind.deblock.code.toNat ≤ 0x1D ∧ 0x10 ≤ RequestKind.deblock.code.toNat ∧
      RequestKind.deblock.sizeRight [] = false ∧ RequestKind.seize.sizeRight [0] = false :=
  ⟨⟨rfl, rfl, rfl⟩, by decide, by decide, rfl, by decide, rfl, by decide, by decide, by decide, by decide⟩

/-- A link holds authority, and the watchdog is one tick short of a timeout of 100 ms. -/
def guarded (l : Link) : State :=
  { running with
    holder := l, watchdog := 99, settings := { running.settings with authTimeout := 100 } }

theorem test_meets_authority :
    (∀ l p, (guarded l).hears (reqS p) ∧ (guarded l).holder = l ∧ (guarded l).settled) ∧
      (guarded .p).inReset = false ∧ 0 < (guarded .p).settings.authTimeout ∧
      (guarded .p).settings.authTimeout ≤ (guarded .p).watchdog + 1 ∧
      (guarded .p).monitor.state = .normal ∧ (guarded .p).frequencyQuiet ∧
      (guarded .p).bridgeState 0 = .running ∧ (guarded .p).settings.iMinLoad.get 0 = 0 :=
  ⟨fun _ _ => ⟨⟨rfl, rfl, (by decide : 0 < 4)⟩, rfl, ⟨rfl, rfl⟩⟩, rfl, by decide, by decide, rfl,
    quiet_of_nominal _ (by decide +kernel) (by decide +kernel), rfl, rfl⟩

/-! ## Hypotheses met: settings -/

/-- No setting has an id that the table does not list. -/
theorem test_meets_unlistedId : ∀ x : Setting, x.id ≠ (0x47 : Byte).toNat := by
  intro x
  cases x <;> first | decide | (rename_i i; revert i; decide)

/-- RETARD_LIMIT at its lowest value, 2, and one below it. -/
theorem test_meets_setSetting :
    Setting.retardLimit.id = (0x28 : Byte).toNat ∧ signedValueOf [0, 0, 0, 2] = 2 ∧
      Setting.retardLimit.inRange 2 = true ∧ Setting.retardLimit.inRange 1 = false ∧
      early.permits Setting.retardLimit.cls = true ∧
      (early.settings.put .retardLimit 2).consistent early.monitor.lowTable
        early.monitor.highTable = true ∧
      Setting.dipStart.inRange 840 = true ∧ early.permits Setting.dipStart.cls = true ∧
      (early.settings.put .dipStart 840).consistent early.monitor.lowTable
        early.monitor.highTable = false ∧
      Setting.uNom.cls = .stopped ∧ running.bridgeState 0 ≠ .blocked ∧
      running.bridgeState 0 ≠ .lockout ∧ (monitored .low).monitor.state ≠ .normal ∧
      (recording .frozen).recorder.state ≠ .armed := by decide +kernel

/-- A value for each setting that acts at once, each permitted and none in force yet. -/
theorem test_meets_settingEffects :
    ([(.fNom, 60), (.crossSet, 1), (.lockCount, 2), (.lossCount, 1), (.reanchorCount, 2),
      (.repeatMax, 1), (.xLim, 0), (.iMax 0, 100), (.authTimeout, 100), (.recPre, 0),
      (.recDecim, 2)] : List (Setting × Int)).all (fun q =>
        q.1.inRange q.2 && early.permits q.1.cls && early.settings.value q.1 != q.2 &&
          (early.settings.put q.1 q.2).consistent early.monitor.lowTable
            early.monitor.highTable) = true := by decide +kernel

/-- The values of F_NOM and CROSS_SET in force may be set again, and the early part is not LOCKED. -/
theorem test_meets_sameSetting :
    ([.fNom, .crossSet] : List Setting).all (fun x =>
        x.inRange (early.settings.value x) && early.permits x.cls &&
          (early.settings.put x (early.settings.value x)).consistent early.monitor.lowTable
            early.monitor.highTable) = true ∧
      early.sync.state ≠ .locked := by decide +kernel

theorem test_meets_loadEnvelope :
    [0, 0, 0, 100, 0, 50, 1, (44 : Byte)].length = 4 * (0x02 : Byte).toNat ∧
      validLow early.settings.dipStart (readPoints [0, 0, 0, 100, 0, 50, 1, 44]) = true ∧
      validHigh early.settings.swellStart (readPoints [0, 0, 5, 20, 0, 50, 4, 176]) = true ∧
      validLow early.settings.dipStart (readPoints [0, 1, 0, 100, 0, 50, 1, 44]) = false ∧
      early.monitor.state = .normal ∧ (monitored .long).monitor.state ≠ .normal := by
  decide +kernel

theorem test_meets_syncRestart :
    (∀ b, early.bridgeState b = .blocked ∨ early.bridgeState b = .lockout) ∧
      running.bridgeState 0 ≠ .blocked ∧ running.bridgeState 0 ≠ .lockout := by decide

/-! ## Hypotheses met: invariants -/

/-- A course of 5,000 A is far from a safe current of 0 at 500 A/s. -/
theorem test_meets_safeStep :
    ((guarded .p).channels.get 0).queue = [⟨6000, 2000, none, false, none, none⟩] ∧
      min (guarded .p).settings.safeCurrent ((guarded .p).settings.iMax.get 0) * 1000 +
          ((guarded .p).settings.safeRate + 2000) < ((guarded .p).channels.get 0).course := by
  decide +kernel

/-- A step from a state of a running train: the PING that waits is answered. -/
def pinged : State := running.withPending [.ping (req [])]

theorem test_meets_invariants :
    (∃ t, step pinged = .next t) ∧ pinged.periodBounded ∧ pinged.queuesBounded ∧
      pinged.coursesBounded ∧ pinged.tripSafe ∧ tripped.latchAgrees := by
  refine ⟨⟨_, rfl⟩, ⟨by decide, by decide⟩, ?_, ?_, .inr ⟨?_, ?_⟩, ?_, ?_⟩
  · intro l
    cases l <;> exact ⟨by decide, by decide⟩
  · intro c
    fin_cases c <;> decide
  · intro h
    cases h
  · exact fun _ => ⟨rfl, rfl⟩
  · exact fun _ => ⟨rfl, ⟨.external, rfl, by decide⟩, fun b => by fin_cases b <;> rfl⟩
  · intro h
    cases h

theorem test_meets_settingsValid : pinged.settingsValid := by
  refine ⟨?_, by decide +kernel, by decide +kernel, by decide +kernel⟩
  intro x
  cases x <;> first | decide +kernel | (rename_i i; revert i; decide +kernel)

end Sys2Proof.Machine.Tests
end

section
/-! SUPPORT. What a commanding request from the link with authority comes to: the state it is judged in,
its own rule, and the one or no event it raises (R183, R185). -/

namespace Sys2Proof.Machine

/-! ### The state a request is judged in -/

@[simp] theorem heardFrom_channels (s : State) (l : Link) : (s.heardFrom l).channels = s.channels := by
  unfold State.heardFrom
  split <;> rfl

@[simp] theorem heardFrom_holder (s : State) (l : Link) : (s.heardFrom l).holder = s.holder := by
  unfold State.heardFrom
  split <;> rfl

@[simp] theorem heardFrom_outbox (s : State) (l : Link) : (s.heardFrom l).outbox = s.outbox := by
  unfold State.heardFrom
  split <;> rfl

@[simp] theorem heardFrom_triggers (s : State) (l : Link) : (s.heardFrom l).triggers = s.triggers := by
  unfold State.heardFrom
  split <;> rfl

@[simp] theorem atRequest_channels (s : State) (r : Request) :
    (s.atRequest r).channels = s.channels := by simp [State.atRequest]

@[simp] theorem atRequest_holder (s : State) (r : Request) : (s.atRequest r).holder = s.holder := by
  simp [State.atRequest]

theorem atRequest_settled (s : State) (r : Request) (h : s.settled) : (s.atRequest r).settled := by
  obtain ⟨hout, htrig⟩ := h
  exact ⟨by simp [State.atRequest, hout], by simp [State.atRequest, htrig]⟩

/-! ### What a command raised is taken -/

/-- A second taking finds nothing left. -/
theorem settle_settle (s : State) (o o' : Schedule) : (s.settle o).settle o' = s.settle o :=
  settle_of_settled _ _ (settle_settled s o)

/-- A single event has one order. -/
theorem takenOrder_singleton (k : Nat) (e : Event) : takenOrder Event.source 1 k [e] = [e] := by
  simp [takenOrder, firstOfSources, Nat.mod_one]

/-- The link unit takes an event that is alone: its flag is set and its notice offered (R185). -/
theorem settle_raise (s : State) (e : Event) (o : Schedule) (h : s.settled) :
    (s.raise e).settle o = s.announced e := by
  obtain ⟨hout, htrig⟩ := h
  unfold State.settle
  rw [takeTriggers_of_empty _ _ (by simpa using htrig)]
  simp [State.takeNotices, State.announced, State.raise, hout, takenOrder_singleton, Both.map]

/-- A reply touches neither the flags nor what waits to be taken, so it may come before an event or after
it. -/
theorem withReply_raise (s : State) (l : Link) (e : Event) (x : OutRecord) :
    (s.raise e).withReply l x = (s.withReply l x).raise e := by
  cases l <;> rfl

theorem mapChannel_settled (s : State) (c : Index) (f : Channel → Channel) (h : s.settled) :
    (s.mapChannel c f).settled := h

theorem withReply_settled (s : State) (l : Link) (x : OutRecord) (h : s.settled) :
    (s.withReply l x).settled := h

/-! ### Judging a commanding request (R183, step 3) -/

/-- No commanding request is reserved to link S. -/
theorem serviceOnly_of_commanding (k : RequestKind) (h : k.commanding = true) :
    k.serviceOnly = false := by
  revert h
  cases k <;> decide

/-- A commanding request of the right size from the link with authority comes to its own rule. -/
theorem judgeRequest_of_holder (s : State) (l : Link) (k : RequestKind) (p : List Byte)
    (hk : k.commanding = true) (hl : s.holder = l) (hp : k.sizeRight p = true) :
    s.judgeRequest l k.code p = s.act l k p := by
  have hnone : s.refusal l k p = none := by
    simp [State.refusal, serviceOnly_of_commanding k hk, hl, hp]
  simp only [State.judgeRequest, ofByte_code, hnone]

/-- Such a request heard is its own rule's effect, with the reply queued and its events taken. -/
theorem request_of_holder (s : State) (k : RequestKind) (r : Request) (h : s.hears r)
    (hk : k.commanding = true) (hl : s.holder = r.link) (hp : k.sizeRight r.payload = true) :
    s.request k r =
      .next (((s.atRequest r).act r.link k r.payload).reply r.link k.code r.tag r.order) := by
  rw [request_of_hears s k r h,
    judgeRequest_of_holder _ _ _ _ hk ((atRequest_holder s r).trans hl) hp, Answer.reply, settle_settle]

/-! ### Replies -/

/-- A refused request changes nothing but the reply queue of its link (R183). -/
theorem reply_refuse (s : State) (x : Result) (l : Link) (kind tag : Byte) (o : Schedule)
    (h : s.settled) :
    (s.refuse x).reply l kind tag o = s.withReply l (replyTo kind tag [x.byte]) :=
  settle_of_settled _ o (withReply_settled s l (replyTo kind tag [x.byte]) h)

/-- An accepted request that raised one event: the reply is queued and the event announced. -/
theorem reply_accept_raise (s : State) (e : Event) (contents : List Byte) (l : Link) (kind tag : Byte)
    (o : Schedule) (h : s.settled) :
    ((s.raise e).accept contents).reply l kind tag o =
      (s.withReply l (replyTo kind tag (Result.ok.byte :: contents))).announced e := by
  change ((s.raise e).withReply l _).settle o = _
  rw [withReply_raise, settle_raise _ _ _ (withReply_settled _ _ _ h)]
  rfl

/-! ### Channel numbers and channel states -/

theorem indexOf_of_eq (b : Byte) (c : Index) (h : b.toNat = c.val) : indexOf b = some c := by
  simp [indexOf, h]

theorem indexOf_of_four_le (b : Byte) (h : 4 ≤ b.toNat) : indexOf b = none := by
  simp [indexOf, h]

/-- A channel moved to another state keeps all else of its record, and raises a CHANNEL event (R124). -/
theorem setChannelState_of_ne (s : State) (c : Index) (st : ChannelState)
    (h : (s.channels.get c).state ≠ st) :
    s.setChannelState c st =
      (s.mapChannel c (fun k => { k with state := st })).raise
        (.channel c st (s.channels.get c).safe) := by
  simp [State.setChannelState, h, State.channelEvent]

end Sys2Proof.Machine
end

section
/-! PROOF. WAKE (R141). -/

namespace Sys2Proof.Machine

/-! ### The rule of WAKE, case by case -/

theorem actWake_of_standby (s : State) (m : Byte) (c : Index) (hm : m.toNat = c.val)
    (hc : (s.channels.get c).state = .standby) :
    s.actWake [m] =
      ((s.mapChannel c (fun k => { k with state := .idle })).raise
        (.channel c .idle (s.channels.get c).safe)).accept [] := by
  have hne : (s.channels.get c).state ≠ .idle := by simp [hc]
  simp [State.actWake, indexOf_of_eq m c hm, hc, setChannelState_of_ne s c .idle hne]

theorem actWake_of_not_standby (s : State) (m : Byte) (c : Index) (hm : m.toNat = c.val)
    (hc : (s.channels.get c).state ≠ .standby) : s.actWake [m] = s.refuse .refusedState := by
  simp [State.actWake, indexOf_of_eq m c hm, hc]

theorem actWake_of_no_channel (s : State) (m : Byte) (hm : 4 ≤ m.toNat) :
    s.actWake [m] = s.refuse .refusedValue := by
  simp [State.actWake, indexOf_of_four_le m hm]

/-- A WAKE heard from the link with authority is its rule's answer. -/
theorem exec_wake_of_holder (r : Request) (s : State) (m : Byte) (h : s.hears r)
    (hl : s.holder = r.link) (hp : r.payload = [m]) :
    exec (.wake r) s =
      .next (((s.atRequest r).actWake [m]).reply r.link RequestKind.wake.code r.tag r.order) := by
  have hreq := request_of_holder s .wake r h rfl hl (by simp [RequestKind.sizeRight, hp])
  rw [hp] at hreq
  exact hreq

/-- Settles O29: the request comes to its own rule, whose three cases answer the three clauses. -/
theorem wakeLeavesStandby : Obligations.WakeLeavesStandby := by
  intro r s m hears settled holder payload u
  have hu : u.settled := atRequest_settled s r settled
  have hchan : u.channels = s.channels := atRequest_channels s r
  have hexec := exec_wake_of_holder r s m hears holder payload
  refine ⟨fun c hm hc => ?standby, fun c hm hc => ?notStandby, fun hm => ?noChannel⟩
  case standby =>
    rw [hexec, actWake_of_standby u m c hm (hchan ▸ hc),
      reply_accept_raise _ _ _ _ _ _ _ (mapChannel_settled u c _ hu), State.mapChannel, hchan]
    rfl
  case notStandby =>
    rw [hexec, actWake_of_not_standby u m c hm (hchan ▸ hc), reply_refuse _ _ _ _ _ _ hu]
    rfl
  case noChannel =>
    rw [hexec, actWake_of_no_channel u m hm, reply_refuse _ _ _ _ _ _ hu]
    rfl

end Sys2Proof.Machine
end

section
/-! PROOF. GET_SETTING and the defaults a reset restores (R199). -/

namespace Sys2Proof.Machine

/-! ### Ids and settings name each other (Table 10-3) -/

theorem ofId_id (x : Setting) : Setting.ofId x.id = some x := by
  cases x
  case cells i | shift i | iMax i | iTrip i | iMinLoad i | tLowLoad i => fin_cases i <;> rfl
  all_goals rfl

theorem id_of_ofId {n : Nat} {x : Setting} (h : Setting.ofId n = some x) : x.id = n := by
  unfold Setting.ofId at h
  split at h <;> cases h <;> rfl

/-- An id that is no setting's is not in the table. -/
theorem ofId_of_unlisted {n : Nat} (h : ∀ x : Setting, x.id ≠ n) : Setting.ofId n = none :=
  Option.eq_none_iff_forall_ne_some.mpr fun x hx => h x (id_of_ofId hx)

/-! ### Requests that need no authority (R183, step 3) -/

/-- A request of the right size that needs neither authority nor link S comes to its own rule. -/
theorem judgeRequest_of_open (s : State) (l : Link) (k : RequestKind) (p : List Byte)
    (hc : k.commanding = false) (hs : k.serviceOnly = false) (hp : k.sizeRight p = true) :
    s.judgeRequest l k.code p = s.act l k p := by
  have hnone : s.refusal l k p = none := by simp [State.refusal, hc, hs, hp]
  simp only [State.judgeRequest, ofByte_code, hnone]

/-- Such a request heard is its own rule's effect, with the reply queued and its events taken. -/
theorem request_of_open (s : State) (k : RequestKind) (r : Request) (h : s.hears r)
    (hc : k.commanding = false) (hs : k.serviceOnly = false) (hp : k.sizeRight r.payload = true) :
    s.request k r =
      .next (((s.atRequest r).act r.link k r.payload).reply r.link k.code r.tag r.order) := by
  rw [request_of_hears s k r h, judgeRequest_of_open _ _ _ _ hc hs hp, Answer.reply, settle_settle]

/-- An accepted request that raised nothing: its reply is queued, and that is all. -/
theorem reply_accept (s : State) (contents : List Byte) (l : Link) (kind tag : Byte) (o : Schedule)
    (h : s.settled) :
    (s.accept contents).reply l kind tag o =
      s.withReply l (replyTo kind tag (Result.ok.byte :: contents)) :=
  settle_of_settled _ o (withReply_settled s l (replyTo kind tag (Result.ok.byte :: contents)) h)

@[simp] theorem heardFrom_settings (s : State) (l : Link) : (s.heardFrom l).settings = s.settings := by
  unfold State.heardFrom
  split <;> rfl

@[simp] theorem atRequest_settings (s : State) (r : Request) :
    (s.atRequest r).settings = s.settings := by simp [State.atRequest]

/-! ### The rule of GET_SETTING, case by case -/

theorem actGetSetting_of_listed (s : State) (id : Byte) (x : Setting) (h : x.id = id.toNat) :
    s.actGetSetting [id] = s.accept (id :: signed32 (s.settings.value x)) := by
  have hof : Setting.ofId id.toNat = some x := h ▸ ofId_id x
  simp [State.actGetSetting, hof]

theorem actGetSetting_of_unlisted (s : State) (id : Byte) (h : ∀ x : Setting, x.id ≠ id.toNat) :
    s.actGetSetting [id] = s.refuse .refusedValue := by
  simp [State.actGetSetting, ofId_of_unlisted h]

/-- A GET_SETTING heard from either link is its rule's answer. -/
theorem exec_getSetting_of_hears (r : Request) (s : State) (id : Byte) (h : s.hears r)
    (hp : r.payload = [id]) :
    exec (.getSetting r) s =
      .next (((s.atRequest r).actGetSetting [id]).reply r.link RequestKind.getSetting.code r.tag
        r.order) := by
  have hreq := request_of_open s .getSetting r h rfl rfl (by simp [RequestKind.sizeRight, hp])
  rw [hp] at hreq
  exact hreq

/-! ### The resets -/

@[simp] theorem resetWith_settings (s : State) (pins : Pins) (recorder : Recorder) (held : Bool) :
    (s.resetWith pins recorder held).settings = Settings.default := rfl

theorem exec_powerOnReset (pins : Pins) (s : State) :
    exec (.powerOnReset pins) s = .next (s.resetWith pins Recorder.atReset s.inReset) := rfl

theorem exec_resetLineRelease_of_inReset (pins : Pins) (s : State) (h : s.inReset = true) :
    exec (.resetLineRelease pins) s = .next (s.resetWith pins s.recorder false) := by
  change execResetLineRelease pins s = _
  rw [execResetLineRelease, if_pos h]

/-- Settles O51: GET_SETTING needs no authority, so its rule answers either link, and an id names at most
one setting; both resets put `Settings.default` in force. -/
theorem getSettingReadsTheValue : Obligations.GetSettingReadsTheValue := by
  refine ⟨fun r s id hears settled payload => ?request, fun pins s => ?powerOn,
    fun pins s inReset => ?release⟩
  case request =>
    have hu : (s.atRequest r).settled := atRequest_settled s r settled
    rw [exec_getSetting_of_hears r s id hears payload]
    refine ⟨fun x listed => ?value, fun unlisted => ?refused⟩
    case value =>
      rw [actGetSetting_of_listed _ id x listed, reply_accept _ _ _ _ _ _ hu, atRequest_settings]
      rfl
    case refused =>
      rw [actGetSetting_of_unlisted _ id unlisted, reply_refuse _ _ _ _ _ _ hu]
      rfl
  case powerOn =>
    exact ⟨_, exec_powerOnReset pins s, fun x => by rw [resetWith_settings]⟩
  case release =>
    exact ⟨_, exec_resetLineRelease_of_inReset pins s inReset, fun x => by rw [resetWith_settings]⟩

end Sys2Proof.Machine
end

section
/-! SUPPORT. What the blocks' actions touch. An action on one bridge leaves every other bridge, the
monitor, the channels, the trip unit and the recorder alone; an action on one channel leaves every other
channel, the bridges and their regulators, the monitor, the trip unit and the recorder alone; the
recorder's own actions leave every other block alone. -/

namespace Sys2Proof.Machine

/-! ### Flags -/

/-- Each bit of a set stays when another is added. -/
theorem hasBit_addBit_of_hasBit {w : Nat} (x : BitVec w) (j k : Nat) (h : hasBit x j = true) :
    hasBit (addBit x k) j = true := by
  unfold hasBit at h
  simp [hasBit, addBit, h]

/-- An added bit below the width is in the set. -/
theorem hasBit_addBit_self {w : Nat} (x : BitVec w) (k : Nat) (h : k < w) :
    hasBit (addBit x k) k = true := by
  simp [hasBit, addBit, h]

/-- Every summary flag that `s` shows, `t` shows: only CLEAR_EVENTS and the resets take one back (R187). -/
def FlagsKept (s t : State) : Prop := ∀ l k, s.flagged l k → t.flagged l k

theorem FlagsKept.refl (s : State) : FlagsKept s s := fun _ _ h => h

theorem FlagsKept.trans {s t u : State} (h : FlagsKept s t) (k : FlagsKept t u) : FlagsKept s u :=
  fun l n hn => k l n (h l n hn)

theorem flagsKept_raise (s : State) (e : Event) : FlagsKept s (s.raise e) := by
  intro l k h
  unfold State.flagged at h ⊢
  simpa using hasBit_addBit_of_hasBit _ _ _ h

/-- The flag of an event is one of the 13. -/
theorem Event.row_lt (e : Event) : e.row < 13 := by cases e <;> simp [Event.row]

/-- An event raised shows its flag on both links (R185). -/
theorem raise_flagged (s : State) (e : Event) (l : Link) : (s.raise e).flagged l e.row := by
  unfold State.flagged
  simpa using hasBit_addBit_self _ _ e.row_lt

/-! ### Actions on one bridge -/

/-- The parts that an action of the firing unit on bridge `b` leaves alone. -/
structure OnBridge (b : Index) (s t : State) : Prop extends Calm s t where
  monitor : t.monitor = s.monitor
  channels : t.channels = s.channels
  trip : t.trip = s.trip
  recorder : t.recorder = s.recorder
  bridges : ∀ j, j ≠ b → t.bridges.get j = s.bridges.get j
  regulators : ∀ j, j ≠ b → t.regulators.get j = s.regulators.get j
  flags : FlagsKept s t

theorem OnBridge.refl (b : Index) (s : State) : OnBridge b s s :=
  ⟨Calm.rfl' s, rfl, rfl, rfl, rfl, fun _ _ => rfl, fun _ _ => rfl, FlagsKept.refl s⟩

theorem OnBridge.trans {b : Index} {s t u : State} (h : OnBridge b s t) (k : OnBridge b t u) :
    OnBridge b s u :=
  ⟨h.toCalm.trans' k.toCalm, k.monitor.trans h.monitor, k.channels.trans h.channels,
    k.trip.trans h.trip, k.recorder.trans h.recorder,
    fun j hj => (k.bridges j hj).trans (h.bridges j hj),
    fun j hj => (k.regulators j hj).trans (h.regulators j hj), h.flags.trans k.flags⟩

theorem onBridge_raise (b : Index) (s : State) (e : Event) : OnBridge b s (s.raise e) :=
  ⟨calm_raise s e, rfl, rfl, rfl, rfl, fun _ _ => rfl, fun _ _ => rfl, flagsKept_raise s e⟩

theorem onBridge_trigger (b : Index) (s : State) (x : TriggerSource) : OnBridge b s (s.trigger x) := by
  have h : ∀ l, OnBridge b s { s with triggers := l } := fun l =>
    ⟨calm_triggers s l, rfl, rfl, rfl, rfl, fun _ _ => rfl, fun _ _ => rfl, fun _ _ h => h⟩
  unfold State.trigger
  split
  · exact h _
  · exact OnBridge.refl b s

theorem onBridge_mapBridge (s : State) (b : Index) (f : Bridge → Bridge) :
    OnBridge b s (s.mapBridge b f) :=
  ⟨calm_mapBridge s b f, rfl, rfl, rfl, rfl, fun _ hj => Four.get_set_of_ne _ _ _ _ hj.symm,
    fun _ _ => rfl, fun _ _ h => h⟩

theorem onBridge_mapRegulator (s : State) (b : Index) (f : Regulator → Regulator) :
    OnBridge b s (s.mapRegulator b f) :=
  ⟨calm_mapRegulator s b f, rfl, rfl, rfl, rfl, fun _ _ => rfl,
    fun _ hj => Four.get_set_of_ne _ _ _ _ hj.symm, fun _ _ h => h⟩

theorem onBridge_preset (s : State) (b : Index) : OnBridge b s (s.preset b) :=
  onBridge_mapRegulator s b _

theorem onBridge_blockBridge (s : State) (b : Index) (c : BlockCause) :
    OnBridge b s (s.blockBridge b c) :=
  (onBridge_mapBridge s b _).trans (onBridge_raise b _ _)

theorem onBridge_holdBridge (s : State) (b : Index) (c : HeldCause) :
    OnBridge b s (s.holdBridge b c) :=
  ((onBridge_trigger b s _).trans (onBridge_mapBridge _ b _)).trans (onBridge_raise b _ _)

theorem onBridge_resumeBridge (s : State) (b : Index) : OnBridge b s (s.resumeBridge b) :=
  ((onBridge_mapBridge s b _).trans (onBridge_preset _ b)).trans (onBridge_raise b _ _)

theorem onBridge_clearHeld (s : State) (b : Index) (c : HeldCause) :
    OnBridge b s (s.clearHeld b c) := by
  unfold State.clearHeld
  dsimp only
  split
  · split
    · exact onBridge_resumeBridge s b
    · exact onBridge_mapBridge s b _
  · exact OnBridge.refl b s

theorem onBridge_stopBridge (s : State) (b : Index) : OnBridge b s (s.stopBridge b) := by
  unfold State.stopBridge
  split
  case h_2 => exact (onBridge_mapBridge s b _).trans (onBridge_raise b _ _)
  all_goals first | exact onBridge_blockBridge s b _ | exact OnBridge.refl b s

theorem onBridge_holdRequestOn (s : State) (b : Index) : OnBridge b s (s.holdRequestOn b) := by
  unfold State.holdRequestOn
  split
  all_goals first
    | exact onBridge_holdBridge s b _
    | exact onBridge_blockBridge s b _
    | exact onBridge_mapBridge s b _
    | exact OnBridge.refl b s

theorem onBridge_breakerOpens (s : State) (b : Index) : OnBridge b s (s.breakerOpens b) := by
  unfold State.breakerOpens
  split
  all_goals first | exact onBridge_blockBridge s b _ | exact OnBridge.refl b s

theorem onBridge_phaseLost (s : State) (b : Index) : OnBridge b s (s.phaseLost b) := by
  unfold State.phaseLost
  split
  all_goals first | exact onBridge_blockBridge s b _ | exact OnBridge.refl b s

theorem onBridge_coastBegins (s : State) (b : Index) : OnBridge b s (s.coastBegins b) := by
  unfold State.coastBegins
  split
  all_goals first | exact onBridge_blockBridge s b _ | exact OnBridge.refl b s

theorem onBridge_lockoutBridge (s : State) (b : Index) : OnBridge b s (s.lockoutBridge b) := by
  unfold State.lockoutBridge
  dsimp only
  split
  · exact onBridge_mapBridge s b _
  · exact (onBridge_mapBridge s b _).trans (onBridge_raise b _ _)

theorem onBridge_unlockBridge (s : State) (b : Index) : OnBridge b s (s.unlockBridge b) := by
  unfold State.unlockBridge
  split
  · exact (onBridge_mapBridge s b _).trans (onBridge_raise b _ _)
  · exact OnBridge.refl b s

theorem onBridge_reanchorStep (s : State) (b : Index) (old new : Nat) (d : Int) :
    OnBridge b s (s.reanchorStep b old new d) := by
  unfold State.reanchorStep
  repeat' split
  all_goals first
    | exact onBridge_holdBridge s b _
    | exact onBridge_blockBridge s b _
    | exact onBridge_mapBridge s b _
    | exact OnBridge.refl b s

theorem onBridge_accumulate (s : State) (b : Index) : OnBridge b s (s.accumulate b) := by
  unfold State.accumulate
  split
  all_goals first | exact onBridge_mapRegulator s b _ | exact OnBridge.refl b s

theorem onBridge_firstFiring (s : State) (b : Index) : OnBridge b s (s.firstFiring b) := by
  unfold State.firstFiring
  split
  · exact (onBridge_mapBridge s b _).trans (onBridge_raise b _ _)
  · exact OnBridge.refl b s

theorem onBridge_scheduleNext (s : State) (b : Index) (n : Scheduled) :
    OnBridge b s (s.scheduleNext b n) := by
  unfold State.scheduleNext
  extract_lets retarding r req sched t
  have h : OnBridge b s t := (onBridge_mapRegulator s b _).trans (onBridge_mapBridge _ b _)
  split
  · exact h.trans (onBridge_blockBridge _ b _)
  · exact h

theorem onBridge_fire (s : State) (b : Index) (n : Scheduled) : OnBridge b s (s.fire b n) :=
  ((onBridge_mapBridge s b _).trans (onBridge_firstFiring _ b)).trans (onBridge_scheduleNext _ b n)

theorem onBridge_dueReached (s : State) (b : Index) : OnBridge b s (s.dueReached b) := by
  unfold State.dueReached
  repeat' split
  all_goals first
    | exact onBridge_blockBridge s b _
    | exact onBridge_fire s b _
    | exact OnBridge.refl b s

theorem onBridge_correctionFiring (s : State) (b : Index) (old new : Nat) :
    OnBridge b s (s.correctionFiring b old new) := by
  unfold State.correctionFiring
  repeat' split
  all_goals first | exact onBridge_dueReached s b | exact OnBridge.refl b s

theorem onBridge_countRetard (s : State) (b : Index) : OnBridge b s (s.countRetard b) :=
  onBridge_mapBridge s b _

theorem onBridge_bridgeTurn (s : State) (b : Index) (x : Bool) : OnBridge b s (s.bridgeTurn b x) := by
  unfold State.bridgeTurn
  repeat' split
  all_goals first
    | exact onBridge_countRetard s b
    | exact onBridge_clearHeld s b _
    | exact OnBridge.refl b s

/-! ### Actions on one channel -/

/-- The parts that an action of the channel unit on channel `c` leaves alone. -/
structure OnChannel (c : Index) (s t : State) : Prop extends Calm s t where
  monitor : t.monitor = s.monitor
  bridges : t.bridges = s.bridges
  regulators : t.regulators = s.regulators
  trip : t.trip = s.trip
  recorder : t.recorder = s.recorder
  triggers : t.triggers = s.triggers
  channels : ∀ j, j ≠ c → t.channels.get j = s.channels.get j
  flags : FlagsKept s t

theorem OnChannel.refl (c : Index) (s : State) : OnChannel c s s :=
  ⟨Calm.rfl' s, rfl, rfl, rfl, rfl, rfl, rfl, fun _ _ => rfl, FlagsKept.refl s⟩

theorem OnChannel.trans {c : Index} {s t u : State} (h : OnChannel c s t) (k : OnChannel c t u) :
    OnChannel c s u :=
  ⟨h.toCalm.trans' k.toCalm, k.monitor.trans h.monitor, k.bridges.trans h.bridges,
    k.regulators.trans h.regulators, k.trip.trans h.trip, k.recorder.trans h.recorder,
    k.triggers.trans h.triggers, fun j hj => (k.channels j hj).trans (h.channels j hj),
    h.flags.trans k.flags⟩

theorem onChannel_raise (c : Index) (s : State) (e : Event) : OnChannel c s (s.raise e) :=
  ⟨calm_raise s e, rfl, rfl, rfl, rfl, rfl, rfl, fun _ _ => rfl, flagsKept_raise s e⟩

theorem onChannel_mapChannel (s : State) (c : Index) (f : Channel → Channel) :
    OnChannel c s (s.mapChannel c f) :=
  ⟨calm_mapChannel s c f, rfl, rfl, rfl, rfl, rfl, rfl,
    fun _ hj => Four.get_set_of_ne _ _ _ _ hj.symm, fun _ _ h => h⟩

theorem onChannel_setChannelState (s : State) (c : Index) (x : ChannelState) :
    OnChannel c s (s.setChannelState c x) := by
  unfold State.setChannelState
  split
  · exact OnChannel.refl c s
  · exact (onChannel_mapChannel s c _).trans (onChannel_raise c _ _)

theorem onChannel_flushChannel (s : State) (c : Index) : OnChannel c s (s.flushChannel c) := by
  unfold State.flushChannel
  split
  · exact OnChannel.refl c s
  · exact (onChannel_mapChannel s c _).trans (onChannel_setChannelState _ c _)

theorem onChannel_tripFlush (s : State) (c : Index) : OnChannel c s (s.tripFlush c) := by
  unfold State.tripFlush
  dsimp only
  split
  · exact onChannel_mapChannel s c _
  · exact (onChannel_mapChannel s c _).trans (onChannel_setChannelState _ c _)

theorem onChannel_completeHead (s : State) (c : Index) : OnChannel c s (s.completeHead c) := by
  unfold State.completeHead
  split
  · exact OnChannel.refl c s
  · rename_i p rest _
    dsimp only
    have h : OnChannel c s (match p.tag with
        | none => s
        | some t => s.raise (.stepDone c t (s.channels.get c).headClamped)) := by
      split
      · exact OnChannel.refl c s
      · exact onChannel_raise c s _
    split
    · exact (h.trans (onChannel_mapChannel _ c _)).trans (onChannel_setChannelState _ c _)
    · exact h.trans (onChannel_mapChannel _ c _)

theorem onChannel_advance (s : State) (c : Index) : OnChannel c s (s.advance c) := by
  unfold State.advance
  dsimp only
  split
  · exact (onChannel_mapChannel s c _).trans (onChannel_completeHead _ c)
  · exact onChannel_mapChannel s c _

theorem onChannel_foldTick (s : State) (c : Index) : OnChannel c s (s.foldTick c) := by
  unfold State.foldTick
  exact onChannel_mapChannel s c _

theorem onChannel_channelTick (s : State) (adv : Index → Bool) (c : Index) :
    OnChannel c s (s.channelTick adv c) := by
  unfold State.channelTick
  dsimp only
  split
  · exact (onChannel_foldTick s c).trans (onChannel_setChannelState _ c _)
  · split
    · exact (onChannel_foldTick s c).trans (onChannel_advance _ c)
    · exact onChannel_foldTick s c

theorem onChannel_superviseChannel (s : State) (c : Index) : OnChannel c s (s.superviseChannel c) := by
  unfold State.superviseChannel
  split
  · exact (onChannel_mapChannel s c _).trans (onChannel_raise c _ _)
  · exact OnChannel.refl c s

/-! ### Actions of the recorder -/

/-- The parts that the recorder's own actions leave alone. -/
structure OnRecorder (s t : State) : Prop extends Calm s t where
  monitor : t.monitor = s.monitor
  bridges : t.bridges = s.bridges
  regulators : t.regulators = s.regulators
  channels : t.channels = s.channels
  trip : t.trip = s.trip
  flags : FlagsKept s t

theorem OnRecorder.refl (s : State) : OnRecorder s s :=
  ⟨Calm.rfl' s, rfl, rfl, rfl, rfl, rfl, FlagsKept.refl s⟩

theorem OnRecorder.trans {s t u : State} (h : OnRecorder s t) (k : OnRecorder t u) :
    OnRecorder s u :=
  ⟨h.toCalm.trans' k.toCalm, k.monitor.trans h.monitor, k.bridges.trans h.bridges,
    k.regulators.trans h.regulators, k.channels.trans h.channels, k.trip.trans h.trip,
    h.flags.trans k.flags⟩

theorem onRecorder_raise (s : State) (e : Event) : OnRecorder s (s.raise e) :=
  ⟨calm_raise s e, rfl, rfl, rfl, rfl, rfl, flagsKept_raise s e⟩

theorem onRecorder_mapRecorder (s : State) (f : Recorder → Recorder) :
    OnRecorder s (s.mapRecorder f) :=
  ⟨calm_mapRecorder s f, rfl, rfl, rfl, rfl, rfl, fun _ _ h => h⟩

theorem onRecorder_triggers (s : State) (l : List Trigger) : OnRecorder s { s with triggers := l } :=
  ⟨calm_triggers s l, rfl, rfl, rfl, rfl, rfl, fun _ _ h => h⟩

theorem onRecorder_trigger (s : State) (x : TriggerSource) : OnRecorder s (s.trigger x) := by
  unfold State.trigger
  split
  · exact onRecorder_triggers s _
  · exact OnRecorder.refl s

theorem onRecorder_takeTrigger (s : State) (x : Trigger) : OnRecorder s (s.takeTrigger x) := by
  unfold State.takeTrigger
  split
  · exact (onRecorder_mapRecorder s _).trans (onRecorder_raise _ _)
  · exact onRecorder_mapRecorder s _

theorem onRecorder_foldl {α : Type} (s : State) (l : List α) (f : State → α → State)
    (h : ∀ t x, OnRecorder t (f t x)) : OnRecorder s (l.foldl f s) := by
  induction l generalizing s with
  | nil => exact OnRecorder.refl s
  | cons x rest ih => exact (h s x).trans (ih (f s x))

theorem onRecorder_takeTriggers (s : State) (k : Nat) : OnRecorder s (s.takeTriggers k) :=
  (onRecorder_triggers s []).trans (onRecorder_foldl _ _ _ onRecorder_takeTrigger)

theorem onRecorder_keepSnapshot (s : State) (x : Snapshot) : OnRecorder s (s.keepSnapshot x) := by
  unfold State.keepSnapshot
  split
  · exact OnRecorder.refl s
  · exact onRecorder_mapRecorder s _
  · dsimp only
    split
    · exact onRecorder_mapRecorder s _
    · split
      · exact ((onRecorder_mapRecorder s _).trans (onRecorder_mapRecorder _ _)).trans
          (onRecorder_raise _ _)
      · exact onRecorder_mapRecorder s _

theorem onRecorder_recorderScan (s : State) : OnRecorder s s.recorderScan := by
  unfold State.recorderScan
  split
  · exact OnRecorder.refl s
  · split
    · exact (onRecorder_mapRecorder s _).trans (onRecorder_keepSnapshot _ _)
    · exact onRecorder_mapRecorder s _

theorem onRecorder_recorderShare (s : State) (k : Nat) : OnRecorder s (s.recorderShare k) :=
  (onRecorder_takeTriggers s k).trans (onRecorder_recorderScan _)

theorem onRecorder_tripEvent (s : State) : OnRecorder s s.tripEvent :=
  (onRecorder_trigger s _).trans (onRecorder_raise _ _)

/-! ### An action taken for every bridge or channel -/

/-- All that an action on bridge `j` reads stands as it did: only other bridges, their regulators, and
what is raised have changed. -/
structure BesideBridge (j : Index) (s t : State) : Prop extends Calm s t where
  monitor : t.monitor = s.monitor
  channels : t.channels = s.channels
  trip : t.trip = s.trip
  recorder : t.recorder = s.recorder
  bridge : t.bridges.get j = s.bridges.get j
  regulator : t.regulators.get j = s.regulators.get j
  flags : FlagsKept s t

theorem BesideBridge.refl (j : Index) (s : State) : BesideBridge j s s :=
  ⟨Calm.rfl' s, rfl, rfl, rfl, rfl, rfl, rfl, FlagsKept.refl s⟩

theorem BesideBridge.trans {j : Index} {s t u : State} (h : BesideBridge j s t)
    (k : BesideBridge j t u) : BesideBridge j s u :=
  ⟨h.toCalm.trans' k.toCalm, k.monitor.trans h.monitor, k.channels.trans h.channels,
    k.trip.trans h.trip, k.recorder.trans h.recorder, k.bridge.trans h.bridge,
    k.regulator.trans h.regulator, h.flags.trans k.flags⟩

theorem OnBridge.beside {b j : Index} {s t : State} (h : OnBridge b s t) (hj : j ≠ b) :
    BesideBridge j s t :=
  ⟨h.toCalm, h.monitor, h.channels, h.trip, h.recorder, h.bridges j hj, h.regulators j hj,
    h.flags⟩

theorem besideBridge_forAll (s : State) (order : List Index) (f : Index → State → State) (j : Index)
    (hj : j ∉ order) (h : ∀ b t, OnBridge b t (f b t)) : BesideBridge j s (s.forAll order f) := by
  induction order generalizing s with
  | nil => exact BesideBridge.refl j s
  | cons b rest ih =>
    obtain ⟨hb, hrest⟩ := List.ne_and_not_mem_of_not_mem_cons hj
    exact ((h b s).beside hb).trans (ih (f b s) hrest)

/-- Where every bridge has its turn once, bridge `j` has it on a state in which all that it reads stands
as at the start, and what its turn leaves of it is left at the end. -/
theorem forAll_at_bridge (s : State) (order : List Index) (f : Index → State → State) (j : Index)
    (hnd : order.Nodup) (hj : j ∈ order) (h : ∀ b t, OnBridge b t (f b t)) :
    ∃ t, BesideBridge j s t ∧ BesideBridge j (f j t) (s.forAll order f) := by
  induction order generalizing s with
  | nil => exact absurd hj List.not_mem_nil
  | cons b rest ih =>
    obtain ⟨hb, hrest⟩ := List.nodup_cons.mp hnd
    by_cases hjb : j = b
    · subst hjb
      exact ⟨s, BesideBridge.refl j s, besideBridge_forAll _ rest f j hb h⟩
    · obtain ⟨t, ht, hu⟩ := ih (f b s) hrest (List.mem_of_ne_of_mem hjb hj)
      exact ⟨t, ((h b s).beside hjb).trans ht, hu⟩

/-- All that an action on channel `j` reads stands as it did: only other channels and what is raised have
changed. -/
structure BesideChannel (j : Index) (s t : State) : Prop extends Calm s t where
  monitor : t.monitor = s.monitor
  bridges : t.bridges = s.bridges
  regulators : t.regulators = s.regulators
  trip : t.trip = s.trip
  recorder : t.recorder = s.recorder
  triggers : t.triggers = s.triggers
  channel : t.channels.get j = s.channels.get j
  flags : FlagsKept s t

theorem BesideChannel.refl (j : Index) (s : State) : BesideChannel j s s :=
  ⟨Calm.rfl' s, rfl, rfl, rfl, rfl, rfl, rfl, rfl, FlagsKept.refl s⟩

theorem BesideChannel.trans {j : Index} {s t u : State} (h : BesideChannel j s t)
    (k : BesideChannel j t u) : BesideChannel j s u :=
  ⟨h.toCalm.trans' k.toCalm, k.monitor.trans h.monitor, k.bridges.trans h.bridges,
    k.regulators.trans h.regulators, k.trip.trans h.trip, k.recorder.trans h.recorder,
    k.triggers.trans h.triggers, k.channel.trans h.channel,
    h.flags.trans k.flags⟩

theorem OnChannel.beside {c j : Index} {s t : State} (h : OnChannel c s t) (hj : j ≠ c) :
    BesideChannel j s t :=
  ⟨h.toCalm, h.monitor, h.bridges, h.regulators, h.trip, h.recorder, h.triggers, h.channels j hj,
    h.flags⟩

theorem besideChannel_forAll (s : State) (order : List Index) (f : Index → State → State) (j : Index)
    (hj : j ∉ order) (h : ∀ c t, OnChannel c t (f c t)) : BesideChannel j s (s.forAll order f) := by
  induction order generalizing s with
  | nil => exact BesideChannel.refl j s
  | cons c rest ih =>
    obtain ⟨hc, hrest⟩ := List.ne_and_not_mem_of_not_mem_cons hj
    exact ((h c s).beside hc).trans (ih (f c s) hrest)

theorem forAll_at_channel (s : State) (order : List Index) (f : Index → State → State) (j : Index)
    (hnd : order.Nodup) (hj : j ∈ order) (h : ∀ c t, OnChannel c t (f c t)) :
    ∃ t, BesideChannel j s t ∧ BesideChannel j (f j t) (s.forAll order f) := by
  induction order generalizing s with
  | nil => exact absurd hj List.not_mem_nil
  | cons c rest ih =>
    obtain ⟨hc, hrest⟩ := List.nodup_cons.mp hnd
    by_cases hjc : j = c
    · subst hjc
      exact ⟨s, BesideChannel.refl j s, besideChannel_forAll _ rest f j hc h⟩
    · obtain ⟨t, ht, hu⟩ := ih (f c s) hrest (List.mem_of_ne_of_mem hjc hj)
      exact ⟨t, ((h c s).beside hjc).trans ht, hu⟩

/-- The parts that the firing unit leaves alone when it acts on any of its bridges. -/
structure OnBridges (s t : State) : Prop extends Calm s t where
  monitor : t.monitor = s.monitor
  channels : t.channels = s.channels
  trip : t.trip = s.trip
  recorder : t.recorder = s.recorder
  flags : FlagsKept s t

theorem OnBridge.all {b : Index} {s t : State} (h : OnBridge b s t) : OnBridges s t :=
  ⟨h.toCalm, h.monitor, h.channels, h.trip, h.recorder, h.flags⟩

theorem OnBridges.refl (s : State) : OnBridges s s := ⟨Calm.rfl' s, rfl, rfl, rfl, rfl, FlagsKept.refl s⟩

theorem OnBridges.trans {s t u : State} (h : OnBridges s t) (k : OnBridges t u) : OnBridges s u :=
  ⟨h.toCalm.trans' k.toCalm, k.monitor.trans h.monitor, k.channels.trans h.channels,
    k.trip.trans h.trip, k.recorder.trans h.recorder, h.flags.trans k.flags⟩

theorem onBridges_forAll (s : State) (order : List Index) (f : Index → State → State)
    (h : ∀ b t, OnBridge b t (f b t)) : OnBridges s (s.forAll order f) := by
  induction order generalizing s with
  | nil => exact OnBridges.refl s
  | cons b rest ih => exact (h b s).all.trans (ih (f b s))

/-- The parts that the channel unit leaves alone when it acts on any of its channels. -/
structure OnChannels (s t : State) : Prop extends Calm s t where
  monitor : t.monitor = s.monitor
  bridges : t.bridges = s.bridges
  regulators : t.regulators = s.regulators
  trip : t.trip = s.trip
  recorder : t.recorder = s.recorder
  triggers : t.triggers = s.triggers
  flags : FlagsKept s t

theorem OnChannel.all {c : Index} {s t : State} (h : OnChannel c s t) : OnChannels s t :=
  ⟨h.toCalm, h.monitor, h.bridges, h.regulators, h.trip, h.recorder, h.triggers, h.flags⟩

theorem OnChannels.refl (s : State) : OnChannels s s :=
  ⟨Calm.rfl' s, rfl, rfl, rfl, rfl, rfl, rfl, FlagsKept.refl s⟩

theorem OnChannels.trans {s t u : State} (h : OnChannels s t) (k : OnChannels t u) :
    OnChannels s u :=
  ⟨h.toCalm.trans' k.toCalm, k.monitor.trans h.monitor, k.bridges.trans h.bridges,
    k.regulators.trans h.regulators, k.trip.trans h.trip, k.recorder.trans h.recorder,
    k.triggers.trans h.triggers, h.flags.trans k.flags⟩

theorem onChannels_forAll (s : State) (order : List Index) (f : Index → State → State)
    (h : ∀ c t, OnChannel c t (f c t)) : OnChannels s (s.forAll order f) := by
  induction order generalizing s with
  | nil => exact OnChannels.refl s
  | cons c rest ih => exact (h c s).all.trans (ih (f c s))

theorem Index.all_nodup : Index.all.Nodup := by decide

theorem Index.mem_all (i : Index) : i ∈ Index.all := by revert i; decide

end Sys2Proof.Machine
end

section
/-! SUPPORT. How the trip latch comes about (R94, R143, R150): what `latchTrip` and `raiseCause` leave. -/

namespace Sys2Proof.Machine

theorem TripCause.bit_lt (c : TripCause) : c.bit < 8 := by cases c <;> decide

theorem hasBit_addBit_cause (x : CauseSet) (c : TripCause) :
    hasBit (addBit x c.bit) c.bit = true := hasBit_addBit_self x _ c.bit_lt

/-- The bridge that a trip locks out (R94). -/
theorem lockoutBridge_bridge (s : State) (b : Index) :
    (s.lockoutBridge b).bridges.get b =
      { s.bridges.get b with
        state := .lockout, blockCause := none, heldCauses := HeldCauses.empty, next := none,
        pulse := none } := by
  unfold State.lockoutBridge
  dsimp only
  split <;> simp

/-- A channel that a trip flushes (R143). -/
theorem tripFlush_channel (s : State) (c : Index) :
    (s.tripFlush c).channels.get c =
      { (s.channels.get c).emptied with
        course := 0
        lowLoadTimer := 0
        state := if (s.channels.get c).state = .standby then .standby else .idle } := by
  unfold State.tripFlush State.setChannelState State.channelEvent
  split <;> simp_all [Channel.emptied]
  split <;> simp_all

/-- The trip unit's own part of a latch, with its event (R150, R153). -/
def State.latched (s : State) (cause : TripCause) : State :=
  (s.mapTrip (fun x =>
    { x with
      latched := true
      firstOut := some cause
      causes := addBit 0 cause.bit
      tick := s.counter
      breakerTrip := true })).tripEvent

theorem latchTrip_eq (s : State) (cause : TripCause) :
    s.latchTrip cause =
      ((s.latched cause).forAll Index.all (fun b t => t.lockoutBridge b)).forAll Index.all
        (fun c t => t.tripFlush c) := rfl

/-- After the latch, what each unit took. -/
theorem latchTrip_parts (s : State) (cause : TripCause) :
    ∃ t, OnBridges (s.latched cause) t ∧ OnChannels t (s.latchTrip cause) :=
  ⟨_, onBridges_forAll _ _ _ (fun b t => onBridge_lockoutBridge t b),
    onChannels_forAll _ _ _ (fun c t => onChannel_tripFlush t c)⟩

theorem latched_trip (s : State) (cause : TripCause) :
    (s.latched cause).trip =
      { s.trip with
        latched := true
        firstOut := some cause
        causes := addBit 0 cause.bit
        tick := s.counter
        breakerTrip := true } := (onRecorder_tripEvent _).trip

theorem latched_bridges (s : State) (cause : TripCause) :
    (s.latched cause).bridges = s.bridges := (onRecorder_tripEvent _).bridges

theorem latched_channels (s : State) (cause : TripCause) :
    (s.latched cause).channels = s.channels := (onRecorder_tripEvent _).channels

theorem latched_monitor (s : State) (cause : TripCause) :
    (s.latched cause).monitor = s.monitor := (onRecorder_tripEvent _).monitor

theorem latchTrip_trip (s : State) (cause : TripCause) :
    (s.latchTrip cause).trip =
      { s.trip with
        latched := true
        firstOut := some cause
        causes := addBit 0 cause.bit
        tick := s.counter
        breakerTrip := true } := by
  obtain ⟨t, hb, hc⟩ := latchTrip_parts s cause
  rw [hc.trip, hb.trip, latched_trip]

/-- Every bridge is locked out (R94). -/
theorem latchTrip_bridge (s : State) (cause : TripCause) (b : Index) :
    (s.latchTrip cause).bridges.get b =
      { s.bridges.get b with
        state := .lockout, blockCause := none, heldCauses := HeldCauses.empty, next := none,
        pulse := none } := by
  obtain ⟨t, ht, hu⟩ := forAll_at_bridge (s.latched cause) Index.all
    (fun b t => t.lockoutBridge b) b Index.all_nodup (Index.mem_all b)
    (fun b t => onBridge_lockoutBridge t b)
  have hc := onChannels_forAll ((s.latched cause).forAll Index.all (fun b t => t.lockoutBridge b))
    Index.all (fun c t => t.tripFlush c) (fun c t => onChannel_tripFlush t c)
  rw [latchTrip_eq, hc.bridges, hu.bridge, lockoutBridge_bridge, ht.bridge, latched_bridges]

/-- Every channel is flushed, with course value and low-load timer 0 (R143). -/
theorem latchTrip_channel (s : State) (cause : TripCause) (c : Index) :
    (s.latchTrip cause).channels.get c =
      { (s.channels.get c).emptied with
        course := 0
        lowLoadTimer := 0
        state := if (s.channels.get c).state = .standby then .standby else .idle } := by
  have hb := onBridges_forAll (s.latched cause) Index.all (fun b t => t.lockoutBridge b)
    (fun b t => onBridge_lockoutBridge t b)
  obtain ⟨t, ht, hu⟩ := forAll_at_channel
    ((s.latched cause).forAll Index.all (fun b t => t.lockoutBridge b)) Index.all
    (fun c t => t.tripFlush c) c Index.all_nodup (Index.mem_all c)
    (fun c t => onChannel_tripFlush t c)
  rw [latchTrip_eq, hu.channel, tripFlush_channel, ht.channel, hb.channels, latched_channels]

theorem latchTrip_showsTrip (s : State) (cause : TripCause) : (s.latchTrip cause).showsTrip cause := by
  refine ⟨by rw [latchTrip_trip], by rw [latchTrip_trip], by rw [latchTrip_trip],
    by rw [latchTrip_trip], fun b => ?bridge, fun c => ?channel⟩
  case bridge => simp [State.bridgeState, latchTrip_bridge, HeldCauses.empty]
  case channel =>
    rw [latchTrip_channel]
    refine ⟨rfl, rfl, rfl, rfl, rfl, ?_⟩
    dsimp only
    split
    · exact Or.inr rfl
    · exact Or.inl rfl

/-- A cause raised while no trip is latched latches one; one raised while a trip is latched can only join
its set (R150, R151). -/
theorem raiseCause_of_unlatched (s : State) (cause : TripCause) (h : s.trip.latched = false) :
    s.raiseCause cause = s.latchTrip cause := by
  simp [State.raiseCause, h]

theorem raiseCause_of_held (s : State) (cause : TripCause) (h : s.trip.latched = true)
    (hc : hasBit s.trip.causes cause.bit = true) : s.raiseCause cause = s := by
  simp [State.raiseCause, h, hc]

theorem raiseCause_of_joining (s : State) (cause : TripCause) (h : s.trip.latched = true)
    (hc : hasBit s.trip.causes cause.bit = false) :
    s.raiseCause cause =
      (s.mapTrip (fun x => { x with causes := addBit x.causes cause.bit })).tripEvent := by
  simp [State.raiseCause, h, hc]

end Sys2Proof.Machine
end

section
/-! SUPPORT. What every action of the blocks keeps: the invariants of the manual (R22, R48, R123, R152, R184,
R200, R201). `Safe s t` says that each of them, held by `s`, is held by `t`; one lemma for each action. -/

namespace Sys2Proof.Machine

/-- Every invariant that holds of `s` holds of `t`. -/
structure Keeps (s t : State) : Prop where
  settings : s.settingsValid → t.settingsValid
  period : s.periodBounded → t.periodBounded
  queues : s.queuesBounded → t.queuesBounded
  courses : s.coursesBounded → t.coursesBounded
  latch : s.latchAgrees → t.latchAgrees

theorem Keeps.refl (s : State) : Keeps s s := ⟨id, id, id, id, id⟩

theorem Keeps.trans {s t u : State} (h : Keeps s t) (k : Keeps t u) : Keeps s u :=
  ⟨k.settings ∘ h.settings, k.period ∘ h.period, k.queues ∘ h.queues, k.courses ∘ h.courses,
    k.latch ∘ h.latch⟩

/-- The same, of an action that queues no reply. -/
structure Safe (s t : State) : Prop extends Keeps s t where
  replies : ∀ l, (t.links.get l).replies.length ≤ (s.links.get l).replies.length

theorem Safe.refl (s : State) : Safe s s := ⟨Keeps.refl s, fun _ => le_rfl⟩

theorem Safe.trans {s t u : State} (h : Safe s t) (k : Safe t u) : Safe s u :=
  ⟨h.toKeeps.trans k.toKeeps, fun l => (k.replies l).trans (h.replies l)⟩

/-- An update of what no invariant speaks of. -/
theorem Safe.of_same {s t : State} (h : Keeps s t) (hl : t.links = s.links) : Safe s t :=
  ⟨h, fun l => by rw [hl]⟩

theorem safe_forAll (s : State) (order : List Index) (f : Index → State → State)
    (h : ∀ i t, Safe t (f i t)) : Safe s (s.forAll order f) := by
  induction order generalizing s with
  | nil => exact Safe.refl s
  | cons i rest ih => exact (h i s).trans (ih (f i s))

theorem safe_foldl {α : Type} (s : State) (l : List α) (f : State → α → State)
    (h : ∀ t x, Safe t (f t x)) : Safe s (l.foldl f s) := by
  induction l generalizing s with
  | nil => exact Safe.refl s
  | cons x rest ih => exact (h s x).trans (ih (f s x))

/-! ### From what an action leaves alone -/

theorem settingsValid_of_eq {s t : State} (hs : t.settings = s.settings)
    (hl : t.monitor.lowTable = s.monitor.lowTable) (hh : t.monitor.highTable = s.monitor.highTable)
    (h : s.settingsValid) : t.settingsValid := by
  unfold State.settingsValid
  rw [hs, hl, hh]
  exact h

theorem replies_of_unsummed {k k' : LinkState} (h : k'.unsummed = k.unsummed) :
    k'.replies = k.replies := by
  have hr := congrArg LinkState.replies h
  exact hr

theorem notices_of_unsummed {k k' : LinkState} (h : k'.unsummed = k.unsummed) :
    k'.notices = k.notices := by
  have hn := congrArg LinkState.notices h
  exact hn

theorem queuesBounded_of_unsummed {s t : State}
    (hk : ∀ l, (t.links.get l).unsummed = (s.links.get l).unsummed) (h : s.queuesBounded) :
    t.queuesBounded := by
  intro l
  have hl := h l
  unfold LinkState.bounded at hl ⊢
  rwa [replies_of_unsummed (hk l), notices_of_unsummed (hk l)]

/-- The latch depends on the trip unit's four items and on which bridges are in LOCKOUT. -/
theorem latchAgrees_of_lockout {s t : State} (hl : t.trip.latched = s.trip.latched)
    (hf : t.trip.firstOut = s.trip.firstOut) (hc : t.trip.causes = s.trip.causes)
    (hb : t.trip.breakerTrip = s.trip.breakerTrip)
    (hlock : ∀ b, s.bridgeState b = .lockout → t.bridgeState b = .lockout)
    (h : s.latchAgrees) : t.latchAgrees := by
  unfold State.latchAgrees
  rw [hl, hf, hc, hb]
  exact ⟨fun x => ⟨(h.1 x).1, (h.1 x).2.1, fun b => hlock b ((h.1 x).2.2 b)⟩, h.2⟩

theorem coursesBounded_of_eq {s t : State} (hc : t.channels = s.channels) (h : s.coursesBounded) :
    t.coursesBounded := by
  unfold State.coursesBounded
  rwa [hc]

/-- An action that leaves the time base, the settings, the tables and the links' queues alone. -/
theorem Safe.of_steady {s t : State} (h : Steady s t) (hp : s.periodBounded → t.periodBounded)
    (hc : s.coursesBounded → t.coursesBounded) (hl : s.latchAgrees → t.latchAgrees) : Safe s t :=
  ⟨⟨settingsValid_of_eq h.settings h.lowTable h.highTable, hp, queuesBounded_of_unsummed h.links, hc,
    hl⟩, fun l => by rw [replies_of_unsummed (h.links l)]⟩

theorem Safe.of_calm {s t : State} (h : Calm s t) (hc : s.coursesBounded → t.coursesBounded)
    (hl : s.latchAgrees → t.latchAgrees) : Safe s t :=
  Safe.of_steady h.toSteady (fun hp => by unfold State.periodBounded; rwa [h.sync]) hc hl

/-- An action on a bridge that does nothing to a bridge in LOCKOUT. -/
theorem Safe.of_onBridge {b : Index} {s t : State} (h : OnBridge b s t)
    (hlock : s.bridgeState b = .lockout → t.bridgeState b = .lockout) : Safe s t := by
  refine Safe.of_calm h.toCalm (coursesBounded_of_eq h.channels)
    (latchAgrees_of_lockout (by rw [h.trip]) (by rw [h.trip]) (by rw [h.trip]) (by rw [h.trip]) ?_)
  intro j hj
  by_cases hjb : j = b
  · exact hjb ▸ hlock (hjb ▸ hj)
  · simpa [State.bridgeState, h.bridges j hjb] using hj

/-- An action on a channel that keeps its queue within the limit. -/
theorem Safe.of_onChannel {c : Index} {s t : State} (h : OnChannel c s t)
    (hq : (s.channels.get c).queue.length ≤ Config.courseQueueMax →
      (t.channels.get c).queue.length ≤ Config.courseQueueMax) : Safe s t := by
  refine Safe.of_calm h.toCalm (fun hs j => ?_)
    (latchAgrees_of_lockout (by rw [h.trip]) (by rw [h.trip]) (by rw [h.trip]) (by rw [h.trip])
      (fun b hb => by simpa [State.bridgeState, h.bridges] using hb))
  by_cases hj : j = c
  · exact hj ▸ hq (hs c)
  · rw [h.channels j hj]
    exact hs j

theorem Safe.of_onRecorder {s t : State} (h : OnRecorder s t) : Safe s t :=
  Safe.of_calm h.toCalm (coursesBounded_of_eq h.channels)
    (latchAgrees_of_lockout (by rw [h.trip]) (by rw [h.trip]) (by rw [h.trip]) (by rw [h.trip])
      (fun b hb => by simpa [State.bridgeState, h.bridges] using hb))

/-! ### Plain updates -/

theorem safe_raise (s : State) (e : Event) : Safe s (s.raise e) := Safe.of_onRecorder (onRecorder_raise s e)

theorem safe_trigger (s : State) (x : TriggerSource) : Safe s (s.trigger x) :=
  Safe.of_onRecorder (onRecorder_trigger s x)

theorem safe_mapRecorder (s : State) (f : Recorder → Recorder) : Safe s (s.mapRecorder f) :=
  Safe.of_onRecorder (onRecorder_mapRecorder s f)

theorem safe_mapMonitor (s : State) (f : Monitor → Monitor)
    (hl : (f s.monitor).lowTable = s.monitor.lowTable)
    (hh : (f s.monitor).highTable = s.monitor.highTable) : Safe s (s.mapMonitor f) :=
  Safe.of_calm (calm_mapMonitor s f hl hh) id id

theorem safe_mapChannel (s : State) (c : Index) (f : Channel → Channel)
    (hq : (s.channels.get c).queue.length ≤ Config.courseQueueMax →
      (f (s.channels.get c)).queue.length ≤ Config.courseQueueMax) : Safe s (s.mapChannel c f) :=
  Safe.of_onChannel (onChannel_mapChannel s c f) (by simpa using hq)

/-- A period within the range (R22). -/
def PeriodFits (p : Nat) : Prop := Config.periodMin ≤ p ∧ p ≤ Config.periodMax

theorem safe_mapSync (s : State) (f : Sync → Sync)
    (hp : s.periodBounded → PeriodFits (f s.sync).period) :
    Safe s (s.mapSync f) := Safe.of_steady (steady_mapSync s f) hp id id

/-- A change of the trip unit beside the latch, its first cause, its set and the line. -/
theorem safe_mapTrip (s : State) (f : Trip → Trip) (hl : (f s.trip).latched = s.trip.latched)
    (hf : (f s.trip).firstOut = s.trip.firstOut) (hc : (f s.trip).causes = s.trip.causes)
    (hb : (f s.trip).breakerTrip = s.trip.breakerTrip) : Safe s (s.mapTrip f) :=
  Safe.of_calm (calm_mapTrip s f) id (latchAgrees_of_lockout hl hf hc hb (fun _ => id))

theorem safe_time (s : State) (d : Nat) : Safe s (s.runFor d) :=
  Safe.of_same ⟨id, id, id, id, id⟩ rfl

theorem safe_mapScanner (s : State) (f : Scanner → Scanner) : Safe s (s.mapScanner f) :=
  Safe.of_same ⟨id, id, id, id, id⟩ rfl

/-! ### Bridges -/

theorem safe_clearHeld (s : State) (b : Index) (c : HeldCause) : Safe s (s.clearHeld b c) :=
  Safe.of_onBridge (onBridge_clearHeld s b c) fun h => by simp [State.clearHeld, h]

theorem safe_stopBridge (s : State) (b : Index) : Safe s (s.stopBridge b) :=
  Safe.of_onBridge (onBridge_stopBridge s b) fun h => by simp [State.stopBridge, h]

theorem safe_holdRequestOn (s : State) (b : Index) : Safe s (s.holdRequestOn b) :=
  Safe.of_onBridge (onBridge_holdRequestOn s b) fun h => by simp [State.holdRequestOn, h]

theorem safe_breakerOpens (s : State) (b : Index) : Safe s (s.breakerOpens b) :=
  Safe.of_onBridge (onBridge_breakerOpens s b) fun h => by simp [State.breakerOpens, h]

theorem safe_phaseLost (s : State) (b : Index) : Safe s (s.phaseLost b) :=
  Safe.of_onBridge (onBridge_phaseLost s b) fun h => by simp [State.phaseLost, h]

theorem safe_coastBegins (s : State) (b : Index) : Safe s (s.coastBegins b) :=
  Safe.of_onBridge (onBridge_coastBegins s b) fun h => by simp [State.coastBegins, h]

theorem safe_reanchorStep (s : State) (b : Index) (old new : Nat) (d : Int) :
    Safe s (s.reanchorStep b old new d) :=
  Safe.of_onBridge (onBridge_reanchorStep s b old new d) fun h => by
    simp only [State.reanchorStep, h]
    repeat' split
    all_goals exact h

theorem safe_accumulate (s : State) (b : Index) : Safe s (s.accumulate b) :=
  Safe.of_onBridge (onBridge_accumulate s b) fun h => by simp [State.accumulate, h]

theorem safe_dueReached (s : State) (b : Index) : Safe s (s.dueReached b) :=
  Safe.of_onBridge (onBridge_dueReached s b) fun h => by
    unfold State.dueReached
    rw [h]
    split <;> exact h

theorem safe_correctionFiring (s : State) (b : Index) (old new : Nat) :
    Safe s (s.correctionFiring b old new) := by
  unfold State.correctionFiring
  repeat' split
  · exact Safe.refl s
  · exact safe_dueReached s b
  · exact Safe.refl s

theorem safe_bridgeTurn (s : State) (b : Index) (x : Bool) : Safe s (s.bridgeTurn b x) :=
  Safe.of_onBridge (onBridge_bridgeTurn s b x) fun h => by simp [State.bridgeTurn, h]

/-! ### Channels -/

theorem advanceHead_queue (k : Channel) (iMax : Nat) (calm : Bool) :
    (k.advanceHead iMax calm).queue = k.queue := by
  unfold Channel.advanceHead
  repeat' first | rfl | split
  all_goals dsimp only
  all_goals repeat' first | rfl | split

theorem setChannelState_queue (s : State) (c j : Index) (x : ChannelState) :
    ((s.setChannelState c x).channels.get j).queue = (s.channels.get j).queue := by
  unfold State.setChannelState State.channelEvent
  split
  · rfl
  · by_cases h : c = j <;> simp [Four.get_set, h]

theorem completeHead_queue (s : State) (c : Index) :
    ((s.completeHead c).channels.get c).queue = (s.channels.get c).queue.tail := by
  unfold State.completeHead
  split
  case h_1 h => simp [h]
  case h_2 p rest h =>
    dsimp only
    cases p.tag <;> dsimp only <;> split <;> simp [setChannelState_queue, h]

theorem safe_setChannelState (s : State) (c : Index) (x : ChannelState) :
    Safe s (s.setChannelState c x) :=
  Safe.of_onChannel (onChannel_setChannelState s c x) (by rw [setChannelState_queue]; exact id)

theorem safe_flushChannel (s : State) (c : Index) : Safe s (s.flushChannel c) := by
  unfold State.flushChannel
  split
  · exact Safe.refl s
  · exact (safe_mapChannel s c _ fun _ => Nat.zero_le _).trans (safe_setChannelState _ c _)

theorem safe_completeHead (s : State) (c : Index) : Safe s (s.completeHead c) :=
  Safe.of_onChannel (onChannel_completeHead s c) fun h => by
    rw [completeHead_queue, List.length_tail]
    omega

theorem safe_advance (s : State) (c : Index) : Safe s (s.advance c) := by
  have h : Safe s (s.mapChannel c fun _ =>
      (s.channels.get c).advanceHead (s.settings.iMax.get c) s.calmTick) :=
    safe_mapChannel s c _ (by rw [advanceHead_queue]; exact id)
  unfold State.advance
  dsimp only
  split
  · exact h.trans (safe_completeHead _ c)
  · exact h

theorem safe_foldTick (s : State) (c : Index) : Safe s (s.foldTick c) := by
  unfold State.foldTick
  exact safe_mapChannel s c _ id

theorem safe_channelTick (s : State) (adv : Index → Bool) (c : Index) :
    Safe s (s.channelTick adv c) := by
  unfold State.channelTick
  dsimp only
  split
  · exact (safe_foldTick s c).trans (safe_setChannelState _ c _)
  · split
    · exact (safe_foldTick s c).trans (safe_advance _ c)
    · exact safe_foldTick s c

theorem safe_park (s : State) (c : Index) : Safe s (s.park c) :=
  (((safe_mapChannel s c _ fun _ => Nat.zero_le _).trans (safe_setChannelState _ c _)).trans
    (safe_stopBridge _ c)).trans (safe_mapChannel _ c _ id)

theorem safe_lowLoadTick (s : State) (c : Index) : Safe s (s.lowLoadTick c) := by
  unfold State.lowLoadTick
  dsimp only
  repeat' split
  · exact safe_park s c
  · exact safe_mapChannel s c _ id
  · exact safe_mapChannel s c _ id

theorem safe_barrierTest (s : State) (adv : Index → Bool) : Safe s (s.barrierTest adv) := by
  unfold State.barrierTest
  refine safe_forAll _ _ _ fun i t => ?_
  split
  · exact safe_completeHead t i
  · exact Safe.refl t

theorem safe_channelsTick (s : State) : Safe s s.channelsTick :=
  ((safe_forAll s _ _ (fun c t => safe_channelTick t _ c)).trans (safe_barrierTest _ _)).trans
    (safe_forAll _ _ _ (fun c t => safe_lowLoadTick t c))

theorem safe_superviseChannel (s : State) (c : Index) : Safe s (s.superviseChannel c) := by
  unfold State.superviseChannel
  split
  · refine (safe_mapChannel s c _ fun _ => ?_).trans (safe_raise _ _)
    change 1 ≤ Config.courseQueueMax
    decide
  · exact Safe.refl s

/-! ### Trips -/

theorem latchAgrees_of_showsTrip {s : State} {c : TripCause} (h : s.showsTrip c) : s.latchAgrees := by
  obtain ⟨hlat, hfirst, hcauses, hline, hbridges, -⟩ := h
  refine ⟨fun _ => ⟨hline, ⟨c, hfirst, ?_⟩, fun b => (hbridges b).1⟩, fun h => ?_⟩
  · rw [hcauses]
    exact hasBit_addBit_cause 0 c
  · rw [hlat] at h
    exact absurd h (by decide)

theorem safe_latchTrip (s : State) (c : TripCause) : Safe s (s.latchTrip c) :=
  Safe.of_calm (calm_latchTrip s c)
    (fun _ j => by rw [latchTrip_channel]; exact Nat.zero_le _)
    (fun _ => latchAgrees_of_showsTrip (latchTrip_showsTrip s c))

/-- A cause that joins the set of a latched trip leaves the first cause in it. -/
theorem safe_joinCause (s : State) (c : TripCause) (h : s.trip.latched = true) :
    Safe s (s.mapTrip (fun x => { x with causes := addBit x.causes c.bit })) := by
  refine Safe.of_calm (calm_mapTrip s _) id fun ha => ⟨fun _ => ?_, fun hn => ?_⟩
  · obtain ⟨hline, ⟨d, hd, hin⟩, hlock⟩ := ha.1 h
    exact ⟨hline, ⟨d, hd, hasBit_addBit_of_hasBit _ _ _ hin⟩, hlock⟩
  · exact absurd (hn.symm.trans h) (by decide)

theorem safe_tripEvent (s : State) : Safe s s.tripEvent := Safe.of_onRecorder (onRecorder_tripEvent s)

theorem safe_raiseCause (s : State) (c : TripCause) : Safe s (s.raiseCause c) := by
  unfold State.raiseCause
  split
  case isTrue h =>
    split
    · exact Safe.refl s
    · exact (safe_joinCause s c h).trans (safe_tripEvent _)
  case isFalse h => exact safe_latchTrip s c

theorem safe_overcurrentScan (s : State) (b : Index) : Safe s (s.overcurrentScan b) := by
  unfold State.overcurrentScan
  dsimp only
  split
  · exact (safe_mapTrip s _ rfl rfl rfl rfl).trans (safe_raiseCause _ _)
  · exact safe_mapTrip s _ rfl rfl rfl rfl

theorem safe_overvoltageScan (s : State) (c : Index) : Safe s (s.overvoltageScan c) := by
  unfold State.overvoltageScan
  dsimp only
  split
  · exact (safe_mapChannel s c _ id).trans (safe_raiseCause _ _)
  · exact safe_mapChannel s c _ id

theorem safe_externalHigh (s : State) : Safe s s.externalHigh := by
  unfold State.externalHigh
  split
  · exact Safe.refl s
  · exact (safe_mapTrip s _ rfl rfl rfl rfl).trans (safe_raiseCause _ _)

theorem clearTrip_parts (s : State) :
    OnBridges
      ((s.mapTrip (fun x =>
        { x with causes := 0, latched := false, breakerTrip := false, overcurrentScans := .fill 0 })).mapMonitor
        Monitor.excursionCleared) s.clearTrip :=
  onBridges_forAll _ _ _ fun b t => onBridge_unlockBridge t b

theorem safe_clearTrip (s : State) : Safe s s.clearTrip := by
  have h := clearTrip_parts s
  refine Safe.of_calm (calm_clearTrip s) (coursesBounded_of_eq h.channels) fun _ => ?_
  unfold State.latchAgrees
  rw [h.trip]
  exact ⟨fun h => Bool.noConfusion h, fun _ => ⟨rfl, rfl⟩⟩

theorem safe_timeRetard (s : State) (b : Index) : Safe s (s.timeRetard b) := by
  unfold State.timeRetard
  split
  · exact safe_raiseCause s _
  · exact Safe.refl s

theorem safe_firingTurn (s : State) (order : List Index) (x : Index → Bool) :
    Safe s (s.firingTurn order x) :=
  (safe_forAll _ _ _ (fun b t => safe_bridgeTurn t b _)).trans
    (safe_forAll _ _ _ (fun b t => safe_timeRetard t b))

/-! ### The monitor -/

theorem safe_breach (s : State) (c : TripCause) (x : Bool) : Safe s (s.breach c x) := by
  unfold State.breach
  repeat' split
  · exact Safe.refl s
  · exact (safe_raiseCause s c).trans (safe_mapMonitor _ _ rfl rfl)
  · exact Safe.refl s

theorem safe_episodeEvent (s : State) (x : Bool) : Safe s (s.episodeEvent x) := by
  unfold State.episodeEvent
  split
  · exact Safe.refl s
  · exact safe_raise s _

theorem safe_turnHoldOn (s : State) : Safe s s.turnHoldOn :=
  (safe_mapMonitor s _ rfl rfl).trans (safe_forAll _ _ _ (fun b t => safe_holdRequestOn t b))

theorem safe_turnHoldOff (s : State) : Safe s s.turnHoldOff := by
  unfold State.turnHoldOff
  split
  · exact (safe_mapMonitor s _ rfl rfl).trans (safe_forAll _ _ _ (fun b t => safe_clearHeld t b _))
  · exact Safe.refl s

theorem safe_updateHold (s : State) : Safe s s.updateHold := by
  unfold State.updateHold
  repeat' split
  · exact safe_turnHoldOff s
  · exact Safe.refl s
  · exact safe_turnHoldOn s
  · exact Safe.refl s

theorem safe_listStart (s : State) : Safe s s.listStart := by
  unfold State.listStart
  dsimp only
  split
  · exact (safe_raiseCause s _).trans (safe_mapMonitor _ _ rfl rfl)
  · exact safe_mapMonitor s _ rfl rfl

theorem safe_startEpisode (s : State) (k : EpisodeKind) (r : Bool) : Safe s (s.startEpisode k r) := by
  unfold State.startEpisode
  dsimp only
  have h := safe_mapMonitor s
    (fun m => { m with
      episode := some (s.newEpisode k r), elapsedTime := 0, recoveryTimer := 0,
      state := k.state }) rfl rfl
  cases k
  · exact ((h.trans (safe_mapMonitor _ _ rfl rfl)).trans (safe_trigger _ _)).trans
      (safe_episodeEvent _ _)
  · exact (h.trans (safe_trigger _ _)).trans (safe_episodeEvent _ _)

theorem safe_endEpisode (s : State) : Safe s s.endEpisode :=
  (safe_mapMonitor s _ rfl rfl).trans (safe_episodeEvent _ _)

theorem safe_recoveryScan (s : State) : Safe s s.recoveryScan := by
  unfold State.recoveryScan
  repeat' split
  · exact safe_endEpisode s
  · exact Safe.refl s
  · exact safe_mapMonitor s _ rfl rfl

theorem safe_enterRecovering (s : State) : Safe s s.enterRecovering :=
  (safe_mapMonitor s _ rfl rfl).trans (safe_turnHoldOff _)

theorem safe_recoverFrom (s : State) (k : EpisodeKind) : Safe s (s.recoverFrom k) := by
  unfold State.recoverFrom
  cases k <;> dsimp only <;> split
  case low.isTrue | high.isTrue => exact safe_enterRecovering s
  case low.isFalse | high.isFalse => exact Safe.refl s

theorem safe_recoveryAtEntry (s : State) : Safe s s.recoveryAtEntry := by
  unfold State.recoveryAtEntry
  split
  · exact safe_recoveryScan s
  · exact Safe.refl s

theorem safe_testLimit (s : State) (k : EpisodeKind) : Safe s (s.testLimit k) := by
  unfold State.testLimit
  split <;> exact safe_breach s _ _

theorem safe_testLastLevel (s : State) (k : EpisodeKind) : Safe s (s.testLastLevel k) := by
  unfold State.testLastLevel
  split <;> exact safe_breach s _ _

theorem safe_supersede (s : State) : Safe s s.supersede :=
  (safe_mapMonitor s _ rfl rfl).trans (safe_episodeEvent _ _)

/-- Every step of a list is safe. -/
def SafeSteps (l : List (State → State)) : Prop := ∀ f ∈ l, ∀ t, Safe t (f t)

theorem safeSteps_nil : SafeSteps [] := fun _ h => absurd h List.not_mem_nil

theorem safeSteps_cons {f : State → State} {l : List (State → State)} (hf : ∀ t, Safe t (f t))
    (hl : SafeSteps l) : SafeSteps (f :: l) := List.forall_mem_cons.mpr ⟨hf, hl⟩

theorem safe_noteLevel (s : State) : Safe s s.noteLevel := safe_mapMonitor s _ rfl rfl

theorem safeSteps_scanSteps (k : EpisodeKind) : SafeSteps (scanSteps k) := by
  cases k
  · exact safeSteps_cons safe_noteLevel (safeSteps_cons (safe_testLimit · _)
      (safeSteps_cons safe_updateHold (safeSteps_cons (safe_recoverFrom · _)
        (safeSteps_cons safe_recoveryAtEntry safeSteps_nil))))
  · exact safeSteps_cons safe_noteLevel (safeSteps_cons (safe_testLimit · _)
      (safeSteps_cons (safe_recoverFrom · _) (safeSteps_cons safe_recoveryAtEntry safeSteps_nil)))

theorem safeSteps_openingSteps (s : State) (k : EpisodeKind) : SafeSteps (s.openingSteps k) :=
  safeSteps_cons safe_listStart
    (safeSteps_cons (safe_startEpisode · k _) (safeSteps_scanSteps k))

theorem safeSteps_monitorSteps (s : State) : SafeSteps s.monitorSteps := by
  unfold State.monitorSteps
  split
  · split
    · exact safeSteps_openingSteps s _
    · exact safeSteps_nil
  · exact safeSteps_scanSteps _
  · exact safeSteps_scanSteps _
  · split
    · exact safeSteps_cons safe_supersede (safeSteps_openingSteps s _)
    · exact safeSteps_cons safe_recoveryScan safeSteps_nil
  · exact safeSteps_cons safe_noteLevel (safeSteps_cons (safe_testLastLevel · _)
      (safeSteps_cons (safe_testLastLevel · _) (safeSteps_cons safe_recoveryScan safeSteps_nil)))

theorem safeSteps_shareSteps (s : State) (x : ScanShare) : SafeSteps (s.shareSteps x) := by
  cases x
  · exact safeSteps_monitorSteps s
  · exact safeSteps_cons (fun t => safe_forAll t _ _ (fun b u => safe_accumulate u b)) safeSteps_nil
  · exact List.forall_mem_map.mpr (fun b _ t => safe_overcurrentScan t b)
  · exact List.forall_mem_map.mpr (fun c _ t => safe_overvoltageScan t c)

theorem safe_recorderShare (s : State) (k : Nat) : Safe s (s.recorderShare k) :=
  Safe.of_onRecorder (onRecorder_recorderShare s k)

theorem safe_takeScan (s : State) (x : Samples) (k : Nat) : Safe s (s.takeScan x k) := by
  have hcomplete : Safe s (s.completeScan x) := Safe.of_same ⟨id, id, id, id, id⟩ rfl
  exact hcomplete.trans (actOnScan_keeps _ k
    (fun y f hf t ht => ht.trans (safeSteps_shareSteps _ y f hf t))
    (fun t j ht => ht.trans (safe_recorderShare t j)) (Safe.refl _))

/-! ### The millisecond tick -/

theorem safe_enterLong (s : State) : Safe s s.enterLong :=
  (safe_mapMonitor s _ rfl rfl).trans (safe_turnHoldOff _)

theorem safe_elapsedTick (s : State) : Safe s s.elapsedTick := by
  unfold State.elapsedTick
  dsimp only
  split
  · exact (safe_mapMonitor s _ rfl rfl).trans (safe_enterLong _)
  · exact safe_mapMonitor s _ rfl rfl

theorem safe_recoveryTick (s : State) : Safe s s.recoveryTick := by
  unfold State.recoveryTick
  dsimp only
  repeat' split
  · exact (safe_mapMonitor s _ rfl rfl).trans (safe_endEpisode _)
  · exact safe_mapMonitor s _ rfl rfl
  · exact Safe.refl s

theorem safe_episodeTick (s : State) : Safe s s.episodeTick := by
  have h : Safe s (s.mapMonitor Monitor.agesTick).capsTick :=
    (safe_mapMonitor s Monitor.agesTick rfl rfl).trans (safe_mapMonitor _ _ rfl rfl)
  unfold State.episodeTick
  dsimp only
  split
  · exact h
  · exact h.trans (safe_elapsedTick _)
  · exact h.trans (safe_elapsedTick _)
  · exact h.trans (safe_recoveryTick _)
  · exact h.trans (safe_recoveryTick _)

theorem safe_frequencyTick (s : State) : Safe s s.frequencyTick := by
  unfold State.frequencyTick
  dsimp only
  repeat' split
  · exact safe_mapMonitor s _ rfl rfl
  · exact Safe.refl s
  · exact ((safe_mapMonitor s _ rfl rfl).trans (safe_raiseCause _ _)).trans
      (safe_mapMonitor _ _ rfl rfl)
  · exact safe_mapMonitor s _ rfl rfl
  · exact safe_mapMonitor s _ rfl rfl

theorem safe_authority (s : State) (l : Link) (n : Nat) :
    Safe s { s with holder := l, watchdog := n } := Safe.of_same ⟨id, id, id, id, id⟩ rfl

theorem safe_giveAuthority (s : State) (l : Link) : Safe s (s.giveAuthority l) :=
  (safe_authority s l 0).trans (safe_raise _ _)

theorem safe_expireWatchdog (s : State) : Safe s s.expireWatchdog := by
  unfold State.expireWatchdog
  split
  · exact safe_giveAuthority s _
  · exact ((safe_authority s s.holder 0).trans (safe_raise _ _)).trans
      (safe_forAll _ _ _ (fun c t => safe_superviseChannel t c))

theorem safe_watchdogTick (s : State) : Safe s s.watchdogTick := by
  unfold State.watchdogTick
  repeat' split
  · exact safe_authority s s.holder 0
  · exact safe_expireWatchdog s
  · exact safe_authority s s.holder _

theorem safe_tickShare (s : State) (x : TickShare) : Safe s (s.tickShare x) := by
  cases x
  · exact safe_episodeTick s
  · exact safe_frequencyTick s
  · exact safe_channelsTick s
  · exact safe_watchdogTick s

theorem safe_takeMillisecond (s : State) (k : Nat) : Safe s (s.takeMillisecond k) :=
  Safe.trans (t := s.reachMillisecond) (Safe.of_same ⟨id, id, id, id, id⟩ rfl) (safe_foldl _ _ _ safe_tickShare)

/-! ### The synchroniser -/

theorem nominalPeriod_fits (st : Settings) : PeriodFits st.nominalPeriod := by
  unfold Settings.nominalPeriod PeriodFits
  split <;> decide

theorem clampPeriod_fits (p : Int) : PeriodFits (clampPeriod p) := by
  unfold PeriodFits clampPeriod clampInt Config.periodMin Config.periodMax
  omega

theorem periodInRange_iff (p : Nat) : periodInRange p = true ↔ PeriodFits p := by
  simp [periodInRange, PeriodFits]

theorem averagePeriod_fits {p q : Nat} (hp : PeriodFits p) (hq : PeriodFits q) :
    PeriodFits (roundNat (p + q) 2) := by
  unfold PeriodFits Config.periodMin Config.periodMax at *
  unfold roundNat
  omega

theorem acquire_fits (y : Sync) (st : Settings) (a : Arrival) (h : PeriodFits y.period) :
    PeriodFits (y.acquire st a).period := by
  unfold Sync.acquire
  split
  · dsimp only
    split
    case isTrue hest =>
      rw [periodInRange_iff] at hest
      split
      · unfold Sync.goodAcquisition
        dsimp only
        split <;> exact averagePeriod_fits h hest
      · exact hest
    case isFalse => exact h
  · exact nominalPeriod_fits st

theorem safe_syncEvent (s : State) (old : SyncState) (d : Option Int) : Safe s (s.syncEvent old d) := by
  unfold State.syncEvent
  dsimp only
  have h : Safe s ((if old = .locked ∧ s.sync.state ≠ .locked then s.trigger .syncLeftLocked
      else s).raise (.sync s.sync.state d)) := by
    refine Safe.trans ?_ (safe_raise _ _)
    split
    · exact safe_trigger s _
    · exact Safe.refl s
  split
  · exact (h.trans (safe_mapMonitor _ _ rfl rfl)).trans (safe_forAll _ _ _ fun b t => safe_phaseLost t b)
  · exact (h.trans (safe_mapMonitor _ _ rfl rfl)).trans (safe_forAll _ _ _ fun b t => safe_phaseLost t b)
  · split
    · exact h.trans (safe_forAll _ _ _ fun b t => safe_coastBegins t b)
    · exact h
  · exact h

theorem safe_restartSync (s : State) : Safe s s.restartSync :=
  (safe_mapSync s _ fun _ => nominalPeriod_fits s.settings).trans (safe_syncEvent _ _ _)

theorem safe_syncTurn (s : State) : Safe s s.syncTurn := by
  unfold State.syncTurn
  dsimp only
  repeat' split
  · exact (safe_mapSync s _ id).trans (safe_syncEvent _ _ _)
  · exact safe_mapSync s _ id
  · exact Safe.refl s

theorem safe_turnShare (s : State) (order : List Index) (x : TurnShare) :
    Safe s (s.turnShare order x) := by
  cases x
  · exact safe_syncTurn s
  · exact safe_firingTurn s order _

/-- Running on to an angle or a turn boundary is letting some ticks pass. -/
theorem runToAngle_eq (s : State) (angle : Nat) : ∃ d, s.runToAngle angle = s.runFor d := by
  unfold State.runToAngle
  dsimp only
  repeat' split
  · exact ⟨0, rfl⟩
  · exact ⟨0, rfl⟩
  · exact ⟨_, rfl⟩

theorem runToTurn_eq (s : State) : ∃ d, s.runToTurn = s.runFor d := by
  unfold State.runToTurn
  dsimp only
  repeat' split
  · exact ⟨0, rfl⟩
  · exact ⟨0, rfl⟩
  · exact ⟨_, rfl⟩

theorem runTo_eq (s : State) (x : Nat) : s.runTo x = s.runFor (x - s.elapsed) := by
  unfold State.runTo State.runFor
  rw [show max s.elapsed x = s.elapsed + (x - s.elapsed) by omega]

theorem runToTick_eq (s : State) (t : Tick) : ∃ d, s.runToTick t = s.runFor d := by
  unfold State.runToTick
  dsimp only
  split
  · exact ⟨_, rfl⟩
  · exact ⟨0, rfl⟩

theorem safe_runToAngle (s : State) (angle : Nat) : Safe s (s.runToAngle angle) := by
  obtain ⟨d, hd⟩ := runToAngle_eq s angle
  exact hd ▸ safe_time s d

theorem safe_takeTurn (s : State) (k : Nat) : Safe s (s.takeTurn k) := by
  unfold State.takeTurn
  split
  · obtain ⟨d, hd⟩ := runToTurn_eq s
    rw [hd]
    exact ((safe_time s d).trans (safe_mapSync _ _ id)).trans
      (safe_foldl _ _ _ fun t x => safe_turnShare t _ x)
  · exact Safe.refl s

theorem safe_stepShare (s : State) (order : List Index) (old new : Nat) (d : Int) (x : StepShare) :
    Safe s (s.stepShare order old new d x) := by
  cases x <;> unfold State.stepShare <;> dsimp only <;> split
  · exact safe_forAll _ _ _ fun b t => safe_correctionFiring t b _ _
  · exact Safe.refl s
  · exact safe_firingTurn s _ _
  · exact Safe.refl s

theorem safe_correctionStep (s : State) (k old new : Nat) : Safe s (s.correctionStep k old new) :=
  safe_foldl s _ _ fun t x => safe_stepShare t _ _ _ _ x

theorem safe_reanchorStepAll (s : State) (k old new : Nat) (d : Int) :
    Safe s (s.reanchorStepAll k old new d) := by
  have h := safe_forAll s (bridgeOrder (k / 2)) (fun b t => t.reanchorStep b old new d)
    (fun b t => safe_reanchorStep t b _ _ _)
  unfold State.reanchorStepAll
  dsimp only
  split
  · exact h.trans (safe_firingTurn _ _ _)
  · exact h

theorem chained_period (y : Sync) (st : Settings) (a : Arrival) :
    (y.chained st a).period = y.period := by
  unfold Sync.chained
  split
  · rfl
  · split <;> rfl

theorem safe_arriveLocked (s : State) (k : Nat) (a : Arrival) : Safe s (s.arriveLocked k a) := by
  unfold State.arriveLocked
  split
  · split
    · exact (safe_mapSync s _ fun _ => clampPeriod_fits _).trans (safe_correctionStep _ _ _ _)
    · exact safe_mapSync s _ id
  · exact safe_mapSync s _ id

theorem safe_arriveCoast (s : State) (k : Nat) (a : Arrival) : Safe s (s.arriveCoast k a) := by
  have h : Safe s (s.mapSync (fun y => y.chained s.settings a)) :=
    safe_mapSync s _ (by rw [chained_period]; exact id)
  unfold State.arriveCoast
  dsimp only
  repeat' split
  · exact h
  · exact ((safe_mapSync s _ id).trans (safe_reanchorStepAll _ _ _ _ _)).trans (safe_syncEvent _ _ _)
  · exact h

theorem safe_arrive (s : State) (k : Nat) (a : Arrival) : Safe s (s.arrive k a) := by
  unfold State.arrive
  split
  · have h : Safe s (s.mapSync (fun y => y.acquire s.settings a)) :=
      safe_mapSync s _ fun hp => acquire_fits _ _ _ hp
    unfold State.arriveAcquiring
    dsimp only
    split
    · exact h.trans (safe_syncEvent _ _ _)
    · exact h
  · exact safe_arriveLocked s k a
  · exact safe_arriveCoast s k a
  · exact (safe_mapSync s _ fun _ => nominalPeriod_fits _).trans (safe_syncEvent _ _ _)

theorem safe_edge (s : State) (line : Line) (rising : Bool) (k : Nat) :
    Safe s (s.edge line rising k) := by
  unfold State.edge
  dsimp only
  repeat' split
  · exact (safe_mapScanner s _).trans (safe_mapScanner _ _)
  · exact ((safe_mapScanner s _).trans (safe_mapScanner _ _)).trans (safe_mapScanner _ _)
  · exact ((safe_mapScanner s _).trans (safe_mapScanner _ _)).trans (safe_arrive _ _ _)

theorem safe_openWindow (s : State) : Safe s s.openWindow := by
  unfold State.openWindow
  repeat' split
  · exact (safe_runToAngle s _).trans (safe_mapSync _ _ id)
  · exact Safe.refl s
  · exact Safe.refl s

theorem safe_enterCoast (s : State) : Safe s s.enterCoast :=
  (safe_mapSync s _ id).trans (safe_syncEvent _ _ _)

theorem safe_closeWindow (s : State) : Safe s s.closeWindow := by
  unfold State.closeWindow
  dsimp only
  repeat' split
  · exact (safe_runToAngle s _).trans (safe_enterCoast _)
  · exact (safe_runToAngle s _).trans (safe_mapSync _ _ id)
  · exact (safe_runToAngle s _).trans (safe_mapSync _ _ id)
  · exact Safe.refl s
  · exact Safe.refl s

theorem safe_giveUpAnchor (s : State) : Safe s s.giveUpAnchor := by
  unfold State.giveUpAnchor
  repeat' split
  · exact (safe_time s _).trans (safe_mapSync _ _ id)
  · exact Safe.refl s
  · exact Safe.refl s

theorem safe_expireEdge (s : State) (line : Line) : Safe s (s.expireEdge line) := by
  unfold State.expireEdge
  split
  · exact Safe.refl s
  · exact (safe_time s _).trans (safe_mapScanner _ _)

theorem safe_fireNext (s : State) (b : Index) : Safe s (s.fireNext b) := by
  unfold State.fireNext
  split
  · exact Safe.refl s
  · exact (safe_runToAngle s _).trans (safe_dueReached _ b)

theorem safe_expirePulse (s : State) (b : Index) : Safe s (s.expirePulse b) := by
  unfold State.expirePulse
  split
  · exact Safe.refl s
  · obtain ⟨d, hd⟩ := runToTick_eq s _
    rw [hd]
    exact (safe_time s d).trans
      (Safe.of_onBridge (onBridge_mapBridge _ b _) (by simp [State.bridgeState]))

end Sys2Proof.Machine
end

section
/-! SUPPORT. A setting that is put reads back, and no other changes (R200, step 5). -/

namespace Sys2Proof.Machine

/-- A value in range lies between the range's ends (Table 10-3). -/
theorem bounds_of_inRange (x : Setting) (v : Int) (h : x.inRange v = true) :
    x.bounds.1 ≤ v ∧ v ≤ x.bounds.2 := by
  cases x
  case fNom =>
    have hv : v = 50 ∨ v = 60 := by simpa [Setting.inRange] using h
    change 50 ≤ v ∧ v ≤ 60
    omega
  case authTimeout =>
    have hv : v = 0 ∨ 100 ≤ v ∧ v ≤ 10000 := by simpa [Setting.inRange] using h
    change 0 ≤ v ∧ v ≤ 10000
    omega
  all_goals exact (Bool.and_eq_true_iff.mp h).imp of_decide_eq_true of_decide_eq_true

/-- The value put is the value in force, for every value of the setting's range. -/
theorem value_put_self (st : Settings) (x : Setting) (v : Int) (h : x.inRange v = true) :
    (st.put x v).value x = v := by
  have hb := bounds_of_inRange x v h
  cases x
  case fNom =>
    have hv : v = 50 ∨ v = 60 := by simpa [Setting.inRange] using h
    obtain rfl | rfl := hv <;> rfl
  case crossSet | feedFwd =>
    simp only [Setting.bounds] at hb
    obtain rfl | rfl : v = 0 ∨ v = 1 := by omega
    all_goals rfl
  case recTriggers =>
    simp only [Setting.bounds] at hb
    simp only [Settings.put, Settings.value, BitVec.toNat_ofNat]
    omega
  all_goals
    simp only [Setting.bounds] at hb
    simp only [Settings.put, Settings.value, Four.get_set_self]
    omega

/-- Each other setting keeps its value. -/
theorem value_put_of_ne (st : Settings) (x y : Setting) (v : Int) (h : x ≠ y) :
    (st.put x v).value y = st.value y := by
  cases x
  case cells i | shift i | iMax i | iTrip i | iMinLoad i | tLowLoad i =>
    cases y
    case cells j | shift j | iMax j | iTrip j | iMinLoad j | tLowLoad j =>
      first
        | rfl
        | exact congrArg Int.ofNat (Four.get_set_of_ne _ i j _ fun hij => h (hij ▸ rfl))
    all_goals rfl
  all_goals
    cases y
    all_goals first | rfl | exact absurd rfl h

/-- Every setting in range, and one put within its range, leaves every setting in range. -/
theorem inRange_put (st : Settings) (x : Setting) (v : Int) (hv : x.inRange v = true)
    (h : ∀ y : Setting, y.inRange (st.value y) = true) (y : Setting) :
    y.inRange ((st.put x v).value y) = true := by
  by_cases hxy : x = y
  · rw [← hxy, value_put_self st x v hv]
    exact hv
  · rw [value_put_of_ne st x y v hxy]
    exact h y

end Sys2Proof.Machine
end

section
/-! SUPPORT. What the links and the requests keep, and so every command: `exec_safe`. -/

namespace Sys2Proof.Machine

/-! ### The lines of the links -/

/-- A link's update by which neither queue grows. -/
def LinkState.NotLonger (k k' : LinkState) : Prop :=
  k'.replies.length ≤ k.replies.length ∧ k'.notices.length ≤ k.notices.length

theorem LinkState.NotLonger.refl (k : LinkState) : k.NotLonger k := ⟨le_rfl, le_rfl⟩

/-- An action on one link by which neither of its queues grows. -/
theorem safe_mapLink (s : State) (l : Link) (f : LinkState → LinkState)
    (h : (s.links.get l).NotLonger (f (s.links.get l))) : Safe s (s.mapLink l f) := by
  refine ⟨⟨id, id, fun hs m => ?_, id, id⟩, fun m => ?_⟩
  all_goals
    unfold State.mapLink
    rw [Both.get_set]
    split
  · exact ⟨h.1.trans (hs l).1, h.2.trans (hs l).2⟩
  · exact hs m
  case refine_2.isTrue hm => exact hm ▸ h.1
  case refine_2.isFalse => exact le_rfl

/-- A notice offered joins a queue of fewer than 8, or none. -/
theorem offer_bounded (k : LinkState) (e : Event) (h : k.bounded) : (k.offer e).bounded := by
  unfold LinkState.offer
  split
  · split
    case isTrue hroom => exact ⟨h.1, by simpa using hroom⟩
    case isFalse => exact h
  · exact h

theorem offer_replies (k : LinkState) (e : Event) : (k.offer e).replies = k.replies := by
  unfold LinkState.offer
  repeat' split
  all_goals rfl

theorem offers_replies (evs : List Event) (k : LinkState) :
    (evs.foldl LinkState.offer k).replies = k.replies := by
  induction evs generalizing k with
  | nil => rfl
  | cons e rest ih => exact (ih (k.offer e)).trans (offer_replies k e)

theorem offers_bounded (evs : List Event) (k : LinkState) (h : k.bounded) :
    (evs.foldl LinkState.offer k).bounded := by
  induction evs generalizing k with
  | nil => exact h
  | cons e rest ih => exact ih (k.offer e) (offer_bounded k e h)

theorem safe_takeNotices (s : State) (k : Nat) : Safe s (s.takeNotices k) := by
  refine ⟨⟨id, id, fun hs l => ?_, id, id⟩, fun l => ?_⟩
  all_goals simp only [State.takeNotices, Both.get_map]
  · exact offers_bounded _ _ (hs l)
  · rw [offers_replies]

theorem safe_settle (s : State) (o : Schedule) : Safe s (s.settle o) :=
  (Safe.of_onRecorder (onRecorder_takeTriggers s _)).trans (safe_takeNotices _ _)

theorem safe_breakNow (s : State) (l : Link) : Safe s (s.breakNow l) :=
  safe_mapLink s l _ ⟨Nat.zero_le _, Nat.zero_le _⟩

theorem safe_runToTick (s : State) (t : Tick) : Safe s (s.runToTick t) := by
  obtain ⟨d, hd⟩ := runToTick_eq s t
  exact hd ▸ safe_time s d

theorem safe_detectBreak (s : State) (l : Link) (fell : Tick) : Safe s (s.detectBreak l fell) := by
  unfold State.detectBreak
  split
  · exact (safe_runToTick s _).trans (safe_breakNow _ l)
  · exact Safe.refl s
  · exact Safe.refl s

theorem safe_endBreak (s : State) (l : Link) : Safe s (s.endBreak l) := by
  unfold State.endBreak
  split
  · exact safe_mapLink s l _ ⟨le_rfl, le_rfl⟩
  · exact Safe.refl s

theorem startSending_notLonger (k : LinkState) (now : Nat) : k.NotLonger (k.startSending now) := by
  unfold LinkState.startSending LinkState.chosen LinkState.NotLonger
  split
  case h_1 h =>
    split at h
    case h_1 hk =>
      cases h
      simp [hk]
    case h_2 hk =>
      split at h
      case h_1 hn =>
        cases h
        simp [hn]
      case h_2 => cases h
  case h_2 => exact ⟨le_rfl, le_rfl⟩

theorem safe_endSending (s : State) (l : Link) : Safe s (s.endSending l) := by
  unfold State.endSending
  split
  · exact Safe.refl s
  · dsimp only
    split
    · rw [runTo_eq]
      exact (safe_time s _).trans (safe_mapLink _ l _ ⟨le_rfl, le_rfl⟩)
    · exact Safe.refl s

theorem safe_abandonSending (s : State) (l : Link) : Safe s (s.abandonSending l) := by
  unfold State.abandonSending
  split
  · rw [runTo_eq]
    exact (safe_time s _).trans (safe_mapLink _ l _ ⟨le_rfl, le_rfl⟩)
  · exact Safe.refl s

/-! ### The rules of the requests -/

theorem safe_applied (s : State) (old : Settings) (x : Setting) : Safe s (s.applied old x) := by
  unfold State.applied
  split
  case h_1 | h_2 =>
    split
    · exact Safe.refl s
    · exact safe_restartSync s
  case h_3 | h_4 | h_5 => exact safe_mapSync s _ id
  case h_6 => exact safe_mapMonitor s _ rfl rfl
  case h_7 => exact Safe.of_same ⟨id, id, id, id, id⟩ rfl
  case h_8 => exact safe_mapChannel s _ _ id
  case h_9 => exact safe_authority s s.holder 0
  case h_10 | h_11 => exact safe_mapRecorder s _
  case h_12 => exact Safe.refl s

/-- The thresholds in force bound the last levels of the tables (R201). -/
theorem lastLevels_of_consistent {st : Settings} {low high : List EnvelopePoint}
    (h : st.consistent low high = true) :
    lastLevel low ≤ st.dipStart ∧ st.swellStart ≤ lastLevel high := by
  unfold Settings.consistent at h
  simp only [Bool.and_eq_true, decide_eq_true_eq] at h
  exact ⟨h.1.2, h.2⟩

theorem validLow_of_lastLevel {d d' : Nat} {table : List EnvelopePoint}
    (h : validLow d table = true) (hd : lastLevel table ≤ d') : validLow d' table = true := by
  unfold validLow at h ⊢
  simp only [Bool.and_eq_true, decide_eq_true_eq] at h ⊢
  exact ⟨h.1, hd⟩

theorem validHigh_of_lastLevel {w w' : Nat} {table : List EnvelopePoint}
    (h : validHigh w table = true) (hw : w' ≤ lastLevel table) : validHigh w' table = true := by
  unfold validHigh at h ⊢
  simp only [Bool.and_eq_true, decide_eq_true_eq] at h ⊢
  exact ⟨h.1, hw⟩

/-- A value in range that meets the constraints keeps the settings and the tables valid (R200, R201). -/
theorem safe_setValue (s : State) (x : Setting) (v : Int) (hv : x.inRange v = true)
    (hc : (s.settings.put x v).consistent s.monitor.lowTable s.monitor.highTable = true) :
    Safe s (s.setValue x v) := by
  obtain ⟨hlow, hhigh⟩ := lastLevels_of_consistent hc
  have hput : Safe s { s with settings := s.settings.put x v } :=
    Safe.of_same ⟨fun ⟨hrange, _, hl, hh⟩ => ⟨inRange_put _ x v hv hrange, hc,
      validLow_of_lastLevel hl hlow, validHigh_of_lastLevel hh hhigh⟩, id, id, id, id⟩ rfl
  exact hput.trans (safe_applied _ _ x)

theorem safe_actSetSetting (s : State) (p : List Byte) : Safe s (s.actSetSetting p).state := by
  unfold State.actSetSetting
  dsimp only
  split
  · exact Safe.refl s
  · split
    · exact Safe.refl s
    · split
      · exact Safe.refl s
      · split
        · exact Safe.refl s
        case isFalse hv _ hc =>
          exact safe_setValue s _ _ (Bool.eq_true_of_not_eq_false hv)
            (Bool.eq_true_of_not_eq_false hc)

theorem validLow_lastLevel {d : Nat} {table : List EnvelopePoint} (h : validLow d table = true) :
    lastLevel table ≤ d := by
  unfold validLow at h
  simp only [Bool.and_eq_true, decide_eq_true_eq] at h
  exact h.2

theorem validHigh_lastLevel {w : Nat} {table : List EnvelopePoint} (h : validHigh w table = true) :
    w ≤ lastLevel table := by
  unfold validHigh at h
  simp only [Bool.and_eq_true, decide_eq_true_eq] at h
  exact h.2

/-- The constraints ask of a table only how its last level stands to its threshold (R201). -/
theorem consistent_of_lastLevels {st : Settings} {low high low' high' : List EnvelopePoint}
    (h : st.consistent low high = true) (hl : lastLevel low' ≤ st.dipStart)
    (hh : st.swellStart ≤ lastLevel high') : st.consistent low' high' = true := by
  unfold Settings.consistent at h ⊢
  simp only [Bool.and_eq_true, decide_eq_true_eq] at h ⊢
  exact ⟨⟨h.1.1, hl⟩, hh⟩

theorem safe_lowTable (s : State) (table : List EnvelopePoint)
    (h : validLow s.settings.dipStart table = true) :
    Safe s (s.mapMonitor (fun m => { m with lowTable := table })) :=
  Safe.of_same ⟨fun ⟨hrange, hc, _, hh⟩ =>
    ⟨hrange, consistent_of_lastLevels hc (validLow_lastLevel h) (validHigh_lastLevel hh), h, hh⟩,
    id, id, id, id⟩ rfl

theorem safe_highTable (s : State) (table : List EnvelopePoint)
    (h : validHigh s.settings.swellStart table = true) :
    Safe s (s.mapMonitor (fun m => { m with highTable := table })) :=
  Safe.of_same ⟨fun ⟨hrange, hc, hl, _⟩ =>
    ⟨hrange, consistent_of_lastLevels hc (validLow_lastLevel hl) (validHigh_lastLevel h), hl, h⟩,
    id, id, id, id⟩ rfl

theorem safe_actLoadEnvelope (s : State) (p : List Byte) : Safe s (s.actLoadEnvelope p).state := by
  unfold State.actLoadEnvelope
  dsimp only
  split
  · exact Safe.refl s
  · split
    case isTrue h => exact safe_lowTable s _ h.2
    case isFalse =>
      split
      case isTrue h => exact safe_highTable s _ h.2
      case isFalse => exact Safe.refl s

/-- A mask request whose effect on each accepted item is safe. -/
theorem safe_maskRequest (s : State) (mask : Byte) (judge : Index → Result)
    (effect : Index → State → State) (h : ∀ i t, judge i = .ok → Safe t (effect i t)) :
    Safe s (s.maskRequest mask judge effect).state := by
  unfold State.maskRequest
  split
  · exact Safe.refl s
  · refine safe_forAll _ _ _ fun i t => ?_
    split
    case isTrue hi =>
      simp only [Bool.and_eq_true, beq_iff_eq] at hi
      exact h i t hi.2
    case isFalse => exact Safe.refl t

theorem reseeded_queue (k : Channel) (iMax course : Nat) :
    (k.reseeded iMax course).queue = k.queue := by
  unfold Channel.reseeded
  dsimp only
  repeat' split
  all_goals rfl

theorem calm_deblockBridge (s : State) (b : Index) : Calm s (s.deblockBridge b) :=
  (((calm_mapBridge s b _).trans' (calm_preset _ b)).trans' (calm_reseed _ b)).trans' (calm_raise _ _)

theorem deblockBridge_queue (s : State) (b j : Index) :
    ((s.deblockBridge b).channels.get j).queue = (s.channels.get j).queue := by
  change (((s.channels.set b _).get j).queue) = _
  rw [Four.get_set]
  split
  case isTrue h =>
    rw [reseeded_queue]
    exact congrArg (fun i => (s.channels.get i).queue) h
  case isFalse => rfl

/-- A bridge is deblocked only with no trip latched. -/
theorem safe_deblockBridge (s : State) (b : Index) (h : s.trip.latched = false) :
    Safe s (s.deblockBridge b) := by
  refine Safe.of_calm (calm_deblockBridge s b) (fun hs j => ?_) fun ha => ⟨fun hn => ?_, fun _ => ?_⟩
  · rw [deblockBridge_queue]
    exact hs j
  · exact absurd (hn.symm.trans h) (by decide)
  · exact ha.2 h

theorem safe_actDeblock (s : State) (p : List Byte) : Safe s (s.actDeblock p).state := by
  by_cases h : s.trip.latched = false
  · have hkeep : ∀ (order : List Index) (f : Index → State → State),
        (∀ i t, t.trip.latched = false → Safe t (f i t) ∧ (f i t).trip.latched = false) →
        ∀ t : State, t.trip.latched = false → Safe t (t.forAll order f) := by
      intro order f hf
      induction order with
      | nil => exact fun t _ => Safe.refl t
      | cons i rest ih => exact fun t ht => (hf i t ht).1.trans (ih _ (hf i t ht).2)
    unfold State.actDeblock State.maskRequest
    split
    · exact Safe.refl s
    · refine hkeep _ _ (fun i t ht => ?_) s h
      split
      · exact ⟨safe_deblockBridge t i ht, ht⟩
      · exact ⟨Safe.refl t, ht⟩
  · refine safe_maskRequest s _ _ _ fun i t hi => ?_
    have hno : s.deblockPermitted i = false := by
      simp [State.deblockPermitted, Bool.eq_true_of_not_eq_false h]
    simp [Result.ofState, hno] at hi

theorem safe_actStop (s : State) (p : List Byte) : Safe s (s.actStop p).state :=
  safe_maskRequest s _ _ _ fun b t _ => safe_stopBridge t b

theorem safe_actFlush (s : State) (p : List Byte) : Safe s (s.actFlush p).state :=
  safe_maskRequest s _ _ _ fun c t _ => safe_flushChannel t c

theorem safe_actPause (s : State) (p : List Byte) : Safe s (s.actPause p).state := by
  refine safe_maskRequest s _ _ _ fun c t _ => ?_
  unfold State.pauseChannel
  split
  · exact safe_setChannelState t c _
  · exact Safe.refl t

theorem safe_actResume (s : State) (p : List Byte) : Safe s (s.actResume p).state := by
  refine safe_maskRequest s _ _ _ fun c t _ => ?_
  unfold State.resumeChannel
  split
  · exact safe_setChannelState t c _
  · exact safe_setChannelState t c _
  · exact Safe.refl t

theorem safe_appendTo (s : State) (c : Index) (p : CourseStep)
    (h : ¬ Config.courseQueueMax ≤ (s.channels.get c).queue.length) : Safe s (s.appendTo c p) := by
  have hmap : ∀ f : Channel → Channel,
      (f (s.channels.get c)).queue = (s.channels.get c).queue ++ [p] → Safe s (s.mapChannel c f) := by
    intro f hf
    refine safe_mapChannel s c f fun _ => ?_
    rw [hf, List.length_append, List.length_singleton]
    omega
  unfold State.appendTo
  dsimp only
  split
  · exact (hmap _ rfl).trans (safe_raise _ _)
  · exact hmap _ rfl

theorem safe_actAppendStep (s : State) (p : List Byte) : Safe s (s.actAppendStep p).state := by
  unfold State.actAppendStep
  repeat' split
  case h_2.isFalse.isFalse h => exact safe_appendTo s _ _ h
  all_goals exact Safe.refl s

theorem safe_actReleaseStep (s : State) (p : List Byte) : Safe s (s.actReleaseStep p).state := by
  unfold State.actReleaseStep
  repeat' split
  · exact Safe.refl s
  · exact safe_completeHead s _
  · exact Safe.refl s

theorem safe_actWake (s : State) (p : List Byte) : Safe s (s.actWake p).state := by
  unfold State.actWake
  repeat' split
  · exact Safe.refl s
  · exact safe_setChannelState s _ _
  · exact Safe.refl s

theorem safe_actRecordTrigger (s : State) : Safe s s.actRecordTrigger.state := by
  unfold State.actRecordTrigger
  split
  · exact (safe_trigger s _).trans (Safe.of_onRecorder (onRecorder_takeTriggers _ _))
  · exact Safe.refl s

/-- A request's own rule, whichever the request. -/
theorem safe_act (s : State) (l : Link) (k : RequestKind) (p : List Byte) :
    Safe s (s.act l k p).state := by
  cases k
  case setSetting => exact safe_actSetSetting s p
  case loadEnvelope => exact safe_actLoadEnvelope s p
  case deblock => exact safe_actDeblock s p
  case stop => exact safe_actStop s p
  case appendStep => exact safe_actAppendStep s p
  case flush => exact safe_actFlush s p
  case pause => exact safe_actPause s p
  case resume => exact safe_actResume s p
  case releaseStep => exact safe_actReleaseStep s p
  case wake => exact safe_actWake s p
  case recordTrigger => exact safe_actRecordTrigger s
  case readStatus | readMeasure | readRecordHeader | ping => exact Safe.refl s
  case getSetting =>
    simp only [State.act, State.actGetSetting]
    split <;> exact Safe.refl s
  case readEnvelope =>
    simp only [State.act, State.actReadEnvelope]
    repeat' split
    all_goals exact Safe.refl s
  case readCourse =>
    simp only [State.act, State.actReadCourse]
    split <;> exact Safe.refl s
  case readRecord =>
    simp only [State.act, State.actReadRecord]
    repeat' split
    all_goals exact Safe.refl s
  case clearEvents =>
    simp only [State.act, State.actClearEvents]
    split
    · exact Safe.refl s
    · exact safe_mapLink s l
        (fun k => { k with summary := k.summary &&& ~~~(BitVec.ofNat 13 (valueOf p)) }) ⟨le_rfl, le_rfl⟩
  case setNoticeMask =>
    simp only [State.act, State.actSetNoticeMask]
    split
    · exact Safe.refl s
    · exact safe_mapLink s l (fun k => { k with mask := BitVec.ofNat 9 (valueOf p) }) ⟨le_rfl, le_rfl⟩
  case tripClear =>
    simp only [State.act, State.actTripClear]
    repeat' split
    · exact Safe.refl s
    · exact Safe.refl s
    · exact safe_clearTrip s
  case syncRestart =>
    simp only [State.act, State.actSyncRestart]
    split
    · exact safe_restartSync s
    · exact Safe.refl s
  case recordRelease =>
    simp only [State.act, State.actRecordRelease]
    split
    · exact safe_mapRecorder s _
    · exact Safe.refl s
    · exact Safe.refl s
  case seize =>
    simp only [State.act, State.actSeize]
    split
    · exact safe_giveAuthority s _
    · exact Safe.refl s
  case yield =>
    simp only [State.act, State.actYield]
    split
    · exact safe_giveAuthority s _
    · exact Safe.refl s

/-! ### Records and bytes -/

theorem safe_heardFrom (s : State) (l : Link) : Safe s (s.heardFrom l) := by
  unfold State.heardFrom
  split
  · exact safe_authority s s.holder 0
  · exact Safe.refl s

theorem safe_judgeRequest (s : State) (l : Link) (kind : Byte) (p : List Byte) :
    Safe s (s.judgeRequest l kind p).state := by
  unfold State.judgeRequest
  repeat' split
  · exact Safe.refl s
  · exact Safe.refl s
  · exact safe_act s l _ p

/-- A reply joins a queue of fewer than 4. -/
theorem keeps_withReply (s : State) (l : Link) (x : OutRecord)
    (h : (s.links.get l).replies.length < Config.replyQueueMax) : Keeps s (s.withReply l x) := by
  refine ⟨id, id, fun hs m => ?_, id, id⟩
  unfold State.withReply State.mapLink
  rw [Both.get_set]
  split
  · exact ⟨by simpa using h, (hs l).2⟩
  · exact hs m

theorem keeps_takeRecord (s : State) (l : Link) (kind tag : Byte) (p : List Byte) (o : Schedule) :
    Keeps s (s.takeRecord l kind tag p o) := by
  unfold State.takeRecord
  dsimp only
  split
  · exact ((safe_heardFrom s l).trans (safe_mapLink _ l _ ⟨le_rfl, le_rfl⟩)).toKeeps
  case isFalse hroom =>
    have hjudged := safe_judgeRequest (s.heardFrom l) l kind p
    have hlt : (((s.heardFrom l).judgeRequest l kind p).state.links.get l).replies.length <
        Config.replyQueueMax := by
      refine (hjudged.replies l).trans_lt ?_
      simpa [State.repliesFull] using hroom
    exact ((safe_heardFrom s l).trans hjudged).toKeeps.trans
      ((keeps_withReply _ l _ hlt).trans (safe_settle _ o).toKeeps)

theorem keeps_receive (s : State) (kind : Byte) (r : Request) : Keeps s (s.receive kind r) := by
  unfold State.receive
  dsimp only
  split
  · exact (safe_time s _).toKeeps
  · exact ((safe_time s _).trans (safe_mapLink _ _ _ ⟨le_rfl, le_rfl⟩)).toKeeps.trans
      (keeps_takeRecord _ _ _ _ _ _)

theorem keeps_examined (s : State) (l : Link) (x : Examined) (o : Schedule) :
    Keeps s (s.examined l x o) := by
  have hact : ∀ (acts : List RxAct) (t : State),
      Keeps t (acts.foldl (fun t a => t.rxAct l o a) t) := by
    intro acts
    induction acts with
    | nil => exact Keeps.refl
    | cons a rest ih =>
      refine fun t => Keeps.trans ?_ (ih _)
      cases a
      · exact (safe_mapLink t l _ ⟨le_rfl, le_rfl⟩).toKeeps
      · exact keeps_takeRecord t l _ _ _ o
  exact (safe_mapLink s l _ ⟨le_rfl, le_rfl⟩).toKeeps.trans (hact _ _)

theorem keeps_byteArrives (s : State) (l : Link) (b : Byte) (o : Schedule) :
    Keeps s (s.byteArrives l b o) := by
  unfold State.byteArrives
  split
  · exact Keeps.refl s
  · exact (safe_mapLink s l _ ⟨le_rfl, le_rfl⟩).toKeeps.trans (keeps_examined _ l _ o)

theorem keeps_framingFault (s : State) (l : Link) (fell : Tick) (o : Schedule) :
    Keeps s (s.framingFault l fell o) := by
  unfold State.framingFault
  split
  · split
    · exact (safe_mapLink s l _ ⟨le_rfl, le_rfl⟩).toKeeps.trans (keeps_examined _ l _ o)
    · exact Keeps.refl s
  · exact Keeps.refl s
  · exact Keeps.refl s

theorem keeps_gapRunsOut (s : State) (l : Link) (o : Schedule) : Keeps s (s.gapRunsOut l o) := by
  unfold State.gapRunsOut
  split
  · exact Keeps.refl s
  · exact (safe_time s _).toKeeps.trans (keeps_examined _ l _ o)

/-! ### Every command -/

theorem keeps_takenIf (s : State) (happened : State → State → Bool) (f : State → State)
    (h : ∀ t, Keeps t (f t)) : Keeps s (s.takenIf happened f) := by
  unfold State.takenIf
  dsimp only
  split
  · exact h s
  · exact Keeps.refl s

/-- The invariants as every step keeps them. -/
structure Kept (s t : State) : Prop where
  settings : s.settingsValid → t.settingsValid
  period : s.periodBounded → t.periodBounded
  queues : s.queuesBounded → t.queuesBounded
  courses : s.coursesBounded → t.coursesBounded
  trip : s.tripSafe → t.tripSafe

theorem Kept.refl (s : State) : Kept s s := ⟨id, id, id, id, id⟩

theorem kept_of_take {s t : State} {o : Schedule} {f : State → State} (hf : ∀ u, Keeps u (f u))
    (h : s.take o f = .next t) : Kept s t := by
  cases hr : s.inReset
  case true =>
    rw [take_of_reset s o f hr] at h
    cases h
    exact Kept.refl s
  case false =>
    rw [take_of_running s o f hr] at h
    cases h
    have hk := (hf s).trans (safe_settle (f s) o).toKeeps
    refine ⟨hk.settings, hk.period, hk.queues, hk.courses, fun hs => Or.inr (hk.latch ?_)⟩
    exact hs.resolve_left (by simp [hr])

/-! ### The resets -/

theorem defaults_inRange (x : Setting) : x.inRange (Settings.default.value x) = true := by
  cases x
  case cells i | shift i | iMax i | iTrip i | iMinLoad i | tLowLoad i => fin_cases i <;> rfl
  all_goals rfl

theorem atReset_bounded (x : Bool) : (LinkState.atReset x).bounded := ⟨Nat.zero_le _, Nat.zero_le _⟩

theorem defaults_valid : Settings.default.consistent defaultLowTable defaultHighTable = true ∧
    validLow Settings.default.dipStart defaultLowTable = true ∧
    validHigh Settings.default.swellStart defaultHighTable = true := by decide

/-- A part right after a reset meets every invariant. -/
theorem kept_resetWith (s t : State) (pins : Pins) (recorder : Recorder) (held : Bool) :
    Kept s (t.resetWith pins recorder held) where
  settings _ := ⟨defaults_inRange, defaults_valid⟩
  period _ := by
    change PeriodFits Settings.default.nominalPeriod
    exact nominalPeriod_fits _
  queues _ l := by cases l <;> exact atReset_bounded _
  courses _ c := by
    change ((Four.fill Channel.atReset).get c).queue.length ≤ _
    rw [Four.get_fill]
    exact Nat.zero_le _
  trip _ := Or.inr ⟨fun h => Bool.noConfusion h, fun _ => ⟨rfl, rfl⟩⟩

theorem kept_putInReset (s : State) : Kept s s.putInReset where
  settings := id
  period := id
  queues hs l := by
    change ((s.links.map LinkState.idleTransmitter).get l).bounded
    rw [Both.get_map]
    exact hs l
  courses := id
  trip _ := Or.inl rfl

theorem Kept.of_time {s t : State} {d : Nat} (h : Kept (s.runFor d) t) : Kept s t :=
  ⟨h.settings, h.period, h.queues, h.courses, h.trip⟩

theorem kept_of_request {s t : State} {k : RequestKind} {r : Request} (h : s.request k r = .next t) :
    Kept s t := kept_of_take (fun u => keeps_receive u k.code r) h

/-- Every command keeps every invariant. -/
theorem exec_kept (c : Instr) (s t : State) (h : exec c s = .next t) : Kept s t := by
  cases c
  case powerOnReset pins =>
    cases h
    exact kept_resetWith s s _ _ _
  case resetLineAssert wait =>
    change execResetLineAssert wait s = _ at h
    unfold execResetLineAssert at h
    cases h
    split
    · exact Kept.refl s
    · exact Kept.of_time (kept_putInReset _)
  case resetLineRelease pins =>
    change execResetLineRelease pins s = _ at h
    unfold execResetLineRelease at h
    cases h
    split
    · exact kept_resetWith s s _ _ _
    · exact Kept.refl s
  case unknownKind kind r =>
    change execUnknownKind kind r s = _ at h
    unfold execUnknownKind at h
    split at h
    · exact kept_of_take (fun u => keeps_receive u kind r) h
    · cases h
      exact Kept.refl s
  case episodeEnd scan o =>
    cases scan
    · exact kept_of_take (fun u => keeps_takenIf u _ _ fun t => (safe_takeMillisecond t _).toKeeps) h
    · exact kept_of_take (fun u => keeps_takenIf u _ _ fun t => (safe_takeScan t _ _).toKeeps) h
  case scan => exact kept_of_take (fun u => (safe_takeScan u _ _).toKeeps) h
  case cellOvervoltage | overcurrent | snapshot | captureComplete =>
    exact kept_of_take (fun u => keeps_takenIf u _ _ fun t => (safe_takeScan t _ _).toKeeps) h
  case millisecondTick => exact kept_of_take (fun u => (safe_takeMillisecond u _).toKeeps) h
  case episodeLong | frequency | holdEnd | lowLoadPark | watchdogExpiry =>
    exact kept_of_take (fun u => keeps_takenIf u _ _ fun t => (safe_takeMillisecond t _).toKeeps) h
  case crossingEdge =>
    exact kept_of_take (fun u => ((safe_time u _).trans (safe_edge _ _ _ _)).toKeeps) h
  case syncLock | reAnchor =>
    exact kept_of_take (fun u => keeps_takenIf u _ _ fun t =>
      ((safe_time t _).trans (safe_edge _ _ _ _)).toKeeps) h
  case lastEdgeExpiry => exact kept_of_take (fun u => (safe_expireEdge u _).toKeeps) h
  case anchorGiveUp => exact kept_of_take (fun u => (safe_giveUpAnchor u).toKeeps) h
  case windowOpen => exact kept_of_take (fun u => (safe_openWindow u).toKeeps) h
  case windowClose => exact kept_of_take (fun u => (safe_closeWindow u).toKeeps) h
  case coastEntry =>
    exact kept_of_take (fun u => keeps_takenIf u _ _ fun t => (safe_closeWindow t).toKeeps) h
  case turnBoundary => exact kept_of_take (fun u => (safe_takeTurn u _).toKeeps) h
  case coastLimitLost | retardTimeout =>
    exact kept_of_take (fun u => keeps_takenIf u _ _ fun t => (safe_takeTurn t _).toKeeps) h
  case firing => exact kept_of_take (fun u => (safe_fireNext u _).toKeeps) h
  case pulseExpiry => exact kept_of_take (fun u => (safe_expirePulse u _).toKeeps) h
  case external =>
    exact kept_of_take (fun u => ((safe_time u _).trans (safe_externalHigh _)).toKeeps) h
  case exttripLow =>
    exact kept_of_take (fun u => ((safe_time u _).trans (safe_mapTrip _ _ rfl rfl rfl rfl)).toKeeps) h
  case breakerOpen wait o =>
    change execBreakerOpen wait o s = _ at h
    refine kept_of_take (fun u => ?_) h
    exact Keeps.trans (t := { u.runFor wait with breakerClosed := false }) ⟨id, id, id, id, id⟩
      (safe_forAll _ _ _ fun b t => safe_breakerOpens t b).toKeeps
  case breakerClose wait =>
    change execBreakerClose wait s = _ at h
    refine kept_of_take (fun u => ?_) h
    exact ⟨id, id, id, id, id⟩
  case gapTimeout => exact kept_of_take (fun u => keeps_gapRunsOut u _ _) h
  case framingFault =>
    exact kept_of_take (fun u => (safe_time u _).toKeeps.trans (keeps_framingFault _ _ _ _)) h
  case byteArrival =>
    exact kept_of_take (fun u => (safe_time u _).toKeeps.trans (keeps_byteArrives _ _ _ _)) h
  case breakDetected => exact kept_of_take (fun u => (safe_detectBreak u _ _).toKeeps) h
  case breakEnd => exact kept_of_take (fun u => ((safe_time u _).trans (safe_endBreak _ _)).toKeeps) h
  case transmitStart =>
    exact kept_of_take (fun u => (safe_mapLink u _ _ (startSending_notLonger _ _)).toKeeps) h
  case transmitEnd => exact kept_of_take (fun u => (safe_endSending u _).toKeeps) h
  case recordAbandon => exact kept_of_take (fun u => (safe_abandonSending u _).toKeeps) h
  all_goals exact kept_of_request h

/-- Every step keeps every invariant. -/
theorem step_kept (s t : State) (h : step s = .next t) : Kept s t := by
  unfold step at h
  split at h
  · cases h
    exact Kept.refl s
  · have hk := exec_kept _ _ _ h
    exact ⟨hk.settings, hk.period, hk.queues, hk.courses, hk.trip⟩

end Sys2Proof.Machine
end

section
/-! PROOF. The invariants of every step (R22, R48, R123, R152, R184, R200, R201). -/

namespace Sys2Proof.Machine

/-- Settles O57: every command keeps them, whichever it is. -/
theorem settingsAndPeriodStayValid : Obligations.SettingsAndPeriodStayValid :=
  fun s t h => ⟨(step_kept s t h).settings, (step_kept s t h).period⟩

/-- Settles O58: a queue is joined only with room, by a notice, a reply or an appended step. -/
theorem queuesStayBounded : Obligations.QueuesStayBounded :=
  fun s t h => ⟨(step_kept s t h).queues, (step_kept s t h).courses⟩

/-- Settles O59: only the latch, a joining cause and TRIP_CLEAR change what the latch speaks of, and no
action moves a bridge out of LOCKOUT but TRIP_CLEAR. -/
theorem tripLatchStaysSafe : Obligations.TripLatchStaysSafe :=
  fun s t h => (step_kept s t h).trip

/-- Settles O60: a reset sets every item anew, so what holds after any reset holds of `State.reset`. -/
theorem resetMeetsTheInvariants : Obligations.ResetMeetsTheInvariants := by
  exact ⟨⟨defaults_inRange, defaults_valid⟩, nominalPeriod_fits Settings.default,
    fun l => by cases l <;> exact atReset_bounded _,
    fun c => by fin_cases c <;> exact Nat.zero_le _,
    Or.inr ⟨fun h => Bool.noConfusion h, fun _ => ⟨rfl, rfl⟩⟩⟩

end Sys2Proof.Machine
end

section
/-! SUPPORT. What the environment's events and the part's own are, one equation for each (Dispatch.lean). A
row that names something inside another step is that step where it brings it about (log 5). -/

namespace Sys2Proof.Machine

variable (s : State)

theorem exec_scan (x : Samples) (o : Schedule) :
    exec (.scan x o) s = s.take o (fun t => t.takeScan x o.shares) := rfl

theorem exec_millisecondTick (o : Schedule) :
    exec (.millisecondTick o) s = s.take o (fun t => t.takeMillisecond o.shares) := rfl

theorem exec_crossingEdge (line : Line) (rising : Bool) (wait : Nat) (o : Schedule) :
    exec (.crossingEdge line rising wait o) s =
      s.take o (fun t => (t.runFor wait).edge line rising o.shares) := rfl

theorem exec_lastEdgeExpiry (line : Line) :
    exec (.lastEdgeExpiry line) s = s.take .listed (fun t => t.expireEdge line) := rfl

theorem exec_syncLock (line : Line) (rising : Bool) (wait : Nat) (o : Schedule) :
    exec (.syncLock line rising wait o) s =
      s.take o (fun u => u.takenIf (syncGoes .acquiring .locked)
        (fun t => (t.runFor wait).edge line rising o.shares)) := rfl

theorem exec_anchorGiveUp : exec .anchorGiveUp s = s.take .listed State.giveUpAnchor := rfl

theorem exec_windowOpen : exec .windowOpen s = s.take .listed State.openWindow := rfl

theorem exec_windowClose (o : Schedule) : exec (.windowClose o) s = s.take o State.closeWindow := rfl

theorem exec_coastEntry (o : Schedule) :
    exec (.coastEntry o) s =
      s.take o (fun u => u.takenIf (syncGoes .locked .coast) State.closeWindow) := rfl

theorem exec_reAnchor (line : Line) (rising : Bool) (wait : Nat) (o : Schedule) :
    exec (.reAnchor line rising wait o) s =
      s.take o (fun u => u.takenIf (syncGoes .coast .locked)
        (fun t => (t.runFor wait).edge line rising o.shares)) := rfl

theorem exec_turnBoundary (o : Schedule) :
    exec (.turnBoundary o) s = s.take o (fun t => t.takeTurn o.shares) := rfl

theorem exec_coastLimitLost (o : Schedule) :
    exec (.coastLimitLost o) s =
      s.take o (fun u => u.takenIf (syncGoes .coast .lost) (fun t => t.takeTurn o.shares)) := rfl

theorem exec_retardTimeout (o : Schedule) :
    exec (.retardTimeout o) s =
      s.take o (fun u => u.takenIf (causeRaised .retardTimeout) (fun t => t.takeTurn o.shares)) := rfl

theorem exec_firing (b : Index) (o : Schedule) :
    exec (.firing b o) s = s.take o (fun t => t.fireNext b) := rfl

theorem exec_pulseExpiry (b : Index) :
    exec (.pulseExpiry b) s = s.take .listed (fun t => t.expirePulse b) := rfl

theorem exec_episodeLong (o : Schedule) :
    exec (.episodeLong o) s =
      s.take o (fun u =>
        u.takenIf (fun a b => a.monitor.state != .long && b.monitor.state == .long)
          (fun t => t.takeMillisecond o.shares)) := rfl

theorem exec_episodeEnd_tick (o : Schedule) :
    exec (.episodeEnd none o) s =
      s.take o (fun u => u.takenIf returnsToNormal (fun t => t.takeMillisecond o.shares)) := rfl

theorem exec_episodeEnd_scan (x : Samples) (o : Schedule) :
    exec (.episodeEnd (some x) o) s =
      s.take o (fun u => u.takenIf returnsToNormal (fun t => t.takeScan x o.shares)) := rfl

theorem exec_frequency (o : Schedule) :
    exec (.frequency o) s =
      s.take o (fun u =>
        u.takenIf (fun a b => !a.monitor.excursionTripped && b.monitor.excursionTripped)
          (fun t => t.takeMillisecond o.shares)) := rfl

theorem exec_holdEnd (c : Index) (o : Schedule) :
    exec (.holdEnd c o) s =
      s.take o (fun u => u.takenIf (fun a _ => (a.beforeChannels o.shares).holdEnds c)
        (fun t => t.takeMillisecond o.shares)) := rfl

theorem exec_lowLoadPark (c : Index) (o : Schedule) :
    exec (.lowLoadPark c o) s =
      s.take o (fun u =>
        u.takenIf
          (fun a b => (a.channels.get c).state != .standby && (b.channels.get c).state == .standby)
          (fun t => t.takeMillisecond o.shares)) := rfl

theorem exec_cellOvervoltage (c : Index) (x : Samples) (o : Schedule) :
    exec (.cellOvervoltage c x o) s =
      s.take o (fun u =>
        u.takenIf
          (fun a b =>
            (a.channels.get c).overvoltageScans == 1 && (b.channels.get c).overvoltageScans == 2)
          (fun t => t.takeScan x o.shares)) := rfl

theorem exec_overcurrent (b : Index) (x : Samples) (o : Schedule) :
    exec (.overcurrent b x o) s =
      s.take o (fun u =>
        u.takenIf
          (fun a t => a.trip.overcurrentScans.get b == 1 && t.trip.overcurrentScans.get b == 2)
          (fun t => t.takeScan x o.shares)) := rfl

theorem exec_external (wait : Nat) (o : Schedule) :
    exec (.external wait o) s = s.take o (fun t => (t.runFor wait).externalHigh) := rfl

theorem exec_exttripLow (wait : Nat) :
    exec (.exttripLow wait) s = s.take .listed (fun t => (t.runFor wait).externalLow) := rfl

theorem exec_breakerOpen (wait : Nat) (o : Schedule) :
    exec (.breakerOpen wait o) s =
      s.take o (fun t =>
        { t.runFor wait with breakerClosed := false }.forAll Index.all
          (fun b u => u.breakerOpens b)) := rfl

theorem exec_breakerClose (wait : Nat) :
    exec (.breakerClose wait) s =
      s.take .listed (fun t => { t.runFor wait with breakerClosed := true }) := rfl

theorem exec_snapshot (x : Samples) (o : Schedule) :
    exec (.snapshot x o) s =
      s.take o (fun u =>
        u.takenIf (fun a _ => a.snapshotDue) (fun t => t.takeScan x o.shares)) := rfl

theorem exec_captureComplete (x : Samples) (o : Schedule) :
    exec (.captureComplete x o) s =
      s.take o (fun u =>
        u.takenIf (fun a b => a.recorder.state != .frozen && b.recorder.state == .frozen)
          (fun t => t.takeScan x o.shares)) := rfl

theorem exec_gapTimeout (l : Link) (o : Schedule) :
    exec (.gapTimeout l o) s = s.take o (fun t => t.gapRunsOut l o) := rfl

theorem exec_framingFault (l : Link) (space : LineSpace) (o : Schedule) :
    exec (.framingFault l space o) s =
      s.take o (fun t => (t.runFor space.wait).framingFault l space.fell o) := rfl

theorem exec_breakDetected (l : Link) (fell : Tick) :
    exec (.breakDetected l fell) s = s.take .listed (fun t => t.detectBreak l fell) := rfl

theorem exec_breakEnd (l : Link) (wait : Nat) :
    exec (.breakEnd l wait) s = s.take .listed (fun t => (t.runFor wait).endBreak l) := rfl

theorem exec_transmitStart (l : Link) :
    exec (.transmitStart l) s =
      s.take .listed (fun t => t.mapLink l (fun k => k.startSending t.elapsed)) := rfl

theorem exec_transmitEnd (l : Link) :
    exec (.transmitEnd l) s = s.take .listed (fun t => t.endSending l) := rfl

theorem exec_watchdogExpiry (o : Schedule) :
    exec (.watchdogExpiry o) s =
      s.take o (fun u =>
        u.takenIf (fun a _ => a.watchdogDue) (fun t => t.takeMillisecond o.shares)) := rfl

theorem exec_byteArrival (l : Link) (byte : Byte) (wait : Nat) (o : Schedule) :
    exec (.byteArrival l byte wait o) s =
      s.take o (fun t => (t.runFor wait).byteArrives l byte o) := rfl

theorem exec_recordAbandon (l : Link) :
    exec (.recordAbandon l) s = s.take .listed (fun t => t.abandonSending l) := rfl

/-- The command of a request kind is that request. -/
theorem exec_command (k : RequestKind) (r : Request) : exec (k.command r) s = s.request k r := by
  cases k <;> rfl

variable {s}

/-- Outside reset a command whose effect leaves nothing to take is that effect. -/
theorem take_eq_of_quiet {o : Schedule} {f : State → State} {t : State} (h : s.inReset = false)
    (hf : f s = t) (ht : t.settled) : s.take o f = .next t := by
  rw [take_of_quiet s o f h (hf ▸ ht), hf]

/-- A row that names what a step brings about is that step (log 5). -/
theorem takenIf_of_happened {happened : State → State → Bool} {f : State → State}
    (h : happened s (f s) = true) : s.takenIf happened f = f s := by
  simp [State.takenIf, h]

end Sys2Proof.Machine
end

section
/-! PROOF. Steps, resets, and the events that raise nothing: edges that are not handed on, silences,
windows, pulses, lines and transmitters (R3, R14, R17, R27, R30, R31, R77, R93, R149, R174, R186). -/

namespace Sys2Proof.Machine

/-- Settles O1: the queue's front is the command that `step` reads, and putting a queue twice is putting
the second. -/
theorem stepTakesFront : Obligations.StepTakesFront := fun _ _ _ => rfl

/-- Settles O2: a power-on reset is `State.afterReset`, whose tables are those of the manual. -/
theorem powerOnResetValues : Obligations.PowerOnResetValues := by
  intro pins s
  refine ⟨_, exec_powerOnReset pins s, rfl, rfl, rfl, rfl, rfl, rfl, rfl, rfl, rfl, rfl,
    fun b => Four.get_fill _ b, fun b => Four.get_fill _ b, fun c => Four.get_fill _ c, rfl, rfl,
    fun l => ?links, rfl, rfl, rfl, rfl⟩
  case links => cases l <;> rfl

/-! ### The reset line -/

/-- While RSTN is held low, every command but the two that set the part anew changes nothing (R3). -/
theorem exec_of_inReset (c : Instr) (s : State) (h : s.inReset = true)
    (hp : ∀ pins, c ≠ .powerOnReset pins) (hr : ∀ pins, c ≠ .resetLineRelease pins) :
    exec c s = .next s := by
  cases c
  case powerOnReset pins => exact absurd rfl (hp pins)
  case resetLineRelease pins => exact absurd rfl (hr pins)
  case resetLineAssert wait => simp [exec, execResetLineAssert, h]
  case episodeEnd scan o => cases scan <;> simp only [exec, execEpisodeEnd, take_of_reset _ _ _ h]
  case unknownKind kind r =>
    simp only [exec, execUnknownKind]
    split
    · exact take_of_reset s _ _ h
    · rfl
  all_goals
    simp only [exec, execScan, execMillisecondTick, execCrossingEdge, execLastEdgeExpiry,
      execSyncLock, execAnchorGiveUp, execWindowOpen, execWindowClose, execCoastEntry,
      execReAnchor, execTurnBoundary, execCoastLimitLost, execRetardTimeout, execFiring,
      execPulseExpiry, execEpisodeLong, execFrequency, execHoldEnd, execLowLoadPark,
      execCellOvervoltage, execOvercurrent, execExternal, execExttripLow, execBreakerOpen,
      execBreakerClose, execSnapshot, execCaptureComplete, execGapTimeout, execFramingFault,
      execBreakDetected, execBreakEnd, execTransmitStart, execTransmitEnd, execReadStatus,
      execReadMeasure, execGetSetting, execReadEnvelope, execReadCourse, execReadRecordHeader,
      execReadRecord, execClearEvents, execSetNoticeMask, execPing, execSetSetting,
      execLoadEnvelope, execDeblock, execStop, execAppendStep, execFlush, execPause,
      execResume, execReleaseStep, execWake, execTripClear, execSyncRestart, execRecordTrigger,
      execRecordRelease, execSeize, execYield, execWatchdogExpiry, execByteArrival,
      execRecordAbandon, State.request, take_of_reset _ _ _ h]

theorem exec_resetLineAssert_of_running (wait : Nat) (s : State) (h : s.inReset = false) :
    exec (.resetLineAssert wait) s = .next (s.runFor wait).putInReset := by
  simp [exec, execResetLineAssert, h]

theorem afterResetLine_of_frozen (r : Recorder) (h : r.state = .frozen) :
    r.afterResetLine =
      { r with
        decimation := 0
        header := r.header.map (fun x => { x with survivedReset := true }) } := by
  simp [Recorder.afterResetLine, h]

theorem afterResetLine_of_not_frozen (r : Recorder) (h : r.state ≠ .frozen) :
    r.afterResetLine = Recorder.atReset := by
  unfold Recorder.afterResetLine
  split
  case h_1 hf => exact absurd hf h
  case h_2 => rfl

/-- Settles O3: the assertion is `putInReset`, every command but two is held still by `take`, and the
release sets every block but the recorder. -/
theorem resetLineHoldsAndStarts : Obligations.ResetLineHoldsAndStarts := by
  refine ⟨fun wait s h => ?assert, fun c s h hp hr => exec_of_inReset c s h hp hr,
    fun pins s h => ?release⟩
  case assert =>
    refine ⟨_, exec_resetLineAssert_of_running wait s h, rfl, fun b n => ?_, rfl, fun l => ?_,
      fun hf => ?_, fun hf => afterResetLine_of_not_frozen _ hf, rfl⟩
    · simp [State.gate, State.putInReset]
    · simp [State.putInReset, LinkState.idleTransmitter]
    · have hrec : ((s.runFor wait).putInReset).recorder = s.recorder.afterResetLine := rfl
      rw [hrec, afterResetLine_of_frozen _ hf]
      exact ⟨hf, rfl, rfl, rfl⟩
  case release =>
    exact ⟨_, _, exec_resetLineRelease_of_inReset pins s h, exec_powerOnReset pins _, rfl⟩

/-! ### Crossing inputs -/

theorem isChatter_of_lastEdge (s : State) (line : Line) (t0 : Tick)
    (h : s.scanner.lastEdge.get line = some t0) :
    s.isChatter line = decide (s.since t0 < s.settings.crossGuard * 10) := by
  simp only [State.isChatter, h]
  rfl

theorem isChatter_of_none (s : State) (line : Line) (h : s.scanner.lastEdge.get line = none) :
    s.isChatter line = false := by
  simp [State.isChatter, h]

/-- An edge after the guard, or the first on its line, is no chatter (R14). -/
theorem not_chatter_of_guard (s : State) (line : Line)
    (h : ∀ t0, s.scanner.lastEdge.get line = some t0 → s.settings.crossGuard * 10 ≤ s.since t0) :
    s.isChatter line = false := by
  cases hl : s.scanner.lastEdge.get line with
  | none => exact isChatter_of_none s line hl
  | some t0 =>
    rw [isChatter_of_lastEdge s line t0 hl]
    exact decide_eq_false (Nat.not_lt.mpr (h t0 hl))

theorem edge_of_chatter (s : State) (line : Line) (rising : Bool) (k : Nat)
    (h : s.isChatter line = true) :
    s.edge line rising k =
      (s.mapScanner (fun c => c.seen line rising)).mapScanner (fun c => c.discarded line) := by
  simp [State.edge, h]

/-- An accepted edge: the level and the tick are noted (R14). -/
def State.accepted (s : State) (line : Line) (rising : Bool) : State :=
  (s.mapScanner (fun c => c.seen line rising)).mapScanner (fun c => c.accepted line s.counter)

theorem edge_of_filtered (s : State) (line : Line) (rising : Bool) (k : Nat)
    (h : s.isChatter line = false) (hf : filters s.settings.crossSet line = true) :
    s.edge line rising k = (s.accepted line rising).mapScanner (fun c => c.filteredOut line) := by
  simp [State.edge, h, hf, State.accepted]

theorem edge_of_handsOn (s : State) (line : Line) (rising : Bool) (k : Nat)
    (h : s.isChatter line = false) (hf : filters s.settings.crossSet line = false) :
    s.edge line rising k = (s.accepted line rising).arrive k ⟨crossingOf line rising, s.counter⟩ := by
  simp [State.edge, h, hf, State.accepted]

theorem filters_abOnly (line : Line) (h : line ≠ .ab) : filters .abOnly line = true := by
  cases line
  · exact absurd rfl h
  · rfl
  · rfl

/-- Settles O6: an edge within the guard is chatter, and one that the crossing set filters comes after its
acceptance; neither raises anything. -/
theorem chatterAndFilterCount : Obligations.ChatterAndFilterCount := by
  intro line rising wait o s ⟨hrun, hset⟩
  refine ⟨fun t0 hl hlt => ?chatter, fun hguard hab hline => ?filtered⟩
  case chatter =>
    have hc : (s.runFor wait).isChatter line = true := by
      rw [isChatter_of_lastEdge (s.runFor wait) line t0 hl]
      exact decide_eq_true hlt
    rw [exec_crossingEdge, take_eq_of_quiet hrun (edge_of_chatter _ line rising o.shares hc) (by exact hset)]
    rfl
  case filtered =>
    have hc : (s.runFor wait).isChatter line = false := not_chatter_of_guard _ line hguard
    have hf : filters (s.runFor wait).settings.crossSet line = true := by
      rw [State.runFor_settings, hab]
      exact filters_abOnly line hline
    rw [exec_crossingEdge, take_eq_of_quiet hrun (edge_of_filtered _ line rising o.shares hc hf) (by exact hset)]
    rfl

theorem expireEdge_of_edge (s : State) (line : Line) (t0 : Tick)
    (h : s.scanner.lastEdge.get line = some t0) :
    s.expireEdge line =
      (s.runUntilSince t0 2147483648).mapScanner (fun c =>
        { c with lastEdge := c.lastEdge.set line none }) := by
  simp [State.expireEdge, h, Config.longestInterval]

theorem giveUpAnchor_of_previous (s : State) (a : Arrival) (hs : s.sync.state = .acquiring)
    (hu : s.sync.unanchored = false) (hp : s.sync.previous = some a) :
    s.giveUpAnchor =
      (s.runUntilSince a.tick 2147483648).mapSync (fun y =>
        { y with unanchored := true, previous := none, good := 0, turn := .unmarked }) := by
  simp [State.giveUpAnchor, hs, hu, hp, Config.longestInterval]

/-- Settles O7: each silence runs time to its tick and changes its own item. -/
theorem silenceExpires : Obligations.SilenceExpires := by
  refine ⟨fun line t0 s ⟨hrun, hset⟩ hl => ?edge, fun a s ⟨hrun, hset⟩ hs hu hp => ?anchor⟩
  case edge =>
    rw [exec_lastEdgeExpiry, take_eq_of_quiet hrun (expireEdge_of_edge s line t0 hl) (by exact hset)]
    rfl
  case anchor =>
    rw [exec_anchorGiveUp, take_eq_of_quiet hrun (giveUpAnchor_of_previous s a hs hu hp) (by exact hset)]
    rfl

/-! ### Windows -/

theorem openWindow_of_waiting (s : State) (w : Window) (hs : s.sync.state = .locked)
    (hw : s.sync.window = some w) (h : w.status = .waiting) :
    s.openWindow =
      (s.runToAngle w.opening).mapSync (fun y =>
        { y with window := some { w with status := .opened } }) := by
  simp [State.openWindow, hs, hw, h]

theorem closeWindow_of_consumed (s : State) (w : Window) (hs : s.sync.state = .locked)
    (hw : s.sync.window = some w) (h : w.status = .consumed) :
    s.closeWindow =
      (s.runToAngle w.closing).mapSync (fun y =>
        y.followingWindow (s.runToAngle w.closing).settings w.expected) := by
  simp [State.closeWindow, hs, hw, h]

/-- A miss that stays below LOSS_COUNT (R31). -/
theorem closeWindow_of_miss (s : State) (w : Window) (hs : s.sync.state = .locked)
    (hw : s.sync.window = some w) (h : w.status = .opened)
    (hb : s.sync.bad + 1 < s.settings.lossCount) :
    s.closeWindow =
      (s.runToAngle w.closing).mapSync (fun y =>
        { y with bad := s.sync.bad + 1 }.followingWindow (s.runToAngle w.closing).settings
          w.expected) := by
  obtain ⟨d, hd⟩ := runToAngle_eq s w.closing
  have hn : ¬ s.settings.lossCount ≤ s.sync.bad + 1 := by omega
  simp [State.closeWindow, hs, hw, h, hd, hn]

/-- The miss that reaches LOSS_COUNT (R35). -/
theorem closeWindow_of_loss (s : State) (w : Window) (hs : s.sync.state = .locked)
    (hw : s.sync.window = some w) (h : w.status = .opened)
    (hb : s.settings.lossCount ≤ s.sync.bad + 1) :
    s.closeWindow = (s.runToAngle w.closing).enterCoast := by
  obtain ⟨d, hd⟩ := runToAngle_eq s w.closing
  simp [State.closeWindow, hs, hw, h, hd, hb]

/-- Settles O11: each window event runs the phase to its angle and replaces the window. -/
theorem windowsOpenAndClose : Obligations.WindowsOpenAndClose := by
  intro o s w ⟨hrun, hset⟩ hs hw k next
  refine ⟨fun h => ?waiting, fun h => ?consumed, fun h hb => ?missed⟩
  case waiting =>
    obtain ⟨d, hd⟩ := runToAngle_eq s w.opening
    have he := openWindow_of_waiting s w hs hw h
    rw [hd] at he ⊢
    rw [exec_windowOpen, take_eq_of_quiet hrun he (by exact hset)]
    rfl
  case consumed =>
    obtain ⟨d, hd⟩ := runToAngle_eq s w.closing
    have he := closeWindow_of_consumed s w hs hw h
    rw [hd] at he ⊢
    rw [exec_windowClose, take_eq_of_quiet hrun he (by exact hset)]
    rfl
  case missed =>
    obtain ⟨d, hd⟩ := runToAngle_eq s w.closing
    have he := closeWindow_of_miss s w hs hw h hb
    rw [hd] at he ⊢
    rw [exec_windowClose, take_eq_of_quiet hrun he (by exact hset)]
    rfl

/-! ### Pulses and lines -/

theorem expirePulse_of_pulse (s : State) (b : Index) (p : Pulse)
    (h : (s.bridges.get b).pulse = some p) :
    s.expirePulse b = (s.runToTick p.expiry).mapBridge b (fun r => { r with pulse := none }) := by
  simp [State.expirePulse, h]

/-- Settles O21: each event changes its one item and raises nothing. -/
theorem quietLineEvents : Obligations.QuietLineEvents := by
  refine ⟨fun b p s ⟨hrun, hset⟩ hp => ?pulse, fun wait s ⟨hrun, hset⟩ => ?breaker,
    fun wait s ⟨hrun, hset⟩ => ?external⟩
  case pulse =>
    obtain ⟨d, hd⟩ := runToTick_eq s p.expiry
    have he := expirePulse_of_pulse s b p hp
    rw [hd] at he ⊢
    rw [exec_pulseExpiry, take_eq_of_quiet hrun he (by exact hset)]
    rfl
  case breaker =>
    rw [exec_breakerClose, take_eq_of_quiet hrun rfl (by exact hset)]
    rfl
  case external =>
    rw [exec_exttripLow, take_eq_of_quiet hrun rfl (by exact hset)]
    rfl

/-! ### Transmitters -/

theorem startSending_reply (k : LinkState) (now : Nat) (x : OutRecord) (rest : List OutRecord)
    (ht : k.transmitter = none) (hr : k.replies = x :: rest) :
    k.startSending now = { k with replies := rest, transmitter := some ⟨x.frame, now, none⟩ } := by
  simp [LinkState.startSending, LinkState.chosen, ht, hr]

theorem startSending_notice (k : LinkState) (now : Nat) (x : OutRecord) (rest : List OutRecord)
    (ht : k.transmitter = none) (hr : k.replies = []) (hn : k.notices = x :: rest) :
    k.startSending now = { k with notices := rest, transmitter := some ⟨x.frame, now, none⟩ } := by
  simp [LinkState.startSending, LinkState.chosen, ht, hr, hn]

/-- A transmission that no break cuts runs to the end of its last byte (R186). -/
theorem endSending_of_uncut (s : State) (l : Link) (bytes : List Byte) (started : Nat)
    (h : (s.links.get l).transmitter = some ⟨bytes, started, none⟩) :
    s.endSending l =
      (s.runTo (started + bytes.length * s.rate.byteTicks)).mapLink l LinkState.idleTransmitter := by
  simp [State.endSending, h, Transmission.endsAt]

/-- Settles O43: the arbiter takes the oldest reply, and a notice only where none waits. -/
theorem transmittersSendRepliesFirst : Obligations.TransmittersSendRepliesFirst := by
  intro l s ⟨hrun, hset⟩
  have hstart : exec (.transmitStart l) s =
      .next (s.mapLink l (fun k => k.startSending s.elapsed)) := by
    rw [exec_transmitStart, take_eq_of_quiet hrun rfl (by exact hset)]
  refine ⟨fun x rest ht hr => ?reply, fun x rest ht hr hn => ?notice, fun bytes started ht => ?ends⟩
  case reply => rw [hstart, State.mapLink, startSending_reply _ _ x rest ht hr]
  case notice => rw [hstart, State.mapLink, startSending_notice _ _ x rest ht hr hn]
  case ends =>
    rw [exec_transmitEnd, take_eq_of_quiet hrun (endSending_of_uncut s l bytes started ht) (by exact hset)]
    rfl

end Sys2Proof.Machine
end

section
/-! SUPPORT. The state a request is judged in, field by field, and what the recorder and the link unit make
of a single trigger or event. -/

namespace Sys2Proof.Machine

theorem heardFrom_eq (s : State) (l : Link) :
    s.heardFrom l = { s with watchdog := if s.holder = l then 0 else s.watchdog } := by
  unfold State.heardFrom
  split <;> rfl

/-- A request is judged `wait` ticks on, with its line at mark and its holder's watchdog restarted. -/
theorem atRequest_eq (s : State) (r : Request) :
    s.atRequest r =
      { s with
        elapsed := s.elapsed + r.wait
        links := s.links.set r.link (s.links.get r.link).atMark
        watchdog := if s.holder = r.link then 0 else s.watchdog } := by
  unfold State.atRequest
  rw [heardFrom_eq]
  rfl

section
variable (s : State) (r : Request)

@[simp] theorem atRequest_elapsed : (s.atRequest r).elapsed = s.elapsed + r.wait := by
  rw [atRequest_eq]
@[simp] theorem atRequest_millisecondAt : (s.atRequest r).millisecondAt = s.millisecondAt := by
  rw [atRequest_eq]
@[simp] theorem atRequest_inReset : (s.atRequest r).inReset = s.inReset := by rw [atRequest_eq]
@[simp] theorem atRequest_rate : (s.atRequest r).rate = s.rate := by rw [atRequest_eq]
@[simp] theorem atRequest_breakerClosed : (s.atRequest r).breakerClosed = s.breakerClosed := by
  rw [atRequest_eq]
@[simp] theorem atRequest_scanner : (s.atRequest r).scanner = s.scanner := by rw [atRequest_eq]
@[simp] theorem atRequest_sync : (s.atRequest r).sync = s.sync := by rw [atRequest_eq]
@[simp] theorem atRequest_monitor : (s.atRequest r).monitor = s.monitor := by rw [atRequest_eq]
@[simp] theorem atRequest_bridges : (s.atRequest r).bridges = s.bridges := by rw [atRequest_eq]
@[simp] theorem atRequest_regulators : (s.atRequest r).regulators = s.regulators := by
  rw [atRequest_eq]
@[simp] theorem atRequest_trip : (s.atRequest r).trip = s.trip := by rw [atRequest_eq]
@[simp] theorem atRequest_recorder : (s.atRequest r).recorder = s.recorder := by rw [atRequest_eq]
@[simp] theorem atRequest_pending : (s.atRequest r).pending = s.pending := by rw [atRequest_eq]
@[simp] theorem atRequest_outbox : (s.atRequest r).outbox = s.outbox := by rw [atRequest_eq]
@[simp] theorem atRequest_triggers : (s.atRequest r).triggers = s.triggers := by rw [atRequest_eq]

@[simp] theorem atRequest_bridgeState (b : Index) :
    (s.atRequest r).bridgeState b = s.bridgeState b := by simp [State.bridgeState]

theorem atRequest_watchdog_of_holder (h : s.holder = r.link) : (s.atRequest r).watchdog = 0 := by
  rw [atRequest_eq]
  simp [h]

/-- The link a request comes on stands as it did, but for its line at mark. -/
theorem atRequest_link : (s.atRequest r).links.get r.link = (s.links.get r.link).atMark := by
  rw [atRequest_links, Both.get_set_self]

/-- Setting the request's link anew over the judged state is setting it over the state before. -/
theorem atRequest_links_set (k : LinkState) :
    (s.atRequest r).links.set r.link k = s.links.set r.link k := by
  rw [atRequest_links]
  cases r.link <;> rfl

end

/-! ### Bridges of every state -/

theorem Four.any_toList {α : Type} (q : Four α) (f : α → Bool) :
    q.toList.any f = true ↔ ∃ i, f (q.get i) = true := by
  constructor
  · intro h
    simp only [Four.toList, List.any_cons, List.any_nil, Bool.or_false, Bool.or_eq_true] at h
    obtain h | h | h | h := h
    exacts [⟨0, h⟩, ⟨1, h⟩, ⟨2, h⟩, ⟨3, h⟩]
  · rintro ⟨i, h⟩
    fin_cases i <;> simp_all [Four.toList, Four.get]

theorem Four.all_toList {α : Type} (q : Four α) (f : α → Bool) :
    q.toList.all f = true ↔ ∀ i, f (q.get i) = true := by
  rw [List.all_eq_not_any_not, Bool.not_eq_true', ← Bool.not_eq_true, Four.any_toList]
  simp

theorem anyRunning_iff (s : State) : s.anyRunning = true ↔ ∃ b, s.bridgeState b = .running := by
  unfold State.anyRunning
  rw [Four.any_toList]
  simp [State.bridgeState]

theorem stopped_iff (s : State) :
    s.stopped = true ↔ ∀ b, s.bridgeState b = .blocked ∨ s.bridgeState b = .lockout := by
  unfold State.stopped
  rw [Four.all_toList]
  simp [State.bridgeState]

theorem not_anyRunning (s : State) :
    (!s.anyRunning) = decide (∀ b, s.bridgeState b ≠ .running) := by
  rw [Bool.eq_iff_iff, Bool.not_eq_true', ← Bool.not_eq_true, anyRunning_iff, decide_eq_true_iff]
  simp

/-! ### One trigger -/

/-- A trigger of an enabled source waits for the recorder (R165). -/
theorem trigger_of_enabled (s : State) (x : TriggerSource)
    (h : hasBit s.settings.recTriggers x.bit = true) :
    s.trigger x = { s with triggers := s.triggers ++ [⟨x, s.counter, !s.anyRunning⟩] } := by
  simp [State.trigger, h]

/-- A trigger that is alone has one order. -/
theorem triggerOrder_singleton (k : Nat) (x : Trigger) : triggerOrder 1 k [x] = [x] := by
  have hup : upToTrip [x] = [x] := by
    unfold upToTrip
    split <;> simp [upToTrip]
  simp [triggerOrder, nextTriggers, hup, firstOfSources, Nat.mod_one]

theorem takeTriggers_singleton (s : State) (k : Nat) (x : Trigger) (h : s.triggers = [x]) :
    s.takeTriggers k = { s with triggers := [] }.takeTrigger x := by
  unfold State.takeTriggers
  rw [h, List.length_singleton, triggerOrder_singleton]
  rfl

theorem takeTrigger_of_armed (s : State) (x : Trigger) (h : s.recorder.state = .armed) :
    s.takeTrigger x = s.startCapture x := by
  simp [State.takeTrigger, h]

theorem takeTrigger_of_not_armed (s : State) (x : Trigger) (h : s.recorder.state ≠ .armed) :
    s.takeTrigger x = s.mapRecorder (fun r => { r with missed := min (r.missed + 1) 255 }) := by
  unfold State.takeTrigger
  split
  case h_1 ha => exact absurd ha h
  case h_2 => rfl

/-! ### A request heard -/

/-- A heard request whose judgement raises nothing: its reply is queued, and that is all. -/
theorem request_of_quiet (s : State) (k : RequestKind) (r : Request) (a : Answer) (h : s.hears r)
    (ha : (s.atRequest r).judgeRequest r.link k.code r.payload = a) (hset : a.state.settled) :
    s.request k r = .next (a.state.withReply r.link (replyTo k.code r.tag a.payload)) := by
  rw [request_of_hears s k r h, ha, Answer.reply, settle_settle]
  exact congrArg _ (settle_of_settled _ _ (withReply_settled _ r.link (replyTo k.code r.tag a.payload) hset))

/-- A request of a kind that either link may send, judged by its own rule. -/
theorem judge_of_open {s : State} {r : Request} {k : RequestKind} {p : List Byte}
    (hp : r.payload = p) (hc : k.commanding = false) (hs : k.serviceOnly = false)
    (hsize : k.sizeRight p = true) :
    (s.atRequest r).judgeRequest r.link k.code r.payload = (s.atRequest r).act r.link k p := by
  rw [hp]
  exact judgeRequest_of_open _ _ _ _ hc hs hsize

/-- A commanding request from the link with authority, judged by its own rule. -/
theorem judge_of_holder {s : State} {r : Request} {k : RequestKind} {p : List Byte}
    (hp : r.payload = p) (hc : k.commanding = true) (hl : s.holder = r.link)
    (hsize : k.sizeRight p = true) :
    (s.atRequest r).judgeRequest r.link k.code r.payload = (s.atRequest r).act r.link k p := by
  rw [hp]
  exact judgeRequest_of_holder _ _ _ _ hc ((atRequest_holder s r).trans hl) hsize

end Sys2Proof.Machine
end

section
/-! PROOF. Records of unknown kinds, full reply queues, and the refusals of R183 before a request's own
rule. -/

namespace Sys2Proof.Machine

theorem ofByte_of_unknown (kind : Byte) (h : isRequestKind kind = false) :
    RequestKind.ofByte kind = none := by
  rw [isRequestKind_iff] at h
  exact Option.not_isSome_iff_eq_none.mp (by simp [h])

/-- A heard record of any kind: judged on the state at its tick, with its reply and events taken. -/
theorem receive_of_hears (s : State) (kind : Byte) (r : Request) (h : s.hears r) :
    s.receive kind r =
      ((s.atRequest r).judgeRequest r.link kind r.payload).reply r.link kind r.tag r.order := by
  obtain ⟨-, hb, hq⟩ := h
  have hi : (s.runFor r.wait).inBreak r.link = false := hb
  have hf : (s.atRequest r).repliesFull r.link = false := by
    unfold State.repliesFull
    rw [atRequest_link]
    exact decide_eq_false (Nat.not_le.mpr hq)
  unfold State.receive State.takeRecord
  dsimp only
  rw [hi, if_neg Bool.false_ne_true]
  change (if (s.atRequest r).repliesFull r.link then _ else _) = _
  rw [hf, if_neg Bool.false_ne_true]
  rfl

/-- Settles O46: a kind byte of no row is refused by step 3 of R183 before any rule. -/
theorem unknownKindsAreRefused : Obligations.UnknownKindsAreRefused := by
  intro kind r s hears settled hkind
  have hset := atRequest_settled s r settled
  have hjudge : (s.atRequest r).judgeRequest r.link kind r.payload =
      (s.atRequest r).refuse .refusedKind := by
    simp [State.judgeRequest, ofByte_of_unknown kind hkind]
  have hexec : exec (.unknownKind kind r) s = s.take r.order (fun t => t.receive kind r) := by
    simp [exec, execUnknownKind, ofByte_of_unknown kind hkind]
  rw [hexec, take_of_running s _ _ hears.1, receive_of_hears s kind r hears, hjudge,
    reply_refuse _ _ _ _ _ _ hset, settle_of_settled _ _ (withReply_settled _ _ _ hset)]
  rfl

/-- Settles O47: step 2 of R183 drops the record before it is judged. -/
theorem fullReplyQueuesDropRequests : Obligations.FullReplyQueuesDropRequests := by
  intro k r s ⟨hrun, hset⟩ hbreak hfull
  have hi : (s.runFor r.wait).inBreak r.link = false := hbreak
  have hf : (s.atRequest r).repliesFull r.link = true := by
    unfold State.repliesFull
    rw [atRequest_link]
    exact decide_eq_true hfull
  have hreceive : s.receive k.code r = (s.atRequest r).setOwnFlag r.link .replyOverrun := by
    unfold State.receive State.takeRecord
    dsimp only
    rw [hi, if_neg Bool.false_ne_true]
    change (if (s.atRequest r).repliesFull r.link then _ else _) = _
    rw [if_pos hf]
    rfl
  have hquiet : ((s.atRequest r).setOwnFlag r.link .replyOverrun).settled := atRequest_settled s r hset
  rw [exec_command, State.request, take_eq_of_quiet hrun hreceive hquiet, State.setOwnFlag, State.mapLink,
    atRequest_links_set, atRequest_link, atRequest_eq]
  rfl

/-- A heard request refused before its own rule answers the result code alone. -/
theorem exec_of_refusal {s : State} {r : Request} {k : RequestKind} {x : Result} (h : s.hears r)
    (hset : s.settled) (hx : (s.atRequest r).refusal r.link k r.payload = some x) :
    exec (k.command r) s =
      .next ((s.atRequest r).withReply r.link (replyTo k.code r.tag [x.byte])) := by
  have hjudge : (s.atRequest r).judgeRequest r.link k.code r.payload = (s.atRequest r).refuse x := by
    simp [State.judgeRequest, ofByte_code, hx]
  rw [exec_command, request_of_quiet s k r _ h hjudge (atRequest_settled s r hset)]
  rfl

theorem serviceOnly_iff (k : RequestKind) : k.serviceOnly = true ↔ k = .seize ∨ k = .yield := by
  simp [RequestKind.serviceOnly]

theorem commanding_iff (k : RequestKind) :
    k.commanding = true ↔ 0x10 ≤ k.code.toNat ∧ k.code.toNat ≤ 0x1D := by
  simp [RequestKind.commanding]

/-- Settles O48: the three tests of step 3, each reached only past the ones before it. -/
theorem requestsAreRefusedInOrder : Obligations.RequestsAreRefusedInOrder := by
  intro k r s hears settled
  refine ⟨fun hk hl => ?link, fun hlo hhi hl => ?authority, fun hk hl hsize => ?format⟩
  case link =>
    have hs : k.serviceOnly = true := (serviceOnly_iff k).mpr hk
    exact exec_of_refusal (x := .refusedLink) hears settled (by simp [State.refusal, hs, hl])
  case authority =>
    have hc : k.commanding = true := (commanding_iff k).mpr ⟨hlo, hhi⟩
    exact exec_of_refusal (x := .refusedAuthority) hears settled
      (by simp [State.refusal, serviceOnly_of_commanding k hc, hc, hl])
  case format =>
    have hs : (k.serviceOnly && r.link == .p) = false := by
      cases h : k.serviceOnly
      · rfl
      · simp [hk ((serviceOnly_iff k).mp h)]
    have hc : k.commanding = true → s.holder = r.link := fun h =>
      hl ((commanding_iff k).mp h).1 ((commanding_iff k).mp h).2
    exact exec_of_refusal (x := .refusedFormat) hears settled
      (by simpa [State.refusal, hs, hsize] using hc)

end Sys2Proof.Machine
end

section
/-! SUPPORT. What is left alone when the recorder and the link unit take what a command raised (R175, R185),
field by field. -/

namespace Sys2Proof.Machine

theorem hasBit_addBit_of_ne {w : Nat} (x : BitVec w) (j k : Nat) (h : j ≠ k) :
    hasBit (addBit x k) j = hasBit x j := by
  have h' : j - k = 0 → j < k := by omega
  simp only [hasBit, addBit, BitVec.getLsbD_or, BitVec.getLsbD_shiftLeft, BitVec.getLsbD_one]
  by_cases hjk : j < k
  · simp [hjk]
  · simp [hjk, show ¬ j - k = 0 from fun h0 => hjk (h' h0)]

/-! ### A notice offered -/

theorem offer_of_masked (k : LinkState) (e : Event) (h : hasBit k.mask e.row = false) :
    k.offer e = k := by
  simp [LinkState.offer, h]

theorem offer_of_room (k : LinkState) (e : Event) (h : hasBit k.mask e.row = true)
    (hq : k.notices.length < 8) : k.offer e = { k with notices := k.notices ++ [e.notice] } := by
  simp [LinkState.offer, h, Config.noticeQueueMax, hq]

theorem offer_of_full (k : LinkState) (e : Event) (h : hasBit k.mask e.row = true)
    (hq : 8 ≤ k.notices.length) : k.offer e = k.setFlag .noticeLost := by
  simp [LinkState.offer, h, Config.noticeQueueMax, Nat.not_lt.mpr hq]

theorem offer_summary_of_hasBit (k : LinkState) (e : Event) (j : Nat)
    (h : hasBit k.summary j = true) : hasBit (k.offer e).summary j = true := by
  unfold LinkState.offer
  repeat' split
  · exact h
  · exact hasBit_addBit_of_hasBit _ _ _ h
  · exact h

theorem offers_summary_of_hasBit (evs : List Event) (k : LinkState) (j : Nat)
    (h : hasBit k.summary j = true) : hasBit (evs.foldl LinkState.offer k).summary j = true := by
  induction evs generalizing k with
  | nil => exact h
  | cons e rest ih => exact ih (k.offer e) (offer_summary_of_hasBit k e j h)

theorem LinkState.lineKept_refl (k : LinkState) : k.lineKept k := ⟨rfl, rfl, rfl, rfl, rfl, rfl⟩

theorem LinkState.lineKept_trans {k k' k'' : LinkState} (h : k.lineKept k') (h' : k'.lineKept k'') :
    k.lineKept k'' := by
  obtain ⟨h1, h2, h3, h4, h5, h6⟩ := h
  obtain ⟨g1, g2, g3, g4, g5, g6⟩ := h'
  exact ⟨g1.trans h1, g2.trans h2, g3.trans h3, g4.trans h4, g5.trans h5, g6.trans h6⟩

theorem lineKept_offer (k : LinkState) (e : Event) : k.lineKept (k.offer e) := by
  unfold LinkState.offer
  repeat' split
  all_goals exact ⟨rfl, rfl, rfl, rfl, rfl, rfl⟩

theorem lineKept_offers (evs : List Event) (k : LinkState) :
    k.lineKept (evs.foldl LinkState.offer k) := by
  induction evs generalizing k with
  | nil => exact k.lineKept_refl
  | cons e rest ih => exact LinkState.lineKept_trans (lineKept_offer k e) (ih (k.offer e))

theorem lineKept_of_unsummed {k k' : LinkState} (h : k'.unsummed = k.unsummed) : k.lineKept k' := by
  cases k
  cases k'
  simp only [LinkState.unsummed, LinkState.mk.injEq] at h
  obtain ⟨h1, h2, h3, h4, -, h6, h7, -⟩ := h
  exact ⟨h1, h2, h3, h4, h6, h7⟩

/-! ### Settling, field by field -/

section
variable (s : State) (o : Schedule)

@[simp] theorem settle_elapsed : (s.settle o).elapsed = s.elapsed :=
  (onRecorder_takeTriggers s o.triggers).elapsed
@[simp] theorem settle_millisecondAt : (s.settle o).millisecondAt = s.millisecondAt :=
  (onRecorder_takeTriggers s o.triggers).millisecondAt
@[simp] theorem settle_inReset : (s.settle o).inReset = s.inReset :=
  (onRecorder_takeTriggers s o.triggers).inReset
@[simp] theorem settle_rate : (s.settle o).rate = s.rate := (onRecorder_takeTriggers s o.triggers).rate
@[simp] theorem settle_breakerClosed : (s.settle o).breakerClosed = s.breakerClosed :=
  (onRecorder_takeTriggers s o.triggers).breakerClosed
@[simp] theorem settle_settings : (s.settle o).settings = s.settings :=
  (onRecorder_takeTriggers s o.triggers).settings
@[simp] theorem settle_scanner : (s.settle o).scanner = s.scanner :=
  (onRecorder_takeTriggers s o.triggers).scanner
@[simp] theorem settle_sync : (s.settle o).sync = s.sync := (onRecorder_takeTriggers s o.triggers).sync
@[simp] theorem settle_monitor : (s.settle o).monitor = s.monitor :=
  (onRecorder_takeTriggers s o.triggers).monitor
@[simp] theorem settle_bridges : (s.settle o).bridges = s.bridges :=
  (onRecorder_takeTriggers s o.triggers).bridges
@[simp] theorem settle_regulators : (s.settle o).regulators = s.regulators :=
  (onRecorder_takeTriggers s o.triggers).regulators
@[simp] theorem settle_channels : (s.settle o).channels = s.channels :=
  (onRecorder_takeTriggers s o.triggers).channels
@[simp] theorem settle_trip : (s.settle o).trip = s.trip := (onRecorder_takeTriggers s o.triggers).trip
@[simp] theorem settle_holder : (s.settle o).holder = s.holder :=
  (onRecorder_takeTriggers s o.triggers).holder
@[simp] theorem settle_watchdog : (s.settle o).watchdog = s.watchdog :=
  (onRecorder_takeTriggers s o.triggers).watchdog
@[simp] theorem settle_pending : (s.settle o).pending = s.pending :=
  (onRecorder_takeTriggers s o.triggers).pending

@[simp] theorem settle_bridgeState (b : Index) : (s.settle o).bridgeState b = s.bridgeState b := by
  simp [State.bridgeState]

/-- What the recorder is after a command is what taking the triggers made of it. -/
theorem settle_recorder : (s.settle o).recorder = (s.takeTriggers o.triggers).recorder := rfl

theorem settle_recorder_of_no_trigger (h : s.triggers = []) : (s.settle o).recorder = s.recorder := by
  rw [settle_recorder, takeTriggers_of_empty s _ h]

/-- Of a link, settling changes the summary and the notices alone. -/
theorem settle_lineKept (l : Link) : (s.links.get l).lineKept ((s.settle o).links.get l) := by
  have h := lineKept_of_unsummed ((onRecorder_takeTriggers s o.triggers).links l)
  refine LinkState.lineKept_trans h ?_
  unfold State.settle State.takeNotices
  rw [Both.get_map]
  exact lineKept_offers _ _

/-- Settling takes no flag back. -/
theorem flagsKept_settle : FlagsKept s (s.settle o) := by
  refine (onRecorder_takeTriggers s o.triggers).flags.trans fun l k h => ?_
  unfold State.flagged State.settle State.takeNotices
  rw [Both.get_map]
  exact offers_summary_of_hasBit _ _ _ h

end

/-! ### The frames of a command -/

/-- What the blocks leave alone when they act at an event, a command whose effect they are leaves alone. -/
theorem coreKept_settle {s t : State} (h : Steady s t) (o : Schedule) : s.coreKept (t.settle o) := by
  refine ⟨?_, ?_, ?_, ?_, ?_, ?_, ?_, settle_settled t o, fun l => ?_⟩
  · rw [settle_inReset, h.inReset]
  · rw [settle_rate, h.rate]
  · rw [settle_breakerClosed, h.breakerClosed]
  · rw [settle_settings, h.settings]
  · rw [settle_monitor, h.lowTable]
  · rw [settle_monitor, h.highTable]
  · rw [settle_pending, h.pending]
  · exact LinkState.lineKept_trans (lineKept_of_unsummed (h.links l)) (settle_lineKept t o l)

theorem frameKept_settle {s t : State} (h : Steady s t) (o : Schedule) : s.frameKept (t.settle o) := by
  refine ⟨coreKept_settle h o, ?_, ?_, ?_⟩
  · rw [settle_millisecondAt, h.millisecondAt]
  · rw [settle_holder, h.holder]
  · rw [settle_watchdog, h.watchdog]

end Sys2Proof.Machine
end

section
/-! PROOF. Events announced (R185), the requests on a link's own items, the recorder's requests, and
LOAD_ENVELOPE (R49, R166, R168, R169, R171, R172, R187). -/

namespace Sys2Proof.Machine

theorem announced_link (s : State) (e : Event) (l : Link) :
    (s.announced e).links.get l =
      ({ s.links.get l with summary := addBit (s.links.get l).summary e.row } : LinkState).offer e := by
  simp [State.announced]

theorem announced_flagged (s : State) (e : Event) (l : Link) : (s.announced e).flagged l e.row := by
  unfold State.flagged
  rw [announced_link]
  exact offer_summary_of_hasBit _ _ _ (hasBit_addBit_self _ _ e.row_lt)

/-- No event's flag is NOTICE_LOST. -/
theorem Event.row_ne_noticeLost (e : Event) : (9 : Nat) ≠ e.row := by cases e <;> simp [Event.row]

/-- Settles O40: a single event is announced, and each link's mask and room decide what it does with the
notice. -/
theorem eventsAreAnnounced : Obligations.EventsAreAnnounced := by
  intro s e o l settled t notice
  have ht : t = s.announced e := settle_raise s e o settled
  have hlink : t.links.get l =
      ({ s.links.get l with summary := addBit (s.links.get l).summary e.row } : LinkState).offer e := by
    rw [ht, announced_link]
  refine ⟨ht, fun l' => ht ▸ announced_flagged s e l', fun hm hq => ?room, fun hm hq => ?full,
    fun hm => ?masked, ?line⟩
  case room =>
    rw [hlink, offer_of_room _ e (by exact hm) (by exact hq)]
    rfl
  case full =>
    have hfull := offer_of_full
      ({ s.links.get l with summary := addBit (s.links.get l).summary e.row } : LinkState) e hm hq
    unfold State.flagged
    rw [hlink, hfull]
    exact ⟨rfl, hasBit_addBit_self _ _ (by decide)⟩
  case masked =>
    have hmasked := offer_of_masked
      ({ s.links.get l with summary := addBit (s.links.get l).summary e.row } : LinkState) e hm
    unfold State.flagged
    rw [hlink, hmasked]
    exact ⟨rfl, by rw [hasBit_addBit_of_ne _ _ _ e.row_ne_noticeLost]⟩
  case line =>
    rw [hlink]
    exact LinkState.lineKept_trans ⟨rfl, rfl, rfl, rfl, rfl, rfl⟩ (lineKept_offer _ e)

/-! ### CLEAR_EVENTS and SET_NOTICE_MASK -/

theorem valueOf_pair (a b : Byte) : valueOf [a, b] = a.toNat * 256 + b.toNat := by simp [valueOf]

/-- Settles O52: the two rules change one field of one link, and both name bits beyond the set's. -/
theorem linkItemsAreTheirOwn : Obligations.LinkItemsAreTheirOwn := by
  intro r s a b hears settled payload u k n
  have hn : valueOf [a, b] = n := valueOf_pair a b
  have hset : u.settled := atRequest_settled s r settled
  have hclear := judge_of_open (k := .clearEvents) payload rfl rfl (s := s) rfl
  have hmask := judge_of_open (k := .setNoticeMask) payload rfl rfl (s := s) rfl
  refine ⟨fun h => ?clear, fun h => ?clearBeyond, fun h => ?mask, fun h => ?maskBeyond⟩
  case clear =>
    have hact : u.act r.link .clearEvents [a, b] =
        (u.mapLink r.link (fun k => { k with summary := k.summary &&& ~~~(BitVec.ofNat 13 n) })).accept
          [] := by
      simp [State.act, State.actClearEvents, hn, Nat.not_le.mpr h]
    refine (request_of_quiet s .clearEvents r _ hears (hclear.trans hact) hset).trans ?_
    rw [State.mapLink, atRequest_links_set]
    rfl
  case clearBeyond =>
    have hact : u.act r.link .clearEvents [a, b] = u.refuse .refusedValue := by
      simp [State.act, State.actClearEvents, hn, h]
    exact request_of_quiet s .clearEvents r _ hears (hclear.trans hact) hset
  case mask =>
    have hact : u.act r.link .setNoticeMask [a, b] =
        (u.mapLink r.link (fun k => { k with mask := BitVec.ofNat 9 n })).accept [] := by
      simp [State.act, State.actSetNoticeMask, hn, Nat.not_le.mpr h]
    refine (request_of_quiet s .setNoticeMask r _ hears (hmask.trans hact) hset).trans ?_
    rw [State.mapLink, atRequest_links_set]
    rfl
  case maskBeyond =>
    have hact : u.act r.link .setNoticeMask [a, b] = u.refuse .refusedValue := by
      simp [State.act, State.actSetNoticeMask, hn, h]
    exact request_of_quiet s .setNoticeMask r _ hears (hmask.trans hact) hset

/-! ### LOAD_ENVELOPE -/

/-- Settles O55: the monitor's state is judged first, and then the table named and its validity. -/
theorem loadEnvelopeReplaces : Obligations.LoadEnvelopeReplaces := by
  intro r s which count bytes hears settled holder payload hlen u points answered
  have hset : u.settled := atRequest_settled s r settled
  have hstate : u.monitor.state = s.monitor.state := by rw [atRequest_monitor]
  have hsettings : u.settings = s.settings := atRequest_settings s r
  have hjudge := judge_of_holder (k := .loadEnvelope) payload rfl holder
    (by simp [RequestKind.sizeRight, hlen])
  refine ⟨fun h => ?state, fun h hw hv => ?low, fun h hw hv => ?high, fun h hl hh => ?invalid⟩
  case state =>
    have hact : u.act r.link .loadEnvelope (which :: count :: bytes) = u.refuse .refusedState := by
      simp [State.act, State.actLoadEnvelope, hstate, h]
    exact request_of_quiet s .loadEnvelope r _ hears (hjudge.trans hact) hset
  case low =>
    have hact : u.act r.link .loadEnvelope (which :: count :: bytes) =
        (u.mapMonitor (fun m => { m with lowTable := points })).accept [] := by
      simp [State.act, State.actLoadEnvelope, hstate, h, hw, hsettings, hv, points]
    refine (request_of_quiet s .loadEnvelope r _ hears (hjudge.trans hact) hset).trans ?_
    rw [State.mapMonitor, atRequest_monitor]
    rfl
  case high =>
    have hact : u.act r.link .loadEnvelope (which :: count :: bytes) =
        (u.mapMonitor (fun m => { m with highTable := points })).accept [] := by
      simp [State.act, State.actLoadEnvelope, hstate, h, hw, hsettings, hv, points]
    refine (request_of_quiet s .loadEnvelope r _ hears (hjudge.trans hact) hset).trans ?_
    rw [State.mapMonitor, atRequest_monitor]
    rfl
  case invalid =>
    have hl' : ¬ (which = 0 ∧ validLow s.settings.dipStart points = true) := fun hw => by
      rw [hl hw.1] at hw
      exact Bool.false_ne_true hw.2
    have hh' : ¬ (which = 1 ∧ validHigh s.settings.swellStart points = true) := fun hw => by
      rw [hh hw.1] at hw
      exact Bool.false_ne_true hw.2
    have hact : u.act r.link .loadEnvelope (which :: count :: bytes) = u.refuse .refusedValue := by
      simp only [State.act, State.actLoadEnvelope, hstate, hsettings, h]
      rw [if_neg (by simp), if_neg (by exact hl'), if_neg (by exact hh')]
    exact request_of_quiet s .loadEnvelope r _ hears (hjudge.trans hact) hset

/-! ### The recorder's requests -/

theorem Snapshot.bytes_length (x : Snapshot) : x.bytes.length = 33 := by
  simp [Snapshot.bytes, fieldTick, field32, Three.toList, signed16, field16, Four.toList, fieldCurrent,
    packStacks]

/-- Settles O38: the count, the state and the range are the rule's own three tests. -/
theorem readRecordIsJudgedInOrder : Obligations.ReadRecordIsJudgedInOrder := by
  intro r s a b n hears settled payload first planned shots
  refine ⟨?answer, fun y _ => y.bytes_length⟩
  let u := s.atRequest r
  have hset : u.settled := atRequest_settled s r settled
  have hrec : u.recorder = s.recorder := atRequest_recorder s r
  have hfirst : valueOf [a, b] = first := valueOf_pair a b
  have hplanned : s.recorder.plannedLength = planned := rfl
  have hjudge := judge_of_open (k := .readRecord) payload rfl rfl (s := s) rfl
  have hact : u.act r.link .readRecord [a, b, n] =
      if n.toNat < 1 ∨ 7 < n.toNat then u.refuse .refusedValue
      else if s.recorder.state ≠ .frozen then u.refuse .refusedState
      else if planned ≤ first + n.toNat - 1 then u.refuse .refusedValue
      else u.accept (a :: b :: n :: (shots.map Snapshot.bytes).flatten) := by
    have hcount : (n.toNat = 0 ∨ Config.readRecordMax < n.toNat) ↔ (n.toNat < 1 ∨ 7 < n.toNat) := by
      unfold Config.readRecordMax
      omega
    simp only [State.act, State.actReadRecord, List.take, List.getD_cons_succ, List.getD_cons_zero,
      hfirst, hrec, hplanned, hcount]
    split
    · rfl
    case isFalse hn =>
      have hrange : planned < first + n.toNat ↔ planned ≤ first + n.toNat - 1 := by omega
      simp only [hrange]
      rfl
  refine (request_of_quiet s .readRecord r _ hears (hjudge.trans hact) ?_).trans ?_
  · split_ifs <;> exact hset
  · split_ifs <;> rfl

/-- RECORD_TRIGGER of an enabled source takes its trigger at once (R169). -/
theorem actRecordTrigger_of_enabled (s : State) (hset : s.settled)
    (h : hasBit s.settings.recTriggers 4 = true) :
    s.actRecordTrigger =
      (s.takeTrigger ⟨.recordTrigger, s.counter, !s.anyRunning⟩).accept
        [byteOf (s.takeTrigger ⟨.recordTrigger, s.counter, !s.anyRunning⟩).recorder.state.code] := by
  obtain ⟨-, htrig⟩ := hset
  have hone : (s.trigger .recordTrigger).triggers = [⟨.recordTrigger, s.counter, !s.anyRunning⟩] := by
    rw [trigger_of_enabled s .recordTrigger h, htrig]
    rfl
  have htake : (s.trigger .recordTrigger).takeTriggers 0 =
      s.takeTrigger ⟨.recordTrigger, s.counter, !s.anyRunning⟩ := by
    rw [takeTriggers_singleton _ _ _ hone, trigger_of_enabled s .recordTrigger h]
    congr 1
    rw [← htrig]
  unfold State.actRecordTrigger
  rw [if_pos (show hasBit s.settings.recTriggers TriggerSource.recordTrigger.bit = true from h)]
  dsimp only
  rw [htake]

theorem mapRecorder_eq (s : State) (f : Recorder → Recorder) :
    s.mapRecorder f = { s with recorder := f s.recorder } := rfl

/-- Settles O39: the trigger is taken within the request, and RECORD_RELEASE asks for the recorder's
state. -/
theorem recorderRequestsAct : Obligations.RecorderRequestsAct := by
  intro r s hears settled holder payload u
  have hset : u.settled := atRequest_settled s r settled
  have hrec : u.recorder = s.recorder := atRequest_recorder s r
  have hsettings : u.settings = s.settings := atRequest_settings s r
  have htrigger := judge_of_holder (k := .recordTrigger) payload rfl holder rfl
  have hrelease := judge_of_holder (k := .recordRelease) payload rfl holder rfl
  refine ⟨fun h => ?disabled, fun h ha => ?captures, fun h ha => ?missed, fun hf => ?frozen,
    fun ha => ?armed, fun hc => ?capturing⟩
  case disabled =>
    have hact : u.act r.link .recordTrigger [] = u.refuse .refusedState := by
      simp [State.act, State.actRecordTrigger, hsettings, TriggerSource.bit, h]
    exact request_of_quiet s .recordTrigger r _ hears (htrigger.trans hact) hset
  case captures =>
    intro header
    have hheader : (!u.anyRunning) = decide (∀ b, s.bridgeState b ≠ .running) := by
      rw [not_anyRunning]
      simp only [u, atRequest_bridgeState]
    have hact : u.act r.link .recordTrigger [] =
        (({ u with
          recorder :=
            { s.recorder with
              state := .capturing, header := some header, missed := 0 } } : State).raise
          (.record false .recordTrigger)).accept [0x01] := by
      refine (actRecordTrigger_of_enabled u hset (hsettings ▸ h)).trans ?_
      rw [takeTrigger_of_armed u _ (by rw [hrec, ha]), State.startCapture, mapRecorder_eq, hrec, hsettings,
        hheader]
      rfl
    change s.request .recordTrigger r = _
    rw [request_of_holder s .recordTrigger r hears rfl holder (by rw [payload]; rfl), payload, hact,
      reply_accept_raise _ _ _ _ _ _ _ (by exact hset)]
    rfl
  case missed =>
    have hact : u.act r.link .recordTrigger [] =
        ({ u with
          recorder := { s.recorder with missed := min (s.recorder.missed + 1) 255 } } : State).accept
          [byteOf s.recorder.state.code] := by
      refine (actRecordTrigger_of_enabled u hset (hsettings ▸ h)).trans ?_
      rw [takeTrigger_of_not_armed u _ (by rwa [hrec]), mapRecorder_eq, hrec]
    have hcode : byteOf s.recorder.state.code =
        if s.recorder.state = RecorderState.capturing then 0x01 else 0x02 := by
      cases hs : s.recorder.state
      · exact absurd hs ha
      · rfl
      · rfl
    refine (request_of_quiet s .recordTrigger r _ hears (htrigger.trans hact) hset).trans ?_
    rw [← hcode]
    rfl
  case frozen =>
    have hact : u.act r.link .recordRelease [] = (u.mapRecorder Recorder.released).accept [] := by
      simp [State.act, State.actRecordRelease, hrec, hf]
    exact request_of_quiet s .recordRelease r _ hears (hrelease.trans hact) hset
  case armed =>
    have hact : u.act r.link .recordRelease [] = u.accept [] := by
      simp [State.act, State.actRecordRelease, hrec, ha]
    exact request_of_quiet s .recordRelease r _ hears (hrelease.trans hact) hset
  case capturing =>
    have hact : u.act r.link .recordRelease [] = u.refuse .refusedState := by
      simp [State.act, State.actRecordRelease, hrec, hc]
    exact request_of_quiet s .recordRelease r _ hears (hrelease.trans hact) hset

end Sys2Proof.Machine
end

section
/-! PROOF. Values written into bytes and read back: fields (R195), course steps (R202, R203), record frames
(R178, R179). -/

namespace Sys2Proof.Machine

/-! ### Fields (R195) -/

theorem byteOf_toNat (n : Nat) : (byteOf n).toNat = n % 256 := by simp [byteOf]

@[simp] theorem field16_length (n : Nat) : (field16 n).length = 2 := rfl
@[simp] theorem field32_length (n : Nat) : (field32 n).length = 4 := rfl

theorem valueOf_field16 (n : Nat) (h : n < 65536) : valueOf (field16 n) = n := by
  simp only [valueOf, field16, List.foldl_cons, List.foldl_nil, byteOf_toNat]
  omega

theorem valueOf_field32 (n : Nat) (h : n < 4294967296) : valueOf (field32 n) = n := by
  simp only [valueOf, field32, List.foldl_cons, List.foldl_nil, byteOf_toNat]
  omega

theorem byteOf_toNat_self (b : Byte) (n : Nat) (h : n % 256 = b.toNat) : byteOf n = b := by
  apply BitVec.eq_of_toNat_eq
  rw [byteOf_toNat, h]

/-- Four bytes read as an unsigned value are written back as they were. -/
theorem field32_valueOf (bytes : List Byte) (h : bytes.length = 4) :
    field32 (valueOf bytes) = bytes := by
  obtain ⟨a, b, c, d, rfl⟩ : ∃ a b c d, bytes = [a, b, c, d] := by
    match bytes, h with
    | [a, b, c, d], _ => exact ⟨a, b, c, d, rfl⟩
  have ha := a.isLt
  have hb := b.isLt
  have hc := c.isLt
  have hd := d.isLt
  simp only [valueOf, field32, List.foldl_cons, List.foldl_nil, List.cons.injEq, and_true]
  exact ⟨byteOf_toNat_self a _ (by omega), byteOf_toNat_self b _ (by omega),
    byteOf_toNat_self c _ (by omega), byteOf_toNat_self d _ (by omega)⟩

theorem valueOf_lt (bytes : List Byte) (h : bytes.length = 4) : valueOf bytes < 4294967296 := by
  obtain ⟨a, b, c, d, rfl⟩ : ∃ a b c d, bytes = [a, b, c, d] := by
    match bytes, h with
    | [a, b, c, d], _ => exact ⟨a, b, c, d, rfl⟩
  have ha := a.isLt
  have hb := b.isLt
  have hc := c.isLt
  have hd := d.isLt
  simp only [valueOf, List.foldl_cons, List.foldl_nil]
  omega

/-- A signed field is written back as the bytes it was read from. -/
theorem signed32_signedValueOf (bytes : List Byte) (h : bytes.length = 4) :
    signed32 (signedValueOf bytes) = bytes := by
  have hlt := valueOf_lt bytes h
  have hmod : (signedValueOf bytes % 4294967296).toNat = valueOf bytes := by
    unfold signedValueOf
    dsimp only
    split <;> omega
  rw [signed32, hmod, field32_valueOf bytes h]

/-! ### Course steps (Table 10-6) -/

/-- The presence byte of a step with a hold, a CALM gate, a wait, a barrier and a tag, or without. -/
def presenceByte (hold calm wait barrier tag : Bool) : Byte :=
  byteOf (flagBit hold 0 + flagBit calm 1 + flagBit wait 2 + (if barrier then 8 else 0) + flagBit tag 4)

theorem presenceByte_hold (h c w b t : Bool) : hasBit (presenceByte h c w b t) 0 = h := by
  revert h c w b t
  decide

theorem presenceByte_calm (h c w b t : Bool) : hasBit (presenceByte h c w b t) 1 = c := by
  revert h c w b t
  decide

theorem presenceByte_wait (h c w b t : Bool) : hasBit (presenceByte h c w b t) 2 = w := by
  revert h c w b t
  decide

theorem presenceByte_barrier (h c w b t : Bool) : hasBit (presenceByte h c w b t) 3 = b := by
  revert h c w b t
  decide

theorem presenceByte_tag (h c w b t : Bool) : hasBit (presenceByte h c w b t) 4 = t := by
  revert h c w b t
  decide

theorem presenceByte_lt (h c w b t : Bool) : (presenceByte h c w b t).toNat < 32 := by
  revert h c w b t
  decide

/-- The step waits at a barrier. -/
def CourseStep.hasBarrier (p : CourseStep) : Bool :=
  match p.wait with
  | some (.barrier _ _) => true
  | _ => false

theorem CourseStep.presence_eq (p : CourseStep) :
    p.presence = presenceByte p.hold.isSome p.calm p.wait.isSome p.hasBarrier p.tag.isSome := by
  unfold CourseStep.presence presenceByte CourseStep.hasBarrier
  rcases p.wait with _ | (_ | ⟨tag, mask⟩) <;> rfl

/-- The hold, barrier and tag fields of a step as they are written. -/
def CourseStep.holdBytes (p : CourseStep) : List Byte :=
  match p.hold with | some h => field32 h | none => []

def CourseStep.barrierBytes (p : CourseStep) : List Byte :=
  match p.wait with | some (.barrier tag mask) => [tag, byteOf mask.toNat] | _ => []

def CourseStep.tagBytes (p : CourseStep) : List Byte :=
  match p.tag with | some t => [t] | none => []

/-- What follows the presence byte. -/
def CourseStep.fields (p : CourseStep) : List Byte :=
  field16 p.target ++ (field16 p.rate ++ (p.holdBytes ++ (p.barrierBytes ++ p.tagBytes)))

theorem CourseStep.bytes_eq (p : CourseStep) : p.bytes = p.presence :: p.fields := by
  simp only [CourseStep.bytes, CourseStep.fields, CourseStep.holdBytes, CourseStep.barrierBytes,
    CourseStep.tagBytes, List.append_assoc] <;> rfl

theorem CourseStep.holdBytes_length (p : CourseStep) :
    p.holdBytes.length = if hasBit p.presence 0 then 4 else 0 := by
  rw [p.presence_eq, presenceByte_hold]
  unfold CourseStep.holdBytes
  cases p.hold <;> rfl

theorem CourseStep.barrierBytes_length (p : CourseStep) :
    p.barrierBytes.length = if hasBit p.presence 3 then 2 else 0 := by
  rw [p.presence_eq, presenceByte_barrier]
  unfold CourseStep.barrierBytes CourseStep.hasBarrier
  split <;> rfl

theorem CourseStep.tagBytes_length (p : CourseStep) :
    p.tagBytes.length = if hasBit p.presence 4 then 1 else 0 := by
  rw [p.presence_eq, presenceByte_tag]
  unfold CourseStep.tagBytes
  cases p.tag <;> rfl

theorem CourseStep.fields_length (p : CourseStep) :
    p.fields.length + 1 = stepSize p.presence := by
  simp only [CourseStep.fields, List.length_append, field16_length, p.holdBytes_length,
    p.barrierBytes_length, p.tagBytes_length, stepSize]
  omega

/-- The optional fields are split where the presence byte says. -/
theorem CourseStep.stepParts_fields (p : CourseStep) :
    stepParts p.presence (p.holdBytes ++ (p.barrierBytes ++ p.tagBytes)) =
      (p.holdBytes, p.barrierBytes, p.tagBytes) := by
  unfold stepParts
  dsimp only
  rw [← p.holdBytes_length, ← p.barrierBytes_length, List.take_left, List.drop_left, List.take_left,
    ← List.drop_drop, List.drop_left, List.drop_left]

/-- A barrier's mask is written in one byte and keeps the channel's bit. -/
theorem maskByte (mask : BitVec 4) (c : Index) (h : hasBit mask c.val = true) :
    byteOf mask.toNat ≠ 0 ∧ (byteOf mask.toNat).toNat < 16 ∧ hasBit (byteOf mask.toNat) c.val = true ∧
      BitVec.ofNat 4 (byteOf mask.toNat).toNat = mask := by
  revert mask c
  decide

/-- The mask field of a step is one that APPEND_STEP accepts for its channel (R203). -/
theorem CourseStep.mask_valid (p : CourseStep) (c : Index)
    (hmask : ∀ tag mask, p.wait = some (.barrier tag mask) → hasBit mask c.val = true)
    (hb : p.hasBarrier = true) :
    p.barrierBytes.getD 1 0 ≠ 0 ∧ (p.barrierBytes.getD 1 0).toNat < 16 ∧
      hasBit (p.barrierBytes.getD 1 0) c.val = true := by
  unfold CourseStep.hasBarrier at hb
  split at hb
  case h_1 tag mask hw =>
    obtain ⟨hne, hlt, hbit, -⟩ := maskByte mask c (hmask tag mask hw)
    simp only [CourseStep.barrierBytes, hw]
    exact ⟨hne, hlt, hbit⟩
  case h_2 => exact absurd hb (by decide)

/-- The hold, the wait and the tag that the fields are read as. -/
theorem CourseStep.hold_read (p : CourseStep) (h : ∀ n, p.hold = some n → n < 4294967296) :
    (if p.hold.isSome then some (valueOf p.holdBytes) else none) = p.hold := by
  unfold CourseStep.holdBytes
  cases hp : p.hold with
  | none => rfl
  | some n => simp [valueOf_field32 n (h n hp)]

theorem CourseStep.wait_read (p : CourseStep) (c : Index)
    (hmask : ∀ tag mask, p.wait = some (.barrier tag mask) → hasBit mask c.val = true) :
    (if p.hasBarrier then
        some (CourseWait.barrier (p.barrierBytes.getD 0 0)
          (BitVec.ofNat 4 (p.barrierBytes.getD 1 0).toNat))
      else if p.wait.isSome then some .release else none) = p.wait := by
  cases hw : p.wait with
  | none => simp [CourseStep.hasBarrier, hw]
  | some w =>
    cases w with
    | release => simp [CourseStep.hasBarrier, hw]
    | barrier tag mask =>
      obtain ⟨-, -, -, hback⟩ := maskByte mask c (hmask tag mask hw)
      simp only [CourseStep.hasBarrier, CourseStep.barrierBytes, hw, if_true, List.getD_cons_zero,
        List.getD_cons_succ, hback]

theorem CourseStep.tag_read (p : CourseStep) :
    (if p.tag.isSome then some (p.tagBytes.getD 0 0) else none) = p.tag := by
  unfold CourseStep.tagBytes
  cases p.tag <;> rfl

/-- Settles O31: the presence byte gives each optional field its place, and each field reads back. -/
theorem courseStepRoundTrip : Obligations.CourseStepRoundTrip := by
  intro c p htarget hrate hrate' hhold hcalm hmask
  refine ⟨p.presence, p.fields, p.bytes_eq, p.fields_length, ?_⟩
  have htake : p.fields.take 2 = field16 p.target := rfl
  have hdrop : (p.fields.drop 2).take 2 = field16 p.rate := rfl
  have hrest : p.fields.drop 4 = p.holdBytes ++ (p.barrierBytes ++ p.tagBytes) := rfl
  have hvt : valueOf (field16 p.target) = p.target := valueOf_field16 _ (by omega)
  have hvr : valueOf (field16 p.rate) = p.rate := valueOf_field16 _ (by omega)
  have hlt : ¬ 32 ≤ p.presence.toNat := by
    rw [p.presence_eq]
    exact Nat.not_le.mpr (presenceByte_lt _ _ _ _ _)
  have h0 : hasBit p.presence 0 = p.hold.isSome := by rw [p.presence_eq, presenceByte_hold]
  have h1 : hasBit p.presence 1 = p.calm := by rw [p.presence_eq, presenceByte_calm]
  have h2 : hasBit p.presence 2 = p.wait.isSome := by rw [p.presence_eq, presenceByte_wait]
  have h3 : hasBit p.presence 3 = p.hasBarrier := by rw [p.presence_eq, presenceByte_barrier]
  have h4 : hasBit p.presence 4 = p.tag.isSome := by rw [p.presence_eq, presenceByte_tag]
  have hgate : ¬ ((p.calm && !p.hold.isSome) = true) := by
    cases hc : p.calm
    · simp
    · simp [hcalm hc]
  have hwait : ¬ ((p.hasBarrier && !p.wait.isSome) = true) := by
    unfold CourseStep.hasBarrier
    cases p.wait <;> simp
  have hlong : ¬ ((p.hold.isSome && (valueOf p.holdBytes == 0 ||
      decide (3600000 < valueOf p.holdBytes))) = true) := by
    cases hp : p.hold with
    | none => simp
    | some n =>
      obtain ⟨hpos, hmax⟩ := hhold n hp
      have hv : valueOf (field32 n) = n := valueOf_field32 n (by omega)
      simp only [CourseStep.holdBytes, hp, hv]
      simp
      omega
  have hbar : ¬ ((p.hasBarrier && (p.barrierBytes.getD 1 0 == 0 ||
      decide (16 ≤ (p.barrierBytes.getD 1 0).toNat) || !hasBit (p.barrierBytes.getD 1 0) c.val)) = true) := by
    cases hb : p.hasBarrier
    · simp
    · obtain ⟨hne, hlt, hbit⟩ := p.mask_valid c hmask hb
      rw [hbit, beq_eq_false_iff_ne.mpr hne, decide_eq_false (Nat.not_le.mpr hlt)]
      decide
  unfold readStep
  dsimp only
  rw [htake, hdrop, hrest, p.stepParts_fields, hvt, hvr, h0, h1, h2, h3, h4, if_neg hlt, if_neg hgate,
    if_neg hwait, if_neg (by omega), if_neg (by omega), if_neg hlong, if_neg hbar,
    p.hold_read (fun n hn => by have := hhold n hn; omega), p.wait_read c hmask, p.tag_read]

/-! ### Record frames -/

/-- Bytes of a received record that are all to be passed leave nothing (R179). -/
theorem examine_skip (gap : Bool) (n : Nat) (held : List HeldByte) (h : held.length ≤ n) :
    examine gap n held = ⟨[], []⟩ := by
  induction held generalizing n with
  | nil => cases n <;> rfl
  | cons b rest ih =>
    cases n with
    | zero => exact absurd h (by simp)
    | succ n => exact ih n (by simpa using h)

theorem examine_received (gap : Bool) (b : HeldByte) (rest : List HeldByte) (size : Nat)
    (kind tag : Byte) (payload : List Byte) (hb : b.byte.toNat = 165)
    (hj : judge rest = .received size kind tag payload) :
    examine gap 0 (b :: rest) = (examine gap (size - 1) rest).after (.record kind tag payload) := by
  simp [examine, Config.syncByte, hb, hj]

/-- A whole body with its check is a record (R178). -/
theorem judgeBody_of_frame (x : OutRecord) (h : x.payload.length ≤ 248) :
    judgeBody (byteOf (x.payload.length + 2))
        (x.kind :: x.tag :: x.payload ++
          field16 (checkOf (byteOf (x.payload.length + 2) :: x.kind :: x.tag :: x.payload)).toNat) =
      .received (x.payload.length + 6) x.kind x.tag x.payload := by
  have hlen : (byteOf (x.payload.length + 2)).toNat = x.payload.length + 2 := by
    rw [byteOf_toNat]
    omega
  have htake : ∀ tail : List Byte,
      (x.kind :: x.tag :: x.payload ++ tail).take (x.payload.length + 2) =
        x.kind :: x.tag :: x.payload := fun tail =>
    List.take_left' (l₁ := x.kind :: x.tag :: x.payload) rfl
  have hdrop : ∀ tail : List Byte,
      (x.kind :: x.tag :: x.payload ++ tail).drop (x.payload.length + 2) = tail := fun tail =>
    List.drop_left' (l₁ := x.kind :: x.tag :: x.payload) rfl
  unfold judgeBody
  rw [hlen, htake, hdrop, if_neg (by simp only [Config.lengthMin, Config.lengthMax]; omega),
    if_neg (by simp), if_pos (by rfl)]
  rfl

/-- Settles O45: the frame's length and check are those the receiver asks for, and the record's bytes are
then passed over. -/
theorem framesReadBack : Obligations.FramesReadBack := by
  intro x held hpay hheld
  cases held with
  | nil => exact absurd hheld (by simp [OutRecord.frame])
  | cons b rest =>
    have hframe : x.frame =
        byteOf 165 :: byteOf (x.payload.length + 2) :: (x.kind :: x.tag :: x.payload ++
          field16 (checkOf (byteOf (x.payload.length + 2) :: x.kind :: x.tag :: x.payload)).toNat) := rfl
    rw [hframe, List.map_cons, List.cons.injEq] at hheld
    obtain ⟨hb, hrest⟩ := hheld
    have hjudge : judge rest = .received (x.payload.length + 6) x.kind x.tag x.payload := by
      unfold judge
      rw [hrest]
      exact judgeBody_of_frame x hpay
    have hlen : rest.length = x.payload.length + 5 := by
      have := congrArg List.length hrest
      simpa using this
    rw [examine_received false b rest _ _ _ _ (by rw [hb]; decide) hjudge,
      examine_skip false _ rest (by omega)]
    rfl

/-! ### Bytes arriving (R179, R180) -/

theorem Both.set_set {α : Type} (q : Both α) (l : Link) (x y : α) : (q.set l x).set l y = q.set l y := by
  cases l <;> rfl

/-- A byte outside a break: its line is at mark, and what the examination comes to is taken in order. -/
theorem byteArrives_of_running (s : State) (l : Link) (b : Byte) (o : Schedule)
    (h : (s.links.get l).brk ≠ .inBreak) :
    s.byteArrives l b o =
      ((s.links.get l).takeByte ⟨b, s.counter⟩).acts.foldl (fun t a => t.rxAct l o a)
        { s with
          links :=
            s.links.set l
              { s.links.get l with
                brk := .mark, heldBytes := ((s.links.get l).takeByte ⟨b, s.counter⟩).held } } := by
  have hb : s.inBreak l = false := by
    unfold State.inBreak
    exact beq_eq_false_iff_ne.mpr h
  unfold State.byteArrives
  rw [hb, if_neg Bool.false_ne_true]
  unfold State.examined State.mapLink
  rw [Both.get_set_self, Both.set_set]
  rfl

theorem rxAct_settled (s : State) (l : Link) (o : Schedule) (a : RxAct) (h : s.settled) :
    (s.rxAct l o a).settled := by
  cases a with
  | frameError => exact h
  | record kind tag payload =>
    unfold State.rxAct State.takeRecord
    dsimp only
    split
    · unfold State.heardFrom
      split <;> exact h
    · exact settle_settled _ _

theorem rxActs_settled (acts : List RxAct) (s : State) (l : Link) (o : Schedule) (h : s.settled) :
    (acts.foldl (fun t a => t.rxAct l o a) s).settled := by
  induction acts generalizing s with
  | nil => exact h
  | cons a rest ih => exact ih _ (rxAct_settled s l o a h)

/-- A byte that arrives outside reset and break, as a command. -/
theorem exec_byteArrival_of_running (l : Link) (b : Byte) (wait : Nat) (o : Schedule) (s : State)
    (hready : s.ready) (h : (s.links.get l).brk ≠ .inBreak) (x : Examined)
    (hx : (s.links.get l).takeByte ⟨b, (s.runFor wait).counter⟩ = x) :
    exec (.byteArrival l b wait o) s =
      .next (x.acts.foldl (fun t a => t.rxAct l o a)
        { s.runFor wait with
          links := s.links.set l { s.links.get l with brk := .mark, heldBytes := x.held } }) := by
  obtain ⟨hrun, hset⟩ := hready
  have harrives := byteArrives_of_running (s.runFor wait) l b o h
  rw [State.runFor_links, hx] at harrives
  rw [exec_byteArrival, take_eq_of_quiet hrun harrives (rxActs_settled _ _ _ _ (by exact hset))]

theorem syncByte_toNat : (0xA5 : Byte).toNat = Config.syncByte := rfl

theorem examine_cons_of_sync (gap : Bool) (b : HeldByte) (rest : List HeldByte) (h : b.byte = 0xA5) :
    examine gap 0 (b :: rest) =
      match judge rest with
      | .incomplete =>
        if gap then (examine gap 0 rest).after .frameError else ⟨b :: rest, []⟩
      | .failed => (examine gap 0 rest).after .frameError
      | .received size kind tag payload =>
        (examine gap (size - 1) rest).after (.record kind tag payload) := by
  simp only [examine, h, syncByte_toNat, if_true] <;> rfl

theorem examine_cons_of_not_sync (gap : Bool) (b : HeldByte) (rest : List HeldByte)
    (h : b.byte ≠ 0xA5) : examine gap 0 (b :: rest) = examine gap 0 rest := by
  have hne : b.byte.toNat ≠ Config.syncByte := fun hn => h (BitVec.eq_of_toNat_eq hn)
  simp only [examine, if_neg hne]

theorem judge_of_body (rest : List HeldByte) (len : Byte) (tail : List Byte)
    (h : rest.map (fun y => y.byte) = len :: tail) : judge rest = judgeBody len tail := by
  unfold judge
  rw [h]

theorem judgeBody_incomplete (len : Byte) (tail : List Byte) (h2 : 2 ≤ len.toNat)
    (h250 : len.toNat ≤ 250) (h : tail.length < len.toNat + 2) : judgeBody len tail = .incomplete := by
  unfold judgeBody
  rw [if_neg (by simp only [Config.lengthMin, Config.lengthMax]; omega), if_pos h]

theorem judgeBody_failed (len : Byte) (tail : List Byte)
    (h : (len.toNat < 2 ∨ 250 < len.toNat) ∨
      (tail.length = len.toNat + 2 ∧
        field16 (checkOf (len :: tail.take len.toNat)).toNat ≠ tail.drop len.toNat)) :
    judgeBody len tail = .failed := by
  unfold judgeBody Config.lengthMin Config.lengthMax
  split_ifs with hlen hshort hcheck
  · rfl
  · omega
  · obtain ⟨hl, hne⟩ := h.resolve_left hlen
    have hdrop : (tail.drop len.toNat).take 2 = tail.drop len.toNat :=
      List.take_of_length_le (by rw [List.length_drop]; omega)
    exact absurd (hcheck.trans hdrop) hne
  · rfl

/-- Settles O44: the receiver examines the bytes held with the new one, and each verdict has its clause. -/
theorem arrivingBytesMakeRecords : Obligations.ArrivingBytesMakeRecords := by
  intro l b wait o s ready nobreak u
  have hexec := exec_byteArrival_of_running l b wait o s ready nobreak
  refine ⟨fun hheld hb => ?dropped, fun hheld hb => ?sync, fun h rest len tail hheld hh hbytes =>
    ⟨fun h2 h250 hshort => ?further, fun hfail => ?failed⟩, fun x hpay hbytes => ?record⟩
  case dropped =>
    have hx : (s.links.get l).takeByte ⟨b, u.counter⟩ = ⟨[], []⟩ := by
      unfold LinkState.takeByte
      rw [hheld, List.nil_append, examine_cons_of_not_sync _ _ _ (by exact hb)]
      rfl
    rw [hexec _ hx, ← hheld]
    rfl
  case sync =>
    have hx : (s.links.get l).takeByte ⟨b, u.counter⟩ = ⟨[⟨b, u.counter⟩], []⟩ := by
      unfold LinkState.takeByte
      rw [hheld, List.nil_append, examine_cons_of_sync _ _ _ (by exact hb)]
      rfl
    rw [hexec _ hx]
    rfl
  case further =>
    have hjudge : judge (rest ++ [⟨b, u.counter⟩]) = .incomplete := by
      rw [judge_of_body _ len tail (by simpa using hbytes)]
      exact judgeBody_incomplete len tail h2 h250 hshort
    have hx : (s.links.get l).takeByte ⟨b, u.counter⟩ = ⟨h :: rest ++ [⟨b, u.counter⟩], []⟩ := by
      unfold LinkState.takeByte
      rw [hheld, List.cons_append, examine_cons_of_sync _ _ _ hh, hjudge]
      rfl
    rw [hexec _ hx]
    rfl
  case failed =>
    have hjudge : judge (rest ++ [⟨b, u.counter⟩]) = .failed := by
      rw [judge_of_body _ len tail (by simpa using hbytes)]
      exact judgeBody_failed len tail hfail
    have hx : (s.links.get l).takeByte ⟨b, u.counter⟩ =
        (examine false 0 (rest ++ [⟨b, u.counter⟩])).after .frameError := by
      unfold LinkState.takeByte
      rw [hheld, List.cons_append, examine_cons_of_sync _ _ _ hh, hjudge]
    intro again
    rw [hexec _ hx]
    unfold Examined.after
    rw [List.foldl_cons]
    unfold State.rxAct State.mapLink
    rw [Both.get_set_self, Both.set_set]
    rfl
  case record =>
    have hx : (s.links.get l).takeByte ⟨b, u.counter⟩ = ⟨[], [.record x.kind x.tag x.payload]⟩ :=
      framesReadBack x _ hpay (by simpa using hbytes)
    rw [hexec _ hx]
    rfl

end Sys2Proof.Machine
end

section
/-! PROOF. SET_SETTING, judged and accepted (R200, R201), and SYNC_RESTART (R25, R43). -/

namespace Sys2Proof.Machine

/-! ### The restart of a stopped train's synchroniser -/

theorem atRequest_stopped (s : State) (r : Request) : (s.atRequest r).stopped = s.stopped := by
  simp [State.stopped]

theorem phaseLost_of_stopped (s : State) (h : s.stopped = true) (b : Index) : s.phaseLost b = s := by
  obtain hb | hb := (stopped_iff s).mp h b
  all_goals simp [State.phaseLost, hb]

theorem forAll_of_fixed (s : State) (order : List Index) (f : Index → State → State)
    (h : ∀ b, f b s = s) : s.forAll order f = s := by
  unfold State.forAll
  induction order with
  | nil => rfl
  | cons b rest ih => rw [List.foldl_cons, h b, ih]

/-- Raising a trigger leaves all but the triggers alone. -/
theorem trigger_eq (s : State) (x : TriggerSource) :
    ∃ l, s.trigger x = { s with triggers := l } := by
  unfold State.trigger
  split
  · exact ⟨_, rfl⟩
  · exact ⟨s.triggers, rfl⟩

/-- With no bridge to block, a restart touches the synchroniser and the excursion, and raises its event
and, from LOCKED, its trigger (R40, R64, R165). -/
theorem restartSync_of_stopped (s : State) (h : s.stopped = true) :
    ∃ l, (s.sync.state ≠ .locked → l = s.triggers) ∧
      s.restartSync =
        (({ s with sync := s.sync.restarted s.settings, triggers := l }).raise
          (.sync .acquiring none)).mapMonitor Monitor.excursionCleared := by
  let s0 := s.mapSync (fun y => y.restarted s.settings)
  let s1 := if s.sync.state = .locked ∧ s0.sync.state ≠ .locked then s0.trigger .syncLeftLocked else s0
  have hev : s.restartSync =
      ((s1.raise (.sync .acquiring none)).mapMonitor Monitor.excursionCleared).forAll Index.all
        (fun b t => t.phaseLost b) := rfl
  obtain ⟨l, hl, h1⟩ : ∃ l, (s.sync.state ≠ .locked → l = s.triggers) ∧
      s1 = { s with sync := s.sync.restarted s.settings, triggers := l } := by
    by_cases hk : s.sync.state = .locked
    · obtain ⟨l, hl⟩ := trigger_eq s0 .syncLeftLocked
      exact ⟨l, fun hn => absurd hk hn, (if_pos ⟨hk, by exact SyncState.noConfusion⟩).trans hl⟩
    · exact ⟨s.triggers, fun _ => rfl, if_neg fun hn => hk hn.1⟩
  refine ⟨l, hl, ?_⟩
  rw [hev, forAll_of_fixed _ _ _ (phaseLost_of_stopped _ (by rw [h1]; exact h)), h1]

/-- What a restart by an accepted request of a stopped train answers, field by field. `w` is the state in
which the reply is queued. -/
theorem restart_answer (w : State) (l : Link) (x : OutRecord) (o : Schedule) (h : w.stopped = true) :
    let t := (w.restartSync.withReply l x).settle o
    t.sync = w.sync.restarted w.settings ∧ (∀ k, t.flagged k 0) ∧
      t.monitor = { w.monitor with excursionTimer := 0, excursionTripped := false } ∧
      (w.sync.state ≠ .locked → w.triggers = [] → t.recorder = w.recorder) ∧
      (t.links.get l).replies = (w.links.get l).replies ++ [x] ∧
      t.elapsed = w.elapsed ∧ t.settings = w.settings ∧ t.scanner = w.scanner ∧
      t.bridges = w.bridges ∧ t.regulators = w.regulators ∧ t.channels = w.channels ∧
      t.trip = w.trip ∧ t.holder = w.holder ∧ t.watchdog = w.watchdog ∧ t.pending = w.pending := by
  intro t
  obtain ⟨tr, htr, heq⟩ := restartSync_of_stopped w h
  have ht : t = ((((({ w with sync := w.sync.restarted w.settings, triggers := tr } : State).raise
      (.sync .acquiring none)).mapMonitor Monitor.excursionCleared).withReply l x).settle o) := by
    rw [← heq]
  have hflag : ∀ k, t.flagged k 0 := by
    intro k
    rw [ht]
    refine flagsKept_settle _ o k 0 ?_
    unfold State.flagged State.withReply State.mapMonitor State.raise State.mapLink
    cases l <;> cases k <;> exact hasBit_addBit_self _ 0 (by decide)
  have hreplies : (t.links.get l).replies = (w.links.get l).replies ++ [x] := by
    obtain ⟨-, -, -, hr, -⟩ := settle_lineKept
      ((((({ w with sync := w.sync.restarted w.settings, triggers := tr } : State).raise
        (.sync .acquiring none)).mapMonitor Monitor.excursionCleared).withReply l x)) o l
    rw [ht, hr]
    simp [State.withReply]
  refine ⟨?_, hflag, ?_, fun hk hnone => ?_, hreplies, ?_, ?_, ?_, ?_, ?_, ?_, ?_, ?_, ?_, ?_⟩
  case _ => rw [ht, settle_sync]; rfl
  case _ => rw [ht, settle_monitor]; rfl
  case _ => rw [ht, settle_recorder_of_no_trigger _ _ (by exact (htr hk).trans hnone)]; rfl
  all_goals
    rw [ht]
    simp only [settle_elapsed, settle_settings, settle_scanner, settle_bridges, settle_regulators,
      settle_channels, settle_trip, settle_holder, settle_watchdog, settle_pending]
    rfl

/-- Settles O56: with every bridge stopped the restart's events block none, and no other state is
admitted. -/
theorem syncRestartUnanchors : Obligations.SyncRestartUnanchors := by
  intro r s hears settled holder payload
  have hset := atRequest_settled s r settled
  have hjudge := judge_of_holder (k := .syncRestart) payload rfl holder rfl
  refine ⟨fun hstop => ?restarts, fun ⟨b, hb, hl⟩ => ?refused⟩
  case restarts =>
    have hs : (s.atRequest r).stopped = true := (atRequest_stopped s r).trans ((stopped_iff s).mpr hstop)
    have hact : (s.atRequest r).act r.link .syncRestart [] =
        (s.atRequest r).restartSync.accept [] := by
      simp [State.act, State.actSyncRestart, hs]
    have hexec := request_of_holder s .syncRestart r hears rfl holder (by rw [payload]; rfl)
    rw [payload, hact] at hexec
    obtain ⟨hsync, hflags, -, -, hreplies, helapsed, hsettings, hscanner, hbridges, hregulators,
      hchannels, htrip, hholder, -, hpending⟩ := restart_answer (s.atRequest r) r.link
        ⟨0x5B, r.tag, [0x00]⟩ r.order hs
    refine ⟨_, hexec, hsync.trans ?_, hflags, hreplies.trans ?_, helapsed.trans ?_, hsettings.trans ?_,
      hscanner.trans ?_, hbridges.trans ?_, hregulators.trans ?_, hchannels.trans ?_, htrip.trans ?_,
      hholder.trans ?_, hpending.trans ?_⟩
    case _ => rw [atRequest_sync, atRequest_settings]; rfl
    case _ => rw [atRequest_link]; rfl
    all_goals simp
  case refused =>
    have hs : (s.atRequest r).stopped = false := by
      rw [atRequest_stopped, ← Bool.not_eq_true, stopped_iff]
      exact fun hall => (hall b).elim hb hl
    have hact : (s.atRequest r).act r.link .syncRestart [] = (s.atRequest r).refuse .refusedState := by
      simp [State.act, State.actSyncRestart, hs]
    exact request_of_quiet s .syncRestart r _ hears (hjudge.trans hact) hset

end Sys2Proof.Machine
end

section
/-! PROOF. SET_SETTING, judged in order and accepted (R200, R201). -/

namespace Sys2Proof.Machine

theorem atRequest_permits (s : State) (r : Request) (c : SettingClass) :
    (s.atRequest r).permits c = s.permits c := by
  cases c <;> simp [State.permits, atRequest_stopped]

theorem permits_iff (s : State) (c : SettingClass) :
    s.permits c = false ↔
      (c = .stopped ∧ ∃ b, s.bridgeState b ≠ .blocked ∧ s.bridgeState b ≠ .lockout) ∨
        (c = .calm ∧ s.monitor.state ≠ .normal) ∨ (c = .recorder ∧ s.recorder.state ≠ .armed) := by
  cases c
  case stopped =>
    rw [show s.permits .stopped = s.stopped from rfl, ← Bool.not_eq_true, stopped_iff]
    simp
  all_goals simp [State.permits]

/-- An id of the table is judged for range, class and constraint in that order. -/
theorem actSetSetting_of_listed (s : State) (id : Byte) (bytes : List Byte) (x : Setting)
    (h : x.id = id.toNat) :
    s.actSetSetting (id :: bytes) =
      if x.inRange (signedValueOf bytes) = false then s.refuse .refusedValue
      else if s.permits x.cls = false then s.refuse .refusedState
      else if (s.settings.put x (signedValueOf bytes)).consistent s.monitor.lowTable
          s.monitor.highTable = false then s.refuse .refusedValue
      else (s.setValue x (signedValueOf bytes)).accept (id :: signed32 (signedValueOf bytes)) := by
  have hof : Setting.ofId id.toNat = some x := h ▸ ofId_id x
  simp only [State.actSetSetting, List.getD_cons_zero, List.drop_succ_cons, List.drop_zero, hof]

/-- Settles O54: the tests come in the order of the rule, each reached only past the one before it. -/
theorem refusedSetChangesNothing : Obligations.RefusedSetChangesNothing := by
  intro r s id bytes hears settled holder payload hlen v refused
  let u := s.atRequest r
  have hset : u.settled := atRequest_settled s r settled
  have hjudge := judge_of_holder (k := .setSetting) payload rfl holder
    (by simp [RequestKind.sizeRight, hlen])
  have hrefuse : ∀ x : Result, u.actSetSetting (id :: bytes) = u.refuse x → refused x.byte :=
    fun x hx => request_of_quiet s .setSetting r _ hears (hjudge.trans hx) hset
  refine ⟨fun hid => hrefuse .refusedValue ?unlisted, fun x hx => ?listed⟩
  case unlisted => simp [State.actSetSetting, ofId_of_unlisted hid]
  case listed =>
    have hact := actSetSetting_of_listed u id bytes x hx
    refine ⟨fun hrange => hrefuse .refusedValue ?range, fun hrange hcls => hrefuse .refusedState ?cls,
      fun hrange hcls hcons => hrefuse .refusedValue ?consistent⟩
    case range => rw [hact, if_pos hrange]
    case cls =>
      have hp : u.permits x.cls = false := by
        rw [atRequest_permits]
        exact (permits_iff s x.cls).mpr hcls
      rw [hact, if_neg (by rw [hrange]; decide), if_pos hp]
    case consistent =>
      have hp : u.permits x.cls = true := (atRequest_permits s r x.cls).trans hcls
      have hc : (u.settings.put x v).consistent u.monitor.lowTable u.monitor.highTable = false := by
        rw [atRequest_settings, atRequest_monitor]
        exact hcons
      rw [hact, if_neg (by rw [hrange]; decide), if_neg (by rw [hp]; decide), if_pos hc]

/-! ### An accepted SET -/

/-- The settings whose SET does no more than replace the value. -/
def Setting.passive (x : Setting) : Prop :=
  x ≠ .fNom ∧ x ≠ .crossSet ∧ x ≠ .lockCount ∧ x ≠ .lossCount ∧ x ≠ .reanchorCount ∧
    x ≠ .repeatMax ∧ x ≠ .xLim ∧ (∀ c, x ≠ .iMax c) ∧ x ≠ .authTimeout ∧ x ≠ .recPre ∧ x ≠ .recDecim

theorem applied_of_passive (s : State) (old : Settings) (x : Setting) (h : x.passive) :
    s.applied old x = s := by
  obtain ⟨h1, h2, h3, h4, h5, h6, h7, h8, h9, h10, h11⟩ := h
  cases x
  case iMax c => exact absurd rfl (h8 c)
  all_goals first | rfl | contradiction

/-- F_NOM and CROSS_SET restart the synchroniser where the value is another one (R44). -/
theorem applied_of_restarting (s : State) (old : Settings) (x : Setting) (h : x = .fNom ∨ x = .crossSet) :
    s.applied old x = if s.settings.value x = old.value x then s else s.restartSync := by
  obtain rfl | rfl := h
  case inl =>
    have hval : s.settings.value .fNom = old.value .fNom ↔ s.settings.fNom = old.fNom := by
      simp only [Settings.value]
      cases s.settings.fNom <;> cases old.fNom <;> decide
    simp only [State.applied, hval]
  case inr =>
    have hval : s.settings.value .crossSet = old.value .crossSet ↔
        s.settings.crossSet = old.crossSet := by
      simp only [Settings.value]
      cases s.settings.crossSet <;> cases old.crossSet <;> decide
    simp only [State.applied, hval]

theorem applied_settings (s : State) (old : Settings) (x : Setting) :
    (s.applied old x).settings = s.settings := by
  cases x
  case fNom | crossSet =>
    simp only [State.applied]
    split
    · rfl
    · exact (steady_restartSync s).settings
  all_goals rfl

/-- No SET touches what a link receives or replies. -/
theorem applied_replies (s : State) (old : Settings) (x : Setting) (l : Link) :
    ((s.applied old x).links.get l).replies = (s.links.get l).replies := by
  cases x
  case fNom | crossSet =>
    simp only [State.applied]
    split
    · rfl
    · obtain ⟨-, -, -, hr, -⟩ := lineKept_of_unsummed ((steady_restartSync s).links l)
      exact hr
  all_goals rfl

/-- REPEAT_MAX keeps the newest episodes. -/
theorem drop_to_length {α : Type} (l : List α) (n : Nat) :
    l.drop (l.length - n) <:+ l ∧ (l.drop (l.length - n)).length = min l.length n := by
  refine ⟨List.drop_suffix _ l, ?_⟩
  rw [List.length_drop]
  omega

/-- Settles O53: the value put is in force, and each setting's own act is that of its rule. -/
theorem acceptedSetTakesEffect : Obligations.AcceptedSetTakesEffect := by
  intro r s id bytes x hears settled holder payload hlen hid u v reply put hrange hpermits hcons
  have hset : u.settled := atRequest_settled s r settled
  have hp : u.permits x.cls = true := (atRequest_permits s r x.cls).trans hpermits
  have hc : (u.settings.put x v).consistent u.monitor.lowTable u.monitor.highTable = true := by
    rw [atRequest_settings, atRequest_monitor]
    exact hcons
  have hact : u.act r.link .setSetting (id :: bytes) = (u.setValue x v).accept (id :: bytes) := by
    have h := actSetSetting_of_listed u id bytes x hid
    rw [if_neg (by rw [hrange]; decide), if_neg (by rw [hp]; decide),
      if_neg (by rw [hc]; decide), signed32_signedValueOf bytes hlen] at h
    exact h
  have hput : u.setValue x v = put.applied s.settings x := by
    unfold State.setValue
    rw [atRequest_settings]
  have hexec := request_of_holder s .setSetting r hears rfl holder
    (by rw [payload]; simp [RequestKind.sizeRight, hlen])
  rw [payload, hact, hput] at hexec
  have hvalue : put.settings.value x = v := value_put_self s.settings x v hrange
  let t := ((put.applied s.settings x).withReply r.link reply).settle r.order
  have hsettings : t.settings = s.settings.put x v :=
    (settle_settings _ _).trans (applied_settings put s.settings x)
  have hreplies : (t.links.get r.link).replies = (s.links.get r.link).replies ++ [reply] := by
    obtain ⟨-, -, -, hr, -⟩ := settle_lineKept ((put.applied s.settings x).withReply r.link reply)
      r.order r.link
    refine hr.trans ?_
    have hlink : (put.links.get r.link).replies = (s.links.get r.link).replies := by
      change ((s.atRequest r).links.get r.link).replies = _
      rw [atRequest_link]
      rfl
    simp only [State.withReply, State.mapLink, Both.get_set_self, applied_replies, hlink]
  have hquiet : ∀ w : State, put.applied s.settings x = w → w.settled → t = w.withReply r.link reply :=
    fun w hw hs => by
      change ((put.applied s.settings x).withReply r.link reply).settle r.order = _
      rw [hw]
      exact settle_of_settled _ _ (withReply_settled _ _ _ hs)
  have hrec : put.recorder = s.recorder := atRequest_recorder s r
  have hsync : put.sync = s.sync := atRequest_sync s r
  have hmon : put.monitor = s.monitor := atRequest_monitor s r
  have hchan : put.channels = s.channels := atRequest_channels s r
  refine ⟨t, hexec, hsettings, hsettings ▸ hvalue, fun y hy => ?other, hreplies,
    fun h1 h2 h3 h4 h5 h6 h7 h8 h9 h10 h11 => hquiet put ?passive hset, fun hx hv => hquiet put ?same hset,
    fun hx hv => ?restart, fun hx => hquiet _ ?lock hset, fun hx => hquiet _ ?loss hset,
    fun hx => hquiet _ ?reanchor hset, fun hx => ?repeatMax, fun hx => ?xLim,
    fun c hx => hquiet _ ?iMax hset, fun hx => hquiet _ (by rw [hx]; rfl) hset,
    fun hx => hquiet _ ?recorder hset⟩
  case other =>
    rw [hsettings]
    exact value_put_of_ne s.settings x y v hy.symm
  case passive =>
    exact applied_of_passive put s.settings x ⟨h1, h2, h3, h4, h5, h6, h7, h8, h9, h10, h11⟩
  case same => rw [applied_of_restarting put _ x hx, if_pos (hvalue.trans hv)]
  case restart =>
    have hcls : x.cls = .stopped := by obtain rfl | rfl := hx <;> rfl
    have hstop : put.stopped = true := by
      rw [hcls] at hp
      exact hp
    have happ : put.applied s.settings x = put.restartSync := by
      rw [applied_of_restarting put _ x hx, if_neg (fun h => hv (hvalue.symm.trans h))]
    have ht : t = (put.restartSync.withReply r.link reply).settle r.order := by rw [← happ]
    obtain ⟨hsync', hflags, hmon', hrec', -, helapsed, -, hscanner, hbridges, hregulators, hchannels, htrip,
      hholder, hwatchdog, hpending⟩ := restart_answer put r.link reply r.order hstop
    rw [← ht] at hsync' hflags hmon' hrec' helapsed hscanner hbridges hregulators hchannels htrip hholder
    rw [← ht] at hwatchdog hpending
    have hsync'' : t.sync = s.sync.restarted t.settings := by rw [hsync', hsync, hsettings]
    refine ⟨hsync'', ?_, hflags, hmon'.trans (by rw [hmon]), fun hk => (hrec' ?_ hset.2).trans hrec,
      helapsed, hscanner.trans (atRequest_scanner s r), hbridges.trans (atRequest_bridges s r),
      hregulators.trans (atRequest_regulators s r), hchannels.trans hchan,
      htrip.trans (atRequest_trip s r), hholder.trans (atRequest_holder s r),
      hwatchdog.trans (atRequest_watchdog_of_holder s r holder), hpending.trans (atRequest_pending s r)⟩
    · unfold State.phase Sync.phaseAt
      rw [hsync'']
      rfl
    · rw [hsync]
      exact hk
  case lock | loss | reanchor => rw [hx, ← hsync]; rfl
  case repeatMax =>
    subst hx
    have ht := hquiet (put.mapMonitor (fun m => { m with recent := m.recent.drop (m.recent.length - v.toNat) }))
      rfl hset
    have hrecent : t.monitor.recent = s.monitor.recent.drop (s.monitor.recent.length - v.toNat) := by
      rw [ht, ← hmon]
      rfl
    obtain ⟨hsuffix, hlength⟩ := drop_to_length s.monitor.recent v.toNat
    refine ⟨hrecent ▸ hsuffix, hrecent ▸ hlength, ?_⟩
    rw [hrecent, ht, State.mapMonitor, hmon]
  case xLim =>
    have hv : 0 ≤ v := by
      have h := (bounds_of_inRange x v hrange).1
      rw [hx] at h
      exact le_trans (by decide) h
    have hlim : put.integralLimit = v * 1000 := by
      simp only [State.integralLimit, put, hx, Settings.put]
      omega
    let w : State := { put with
      regulators := put.regulators.map (fun r => { r with integral := put.limitIntegral r.integral }) }
    have ht : t = w.withReply r.link reply := hquiet w (by rw [hx]; rfl) hset
    have hregs : t.regulators = w.regulators := by rw [ht]; rfl
    refine ⟨fun b => ?_, by rw [hregs, ht]⟩
    rw [hregs]
    simp only [w, Four.get_map, State.limitIntegral, hlim, clampInt]
    rw [show put.regulators = s.regulators from atRequest_regulators s r]
  case iMax =>
    subst hx
    have hi : put.settings.iMax.get c = v.toNat := Four.get_set_self _ _ _
    have happ : put.applied s.settings (.iMax c) =
        put.mapChannel c (fun k => k.refold (s.settings.iMax.get c) (put.settings.iMax.get c)) := rfl
    rw [happ, hi, State.mapChannel, hchan]
    rfl
  case recorder =>
    rw [← hrec]
    obtain rfl | rfl := hx <;> rfl

end Sys2Proof.Machine
end

section
/-! SUPPORT. What an accepted request answers, mask requests, and what the operations on one channel and one
bridge make of it. -/

namespace Sys2Proof.Machine

/-! ### An accepted request -/

/-- The state that an accepted request answers: `w` is what its rule made of the state it was judged in,
and `x` its reply. -/
structure Accepted (s : State) (r : Request) (x : OutRecord) (w t : State) : Prop where
  elapsed : t.elapsed = s.elapsed + r.wait
  inReset : t.inReset = s.inReset
  settings : t.settings = s.settings
  scanner : t.scanner = s.scanner
  holder : t.holder = s.holder
  watchdog : t.watchdog = (s.atRequest r).watchdog
  pending : t.pending = s.pending
  sync : t.sync = w.sync
  monitor : t.monitor = w.monitor
  bridges : t.bridges = w.bridges
  regulators : t.regulators = w.regulators
  channels : t.channels = w.channels
  trip : t.trip = w.trip
  recorder : w.triggers = [] → t.recorder = w.recorder
  replies : (t.links.get r.link).replies = (s.links.get r.link).replies ++ [x]
  flags : ∀ l k, w.flagged l k → t.flagged l k

theorem withReply_flagged {s : State} {l : Link} {k : Nat} (m : Link) (x : OutRecord)
    (h : s.flagged l k) : (s.withReply m x).flagged l k := by
  revert h
  cases m <;> cases l <;> exact id

theorem accepted_of_steady {s w : State} {r : Request} (h : Steady (s.atRequest r) w) (x : OutRecord) :
    Accepted s r x w ((w.withReply r.link x).settle r.order) := by
  have hreplies : (w.links.get r.link).replies = (s.links.get r.link).replies := by
    obtain ⟨-, -, -, hr, -⟩ := lineKept_of_unsummed (h.links r.link)
    rw [hr, atRequest_link]
    rfl
  refine ⟨?_, ?_, ?_, ?_, ?_, ?_, ?_, ?_, ?_, ?_, ?_, ?_, ?_, fun hw => ?_, ?_, fun l k hf => ?_⟩
  case _ => rw [settle_elapsed]; exact h.elapsed.trans (by simp)
  case _ => rw [settle_inReset]; exact h.inReset.trans (by simp)
  case _ => rw [settle_settings]; exact h.settings.trans (by simp)
  case _ => rw [settle_scanner]; exact h.scanner.trans (by simp)
  case _ => rw [settle_holder]; exact h.holder.trans (by simp)
  case _ => rw [settle_watchdog]; exact h.watchdog
  case _ => rw [settle_pending]; exact h.pending.trans (by simp)
  case _ => rw [settle_sync]; rfl
  case _ => rw [settle_monitor]; rfl
  case _ => rw [settle_bridges]; rfl
  case _ => rw [settle_regulators]; rfl
  case _ => rw [settle_channels]; rfl
  case _ => rw [settle_trip]; rfl
  case _ => rw [settle_recorder_of_no_trigger _ _ (by exact hw)]; rfl
  case _ =>
    obtain ⟨-, -, -, hr, -⟩ := settle_lineKept (w.withReply r.link x) r.order r.link
    rw [hr]
    simp [State.withReply, hreplies]
  case _ => exact flagsKept_settle _ _ l k (withReply_flagged _ _ hf)

/-- A commanding request from the link with authority, accepted by its own rule. -/
theorem exec_of_accepted {s w : State} {r : Request} {k : RequestKind} {p contents : List Byte}
    (hears : s.hears r) (holder : s.holder = r.link) (hp : r.payload = p) (hc : k.commanding = true)
    (hsize : k.sizeRight p = true) (hact : (s.atRequest r).act r.link k p = w.accept contents)
    (hw : Steady (s.atRequest r) w) :
    ∃ t, exec (k.command r) s = .next t ∧
      Accepted s r (replyTo k.code r.tag (Result.ok.byte :: contents)) w t := by
  subst hp
  have hreq := request_of_holder s k r hears hc holder hsize
  rw [hact] at hreq
  exact ⟨_, (exec_command s k r).trans hreq, accepted_of_steady hw _⟩

/-! ### Mask requests -/

theorem maskOf_of_lt (b : Byte) (h0 : 0 < b.toNat) (h : b.toNat < 16) :
    maskOf b = some (BitVec.ofNat 4 b.toNat) := if_pos ⟨h0, h⟩

theorem maskOf_of_beyond (b : Byte) (h : b.toNat = 0 ∨ 16 ≤ b.toNat) : maskOf b = none :=
  if_neg (by omega)

theorem hasBit_mask (b : Byte) (i : Index) : hasBit (BitVec.ofNat 4 b.toNat) i.val = b.getLsbD i.val := by
  have hmod : (b.toNat % 2 ^ 4).testBit i.val = b.toNat.testBit i.val := by
    rw [Nat.testBit_mod_two_pow]
    simp [i.isLt]
  simpa [hasBit, BitVec.getLsbD] using hmod

/-- Each named item that is not refused takes the effect, and the reply has a code for each of the four. -/
theorem maskRequest_of_named (s : State) (b : Byte) (ok : Index → Bool)
    (effect : Index → State → State) (h0 : 0 < b.toNat) (h : b.toNat < 16) :
    s.maskRequest b (fun i => Result.ofState (ok i)) effect =
      (s.forAll Index.all (fun i t =>
        if b.getLsbD i.val && ok i then effect i t else t)).accept
        (Index.all.map (fun i => if b.getLsbD i.val && !ok i then 0x05 else 0x00)) := by
  have hok : ∀ x, (Result.ofState x == .ok) = x := by decide
  have hcode : ∀ n x, (if n then Result.ofState x else .ok : Result).byte =
      if n && !x then (0x05 : Byte) else 0x00 := by decide
  simp only [State.maskRequest, maskOf_of_lt b h0 h, hasBit_mask, hok, hcode]

theorem maskRequest_of_unnamed (s : State) (b : Byte) (judge : Index → Result)
    (effect : Index → State → State) (h : b.toNat = 0 ∨ 16 ≤ b.toNat) :
    s.maskRequest b judge effect = s.refuse .refusedValue := by
  simp only [State.maskRequest, maskOf_of_beyond b h]

/-- What an effect leaves alone, it leaves alone when it is taken for each of a list. -/
theorem forAll_keeps {α : Type} (g : State → α) (s : State) (order : List Index)
    (f : Index → State → State) (h : ∀ i t, g (f i t) = g t) : g (s.forAll order f) = g s := by
  induction order generalizing s with
  | nil => rfl
  | cons i rest ih => exact (ih (f i s)).trans (h i s)

/-- A named effect touches the bridges or channels that it touches when it is not conditional. -/
theorem onBridge_ite {c : Prop} [Decidable c] {b : Index} {s t : State} (h : OnBridge b s t) :
    OnBridge b s (if c then t else s) := by
  split
  · exact h
  · exact OnBridge.refl b s

theorem onChannel_ite {c : Prop} [Decidable c] {i : Index} {s t : State} (h : OnChannel i s t) :
    OnChannel i s (if c then t else s) := by
  split
  · exact h
  · exact OnChannel.refl i s

/-! ### One channel -/

theorem setChannelState_channel (s : State) (c : Index) (x : ChannelState) :
    (s.setChannelState c x).channels.get c = { s.channels.get c with state := x } := by
  unfold State.setChannelState
  split
  case isTrue h =>
    rw [← h]
  case isFalse => simp [State.channelEvent]

/-- FLUSH empties a channel that is not STANDBY and makes it IDLE (R132). -/
theorem flushChannel_channel (s : State) (c : Index) :
    (s.flushChannel c).channels.get c =
      if (s.channels.get c).state = .standby then s.channels.get c
      else { s.channels.get c with
        queue := [], headPhase := none, remainingHold := none, headClamped := false, state := .idle } := by
  unfold State.flushChannel
  split
  case h_1 h => rw [if_pos h]
  case h_2 h =>
    rw [if_neg h, setChannelState_channel]
    simp [Channel.emptied]

/-- The head leaves the queue, and the next step starts or the channel idles (R130). -/
theorem completeHead_channel (s : State) (c : Index) (p : CourseStep) (rest : List CourseStep)
    (h : (s.channels.get c).queue = p :: rest) :
    (s.completeHead c).channels.get c =
      { s.channels.get c with
        queue := rest, headClamped := false, remainingHold := none,
        headPhase := (if rest = [] then none else some .ramp),
        state := (if rest = [] then .idle else (s.channels.get c).state) } := by
  simp only [State.completeHead, h, List.isEmpty_iff]
  by_cases hr : rest = []
  · rw [if_pos hr, if_pos hr, setChannelState_channel]
    cases p.tag <;> simp [hr]
  · rw [if_neg hr, if_neg hr]
    cases p.tag <;> simp [hr]

/-- A tagged step that completes shows STEP_DONE on both links (R130). -/
theorem completeHead_flagged (s : State) (c : Index) (p : CourseStep) (rest : List CourseStep)
    (h : (s.channels.get c).queue = p :: rest) (htag : p.tag.isSome = true) (l : Link) :
    (s.completeHead c).flagged l 2 := by
  obtain ⟨tag, htag⟩ := Option.isSome_iff_exists.mp htag
  let s1 := s.raise (.stepDone c tag (s.channels.get c).headClamped)
  have h1 : s1.flagged l 2 := raise_flagged s _ l
  have hkept : FlagsKept s1 (s.completeHead c) := by
    simp only [State.completeHead, h, htag]
    split
    · exact ((onChannel_mapChannel _ c _).trans (onChannel_setChannelState _ c _)).flags
    · exact (onChannel_mapChannel _ c _).flags
  exact hkept l 2 h1

/-! ### One bridge -/

theorem blockBridge_bridge (s : State) (b : Index) (c : BlockCause) :
    (s.blockBridge b c).bridges.get b =
      { s.bridges.get b with state := .blocked, blockCause := some c, next := none } := by
  simp [State.blockBridge]

/-- STOP of one bridge, state by state (Table 4-3). -/
theorem stopBridge_bridge (s : State) (b : Index) :
    (s.stopBridge b).bridges.get b =
      match s.bridgeState b with
      | .running => { s.bridges.get b with state := .retarding, retardTurns := 0 }
      | .deblocking =>
        { s.bridges.get b with state := .blocked, blockCause := some .abandoned, next := none }
      | .held => { s.bridges.get b with state := .blocked, blockCause := some .holdStop, next := none }
      | .blocked | .retarding | .lockout => s.bridges.get b := by
  unfold State.stopBridge
  cases s.bridgeState b <;> simp [blockBridge_bridge]

theorem stopBridge_regulators (s : State) (b : Index) : (s.stopBridge b).regulators = s.regulators := by
  unfold State.stopBridge
  split <;> rfl

theorem stopBridge_triggers (s : State) (b : Index) : (s.stopBridge b).triggers = s.triggers := by
  unfold State.stopBridge
  split <;> rfl

end Sys2Proof.Machine
end

section
/-! PROOF. The requests on channels and bridges: FLUSH, PAUSE, RESUME, RELEASE_STEP, APPEND_STEP, STOP,
TRIP_CLEAR. -/

namespace Sys2Proof.Machine

/-! ### STOP (R85) -/

/-- Settles O36: each named bridge outside LOCKOUT takes STOP by its state. -/
theorem stopRetardsOrBlocks : Obligations.StopRetardsOrBlocks := by
  intro r s m hears settled holder payload
  let u := s.atRequest r
  have hset : u.settled := atRequest_settled s r settled
  refine ⟨fun h0 h16 => ?named, fun hm => ?unnamed⟩
  case unnamed =>
    have hact : u.act r.link .stop [m] = u.refuse .refusedValue :=
      maskRequest_of_unnamed u m _ _ hm
    exact request_of_quiet s .stop r _ hears
      ((judge_of_holder (k := .stop) payload rfl holder rfl).trans hact) hset
  case named =>
    let ok : Index → Bool := fun b => u.bridgeState b != .lockout
    let f : Index → State → State := fun b t =>
      if m.getLsbD b.val && ok b then t.stopBridge b else t
    have hact : u.act r.link .stop [m] = (u.forAll Index.all f).accept
        (Index.all.map (fun b => if m.getLsbD b.val && !ok b then 0x05 else 0x00)) :=
      maskRequest_of_named u m ok (fun b t => t.stopBridge b) h0 h16
    have hf : ∀ b t, OnBridge b t (f b t) := fun b t => onBridge_ite (onBridge_stopBridge t b)
    have hall := onBridges_forAll u Index.all f hf
    have hregs : (u.forAll Index.all f).regulators = u.regulators :=
      forAll_keeps State.regulators u _ f fun b t => by
        dsimp only [f]
        split
        · exact stopBridge_regulators t b
        · rfl
    have htrig : (u.forAll Index.all f).triggers = [] :=
      (forAll_keeps State.triggers u _ f fun b t => by
        dsimp only [f]
        split
        · exact stopBridge_triggers t b
        · rfl).trans hset.2
    obtain ⟨t, hexec, ha⟩ := exec_of_accepted hears holder payload rfl rfl hact hall.toSteady
    have hcodes : (fun b : Index => if m.getLsbD b.val && !ok b then (0x05 : Byte) else 0x00) =
        fun b => if m.getLsbD b.val && s.bridgeState b == .lockout then 0x05 else 0x00 := by
      funext b
      simp [ok, u]
    refine ⟨t, hexec, ?replies, fun b => ?bridge, ha.elapsed, ha.settings, ha.scanner,
      ha.sync.trans (hall.sync.trans (atRequest_sync s r)),
      ha.monitor.trans (hall.monitor.trans (atRequest_monitor s r)),
      ha.regulators.trans (hregs.trans (atRequest_regulators s r)),
      ha.channels.trans (hall.channels.trans (atRequest_channels s r)),
      ha.trip.trans (hall.trip.trans (atRequest_trip s r)),
      (ha.recorder htrig).trans (hall.recorder.trans (atRequest_recorder s r)), ha.holder, ha.pending⟩
    case replies =>
      rw [ha.replies, hcodes]
      rfl
    case bridge =>
      obtain ⟨v, hv, hw⟩ := forAll_at_bridge u Index.all f b Index.all_nodup (Index.mem_all b) hf
      have hb : v.bridges.get b = s.bridges.get b := hv.bridge.trans (by simp [u])
      have hs : v.bridgeState b = s.bridgeState b := congrArg Bridge.state hb
      rw [ha.bridges, hw.bridge]
      cases hm : m.getLsbD b.val
      · simp [f, hm, hb]
      · by_cases hl : s.bridgeState b = .lockout
        · simp [f, hm, ok, u, hl, hb]
        · have hfv : f b v = v.stopBridge b := by simp [f, hm, ok, u, hl]
          rw [hfv, stopBridge_bridge, hs, hb]
          cases hstate : s.bridgeState b <;> rfl

/-! ### TRIP_CLEAR (R155 to R157) -/

theorem unlockBridge_bridge (s : State) (b : Index) :
    (s.unlockBridge b).bridges.get b =
      if s.bridgeState b = .lockout then { s.bridges.get b with state := .blocked, blockCause := none }
      else s.bridges.get b := by
  unfold State.unlockBridge
  split
  all_goals simp_all

theorem unlockBridge_regulators (s : State) (b : Index) :
    (s.unlockBridge b).regulators = s.regulators := by
  unfold State.unlockBridge
  split <;> rfl

theorem unlockBridge_triggers (s : State) (b : Index) : (s.unlockBridge b).triggers = s.triggers := by
  unfold State.unlockBridge
  split <;> rfl

theorem unlockBridge_flagged (s : State) (b : Index) (h : s.bridgeState b = .lockout) (l : Link) :
    (s.unlockBridge b).flagged l 1 := by
  unfold State.unlockBridge
  rw [h]
  exact raise_flagged _ _ l

/-- Settles O34: the latch, the conditions that hold the clear back, and the release of each bridge. -/
theorem tripClearReleases : Obligations.TripClearReleases := by
  intro r s hears settled holder payload u held
  have hset : u.settled := atRequest_settled s r settled
  have hjudge := judge_of_holder (k := .tripClear) payload rfl holder rfl
  have htrip : u.trip = s.trip := atRequest_trip s r
  have hheld : u.clearHeldBack = true ↔ held := by
    simp only [State.clearHeldBack, Bool.or_eq_true, List.any_eq_true, State.overVoltage, htrip, u,
      atRequest_monitor, atRequest_scanner, atRequest_settings, held, decide_eq_true_eq, bne_iff_ne,
      or_assoc]
    simp [Index.mem_all]
  refine ⟨fun hl => ?clear, fun hl hh => ?back, fun hl hh => ?release⟩
  case clear =>
    have hact : u.act r.link .tripClear [] = u.accept [] := by
      simp [State.act, State.actTripClear, htrip, hl]
    exact request_of_quiet s .tripClear r _ hears (hjudge.trans hact) hset
  case back =>
    have hact : u.act r.link .tripClear [] = u.refuse .refusedActive := by
      simp [State.act, State.actTripClear, htrip, hl, hheld.mpr hh]
    exact request_of_quiet s .tripClear r _ hears (hjudge.trans hact) hset
  case release =>
    have hact : u.act r.link .tripClear [] = u.clearTrip.accept [] := by
      have hback : u.clearHeldBack = false := by
        rw [← Bool.not_eq_true, hheld]
        exact hh
      simp [State.act, State.actTripClear, htrip, hl, hback]
    let u0 := (u.mapTrip (fun x =>
      { x with causes := 0, latched := false, breakerTrip := false, overcurrentScans := .fill 0 })).mapMonitor
        Monitor.excursionCleared
    have hall : OnBridges u0 u.clearTrip := clearTrip_parts u
    have hf : ∀ b (t : State), OnBridge b t (t.unlockBridge b) := fun b t => onBridge_unlockBridge t b
    have hregs : u.clearTrip.regulators = u.regulators :=
      forAll_keeps State.regulators u0 _ _ fun b t => unlockBridge_regulators t b
    have htrig : u.clearTrip.triggers = [] :=
      (forAll_keeps State.triggers u0 _ _ fun b t => unlockBridge_triggers t b).trans hset.2
    obtain ⟨t, hexec, ha⟩ := exec_of_accepted hears holder payload rfl rfl hact
      (calm_clearTrip u).toSteady
    have hbridge : ∀ b, u.clearTrip.bridges.get b =
        (if s.bridgeState b = .lockout then
          { s.bridges.get b with state := .blocked, blockCause := none } else s.bridges.get b) ∧
        (s.bridgeState b = .lockout → ∀ l, u.clearTrip.flagged l 1) := by
      intro b
      obtain ⟨v, hv, hw⟩ := forAll_at_bridge u0 Index.all (fun b t => t.unlockBridge b) b
        Index.all_nodup (Index.mem_all b) hf
      have hb : v.bridges.get b = s.bridges.get b := hv.bridge.trans (by simp [u0, u])
      have hs : v.bridgeState b = s.bridgeState b := congrArg Bridge.state hb
      refine ⟨hw.bridge.trans ?_, fun h l => hw.flags l 1 (unlockBridge_flagged v b (hs.trans h) l)⟩
      rw [unlockBridge_bridge, hs, hb]
    refine ⟨t, hexec, ?trip, ?monitor, fun b hb => ?lockout, fun b hb => ?other, ha.replies, ha.elapsed,
      ha.settings, ha.scanner, ha.sync.trans ((calm_clearTrip u).sync.trans (atRequest_sync s r)),
      ha.regulators.trans (hregs.trans (atRequest_regulators s r)),
      ha.channels.trans (hall.channels.trans (atRequest_channels s r)),
      (ha.recorder htrig).trans (hall.recorder.trans (atRequest_recorder s r)), ha.holder, ha.pending⟩
    case trip =>
      rw [ha.trip, hall.trip, ← htrip]
      rfl
    case monitor =>
      rw [ha.monitor, hall.monitor, ← atRequest_monitor s r]
      rfl
    case lockout =>
      obtain ⟨hbr, hflag⟩ := hbridge b
      rw [ha.bridges, hbr, if_pos hb]
      exact ⟨rfl, fun l => ha.flags l 1 (hflag hb l)⟩
    case other => rw [ha.bridges, (hbridge b).1, if_neg hb]

end Sys2Proof.Machine
end

section
/-! PROOF. The requests on channels: FLUSH, PAUSE, RESUME, RELEASE_STEP and APPEND_STEP (R123, R128, R131 to
R134). -/

namespace Sys2Proof.Machine

/-! ### Mask requests on channels -/

theorem onChannel_pauseChannel (s : State) (c : Index) : OnChannel c s (s.pauseChannel c) := by
  unfold State.pauseChannel
  split
  · exact onChannel_setChannelState s c _
  · exact OnChannel.refl c s

theorem onChannel_resumeChannel (s : State) (c : Index) : OnChannel c s (s.resumeChannel c) := by
  unfold State.resumeChannel
  split
  · exact onChannel_setChannelState s c _
  · exact onChannel_setChannelState s c _
  · exact OnChannel.refl c s

theorem pauseChannel_channel (s : State) (c : Index) :
    (s.pauseChannel c).channels.get c =
      if (s.channels.get c).state = .active then { s.channels.get c with state := .pausing }
      else s.channels.get c := by
  unfold State.pauseChannel
  split
  case h_1 h => rw [if_pos h, setChannelState_channel]
  case h_2 h => rw [if_neg h]

theorem resumeChannel_channel (s : State) (c : Index) :
    (s.resumeChannel c).channels.get c =
      if (s.channels.get c).state = .pausing ∨ (s.channels.get c).state = .paused then
        { s.channels.get c with state := .active }
      else s.channels.get c := by
  unfold State.resumeChannel
  split
  case h_1 h => rw [if_pos (.inl h), setChannelState_channel]
  case h_2 h => rw [if_pos (.inr h), setChannelState_channel]
  case h_3 h h' => rw [if_neg (fun hx => hx.elim h h')]

/-- What a channel request leaves alone. -/
def ChannelsOnly (s : State) (r : Request) (t : State) : Prop :=
  t.elapsed = s.elapsed + r.wait ∧ t.inReset = s.inReset ∧ t.settings = s.settings ∧
    t.scanner = s.scanner ∧ t.sync = s.sync ∧ t.monitor = s.monitor ∧ t.bridges = s.bridges ∧
    t.regulators = s.regulators ∧ t.trip = s.trip ∧ t.recorder = s.recorder ∧
    t.holder = s.holder ∧ t.watchdog = 0 ∧ t.pending = s.pending

theorem channelsOnly_of_accepted {s w t : State} {r : Request} {x : OutRecord} (ha : Accepted s r x w t)
    (h : OnChannels (s.atRequest r) w) (hset : s.settled) (holder : s.holder = r.link) :
    ChannelsOnly s r t :=
  ⟨ha.elapsed, ha.inReset, ha.settings, ha.scanner, ha.sync.trans (h.sync.trans (atRequest_sync s r)),
    ha.monitor.trans (h.monitor.trans (atRequest_monitor s r)),
    ha.bridges.trans (h.bridges.trans (atRequest_bridges s r)),
    ha.regulators.trans (h.regulators.trans (atRequest_regulators s r)),
    ha.trip.trans (h.trip.trans (atRequest_trip s r)),
    (ha.recorder (h.triggers.trans (by rw [atRequest_triggers]; exact hset.2))).trans
      (h.recorder.trans (atRequest_recorder s r)),
    ha.holder, ha.watchdog.trans (atRequest_watchdog_of_holder s r holder), ha.pending⟩

/-- A mask request on channels: each named channel that is not refused takes the effect on what it was. -/
theorem channelMask {s : State} {r : Request} {m : Byte} {k : RequestKind} (hears : s.hears r)
    (settled : s.settled) (holder : s.holder = r.link) (payload : r.payload = [m])
    (hc : k.commanding = true) (hsize : k.sizeRight [m] = true) (ok : Index → Bool)
    (effect : Index → State → State) (h0 : 0 < m.toNat) (h16 : m.toNat < 16)
    (hact : (s.atRequest r).act r.link k [m] =
      (s.atRequest r).maskRequest m (fun c => Result.ofState (ok c)) effect)
    (heffect : ∀ c t, OnChannel c t (effect c t)) (after : Channel → Channel)
    (hafter : ∀ c t, (effect c t).channels.get c = after (t.channels.get c)) :
    ∃ t, exec (k.command r) s = .next t ∧ ChannelsOnly s r t ∧
      (t.links.get r.link).replies = (s.links.get r.link).replies ++
        [replyTo k.code r.tag (Result.ok.byte ::
          Index.all.map (fun c => if m.getLsbD c.val && !ok c then (0x05 : Byte) else 0x00))] ∧
      ∀ c, t.channels.get c =
        if m.getLsbD c.val && ok c then after (s.channels.get c) else s.channels.get c := by
  let u := s.atRequest r
  let f : Index → State → State := fun c t => if m.getLsbD c.val && ok c then effect c t else t
  have hf : ∀ c t, OnChannel c t (f c t) := fun c t => onChannel_ite (heffect c t)
  have hall := onChannels_forAll u Index.all f hf
  obtain ⟨t, hexec, ha⟩ := exec_of_accepted hears holder payload hc hsize
    (hact.trans (maskRequest_of_named u m ok effect h0 h16)) hall.toSteady
  refine ⟨t, hexec, channelsOnly_of_accepted ha hall settled holder, ha.replies, fun c => ?_⟩
  obtain ⟨v, hv, hw⟩ := forAll_at_channel u Index.all f c Index.all_nodup (Index.mem_all c) hf
  have hk : v.channels.get c = s.channels.get c := hv.channel.trans (by simp [u])
  rw [ha.channels, hw.channel]
  dsimp only [f]
  split
  · rw [hafter, hk]
  · exact hk

/-- RELEASE_STEP's condition (R128). -/
theorem awaitsRelease_iff (k : Channel) :
    k.awaitsRelease = true ↔
      k.state = .active ∧ k.headPhase = some .wait ∧
        ∃ p rest, k.queue = p :: rest ∧ p.wait = some .release := by
  unfold Channel.awaitsRelease
  cases k.queue <;> simp [and_assoc]

/-- Settles O28: the three mask requests are one argument with three effects, and RELEASE_STEP completes the
head of the one channel it names. -/
theorem channelRequestsAct : Obligations.ChannelRequestsAct := by
  intro r s m hears settled holder payload kept named codes answered
  let u := s.atRequest r
  have hset : u.settled := atRequest_settled s r settled
  have hchan : u.channels = s.channels := atRequest_channels s r
  have hrelease := judge_of_holder (k := .releaseStep) payload rfl holder rfl
  have hrefuse : ∀ k : RequestKind, k.commanding = true → k.sizeRight [m] = true → ∀ x : Result,
      u.act r.link k [m] = u.refuse x → exec (k.command r) s =
        .next (u.withReply r.link (replyTo k.code r.tag [x.byte])) := fun k hc hsize x hact =>
    (exec_command s k r).trans
      (request_of_quiet s k r _ hears ((judge_of_holder payload hc holder hsize).trans hact) hset)
  refine ⟨fun h0 h16 => ⟨?flush, ?pause, ?resume⟩, fun hm => ⟨?flushBeyond, ?pauseBeyond, ?resumeBeyond⟩,
    fun hm => ?noChannel, fun c p rest hm hstate hphase hqueue hwait => ?released,
    fun c hm hno => ?notWaiting⟩
  case flush =>
    obtain ⟨t, hexec, hk, hreply, ht⟩ := channelMask (k := .flush) hears settled holder payload rfl rfl
      (fun _ => true) (fun c t => t.flushChannel c) h0 h16 rfl (fun c t => onChannel_flushChannel t c)
      (fun k => if k.state = .standby then k else
        { k with queue := [], headPhase := none, remainingHold := none, headClamped := false,
                 state := .idle })
      (fun c t => flushChannel_channel t c)
    refine ⟨t, hexec, hk, hreply, fun c => ⟨fun hn hs => ?_, fun hn => ?_⟩⟩
    · rw [ht c, if_pos (by rw [hn]; rfl), if_neg hs]
    · rw [ht c]
      obtain hn | hs := hn
      · rw [if_neg (by simpa [named] using hn)]
      · simp only [hs, if_true, ite_self]
  case pause =>
    obtain ⟨t, hexec, hk, hreply, ht⟩ := channelMask (k := .pause) hears settled holder payload rfl rfl
      (fun c => (u.channels.get c).state != .idle && (u.channels.get c).state != .standby)
      (fun c t => t.pauseChannel c) h0 h16 rfl (fun c t => onChannel_pauseChannel t c)
      (fun k => if k.state = .active then { k with state := .pausing } else k)
      (fun c t => pauseChannel_channel t c)
    simp only [hchan] at hreply ht
    refine ⟨t, hexec, hk, ?_, fun c => ⟨fun hn hs => ?_, fun hn => ?_⟩⟩
    · refine hreply.trans ?_
      simp only [codes, Bool.not_and, bne, Bool.not_not]
      rfl
    · rw [ht c, if_pos (by rw [hn, hs]; rfl), if_pos hs]
    · rw [ht c]
      obtain hn | hs := hn
      · have hbit : m.getLsbD c.val = false := by simpa [named] using hn
        rw [if_neg (by simp [hbit])]
      · simp only [hs, if_false, ite_self]
  case resume =>
    obtain ⟨t, hexec, hk, hreply, ht⟩ := channelMask (k := .resume) hears settled holder payload rfl rfl
      (fun c => (u.channels.get c).state != .standby)
      (fun c t => t.resumeChannel c) h0 h16 rfl (fun c t => onChannel_resumeChannel t c)
      (fun k => if k.state = .pausing ∨ k.state = .paused then { k with state := .active } else k)
      (fun c t => resumeChannel_channel t c)
    simp only [hchan] at hreply ht
    refine ⟨t, hexec, hk, ?_, fun c => ⟨fun hn hs => ?_, fun hn => ?_⟩⟩
    · refine hreply.trans ?_
      simp only [codes, bne, Bool.not_not]
      rfl
    · have hne : (s.channels.get c).state ≠ .standby := by obtain h | h := hs <;> simp [h]
      rw [ht c, if_pos (by simp [show m.getLsbD c.val = true from hn, hne]), if_pos hs]
    · rw [ht c]
      obtain hn | hs := hn
      · have hbit : m.getLsbD c.val = false := by simpa [named] using hn
        rw [if_neg (by simp [hbit])]
      · simp only [hs, or_self, if_false, ite_self]
  case flushBeyond =>
    exact hrefuse .flush rfl rfl .refusedValue (maskRequest_of_unnamed u m _ _ hm)
  case pauseBeyond =>
    exact hrefuse .pause rfl rfl .refusedValue (maskRequest_of_unnamed u m _ _ hm)
  case resumeBeyond =>
    exact hrefuse .resume rfl rfl .refusedValue (maskRequest_of_unnamed u m _ _ hm)
  case noChannel =>
    exact hrefuse .releaseStep rfl rfl .refusedValue
      (by simp [State.act, State.actReleaseStep, indexOf_of_four_le m hm])
  case released =>
    have hawaits : (u.channels.get c).awaitsRelease = true := by
      rw [hchan]
      exact (awaitsRelease_iff _).mpr ⟨hstate, hphase, p, rest, hqueue, hwait⟩
    have hact : u.act r.link .releaseStep [m] = (u.completeHead c).accept [] := by
      simp [State.act, State.actReleaseStep, indexOf_of_eq m c hm, hawaits]
    have hq : (u.channels.get c).queue = p :: rest := by rw [hchan, hqueue]
    have hon := onChannel_completeHead u c
    obtain ⟨t, hexec, ha⟩ := exec_of_accepted hears holder payload rfl rfl hact hon.toSteady
    refine ⟨t, hexec, channelsOnly_of_accepted ha hon.all settled holder, ha.replies, ?_, fun d hd => ?_,
      fun htag l => ha.flags l 2 (completeHead_flagged u c p rest hq htag l)⟩
    · rw [ha.channels, completeHead_channel u c p rest hq, hchan, hstate]
    · rw [ha.channels, hon.channels d hd, hchan]
  case notWaiting =>
    have hawaits : (u.channels.get c).awaitsRelease = false := by
      rw [hchan, ← Bool.not_eq_true, awaitsRelease_iff]
      rintro ⟨hstate, hphase, p, rest, hqueue, hwait⟩
      obtain h | h | h := hno
      exacts [h hstate, h hphase, h p rest hqueue hwait]
    exact hrefuse .releaseStep rfl rfl .refusedState
      (by simp [State.act, State.actReleaseStep, indexOf_of_eq m c hm, hawaits])

/-! ### APPEND_STEP (R123) -/

/-- The channel with the step as its newest. -/
def Channel.appended (k : Channel) (p : CourseStep) : Channel :=
  { k with
    queue := k.queue ++ [p], safe := false,
    state := (if k.state = .idle then .active else k.state),
    headPhase := (if k.state = .idle then some .ramp else k.headPhase),
    headClamped := (if k.state = .idle then false else k.headClamped) }

theorem appendTo_eq (s : State) (c : Index) (p : CourseStep) :
    s.appendTo c p =
      let t := s.mapChannel c (fun k => k.appended p)
      if (s.channels.get c).state = .idle ∨ (s.channels.get c).safe = true then
        t.raise (.channel c ((s.channels.get c).appended p).state false)
      else t := by
  have hmap : (s.mapChannel c (fun k =>
      { (if k.state = .idle then
          { k with headPhase := some .ramp, headClamped := false, state := .active }
        else k) with
        queue := k.queue ++ [p], safe := false })) = s.mapChannel c (fun k => k.appended p) := by
    unfold State.mapChannel Channel.appended
    by_cases h : (s.channels.get c).state = .idle
    · simp only [if_pos h]
    · simp only [if_neg h]
  unfold State.appendTo
  dsimp only
  rw [hmap]
  simp only [State.channelEvent, State.mapChannel_channels, Four.get_set_self]
  rfl

/-- Settles O30: the tests of the rule in their order, and then the one channel with its event. -/
theorem appendStepJoinsTheQueue : Obligations.AppendStepJoinsTheQueue := by
  intro r s n presence rest hears settled holder payload hsize u refused
  have hset : u.settled := atRequest_settled s r settled
  have hchan : u.channels = s.channels := atRequest_channels s r
  have hright : RequestKind.appendStep.sizeRight (n :: presence :: rest) = true := by
    simp [RequestKind.sizeRight, hsize]
  have hjudge := judge_of_holder (k := .appendStep) payload rfl holder hright
  have hrefuse : ∀ x : Result, u.actAppendStep (n :: presence :: rest) = u.refuse x →
      exec (.appendStep r) s = .next (refused x.byte) := fun x hx =>
    request_of_quiet s .appendStep r _ hears (hjudge.trans hx) hset
  have hact : ∀ c : Index, n.toNat = c.val → u.actAppendStep (n :: presence :: rest) =
      match readStep c presence rest with
      | none => u.refuse .refusedValue
      | some p =>
        if (s.channels.get c).state = .standby then u.refuse .refusedState
        else if 16 ≤ (s.channels.get c).queue.length then u.refuse .refusedFull
        else (u.appendTo c p).accept [byteOf ((s.channels.get c).queue.length + 1)] := fun c hn => by
    simp only [State.actAppendStep, List.getD_cons_zero, List.getD_cons_succ, List.drop_succ_cons,
      List.drop_zero, indexOf_of_eq n c hn, hchan]
    rfl
  refine ⟨fun hn => hrefuse .refusedValue ?noChannel, fun c hn => ?channel⟩
  case noChannel => simp [State.actAppendStep, indexOf_of_four_le n hn]
  intro k
  refine ⟨fun hread => hrefuse .refusedValue ?noStep, fun p hread => ⟨fun hs => hrefuse .refusedState ?standby,
    fun hs hq => hrefuse .refusedFull ?full, fun hs hq => ?joins⟩⟩
  case noStep => rw [hact c hn, hread]
  case standby => rw [hact c hn, hread]; exact if_pos hs
  case full => rw [hact c hn, hread]; exact (if_neg hs).trans (if_pos hq)
  case joins =>
    intro k' v
    have happ : u.act r.link .appendStep (n :: presence :: rest) =
        (u.appendTo c p).accept [byteOf (k.queue.length + 1)] := by
      refine (hact c hn).trans ?_
      rw [hread]
      exact (if_neg hs).trans (if_neg (Nat.not_le.mpr hq))
    have hmap : u.mapChannel c (fun k => k.appended p) =
        { u with channels := s.channels.set c k' } := by rw [State.mapChannel, hchan]; rfl
    rw [appendTo_eq, hmap, hchan] at happ
    by_cases hev : k.state = .idle ∨ k.safe = true
    · rw [if_pos hev]
      refine (request_of_holder s .appendStep r hears rfl holder (by rw [payload]; exact hright)).trans ?_
      rw [payload, happ, if_pos hev, reply_accept_raise _ _ _ _ _ _ _ (by exact hset)]
      rfl
    · rw [if_neg hev]
      rw [if_neg hev] at happ
      exact request_of_quiet s .appendStep r _ hears (hjudge.trans happ) hset

end Sys2Proof.Machine
end

section
/-! SUPPORT. What a calm action leaves the phase and the due angles, and an action taken for each of a list
whose turns leave one another's parts alone. -/

namespace Sys2Proof.Machine

theorem Steady.counter {s t : State} (h : Steady s t) : t.counter = s.counter := by
  unfold State.counter
  rw [h.elapsed]

theorem Calm.phase {s t : State} (h : Calm s t) : t.phase = s.phase := by
  unfold State.phase
  rw [h.sync, h.toSteady.counter]

theorem firstThyristor_of_settings {s t : State} (h : t.settings = s.settings) (b : Index) :
    t.firstThyristor b = s.firstThyristor b := by
  funext θ
  simp only [State.firstThyristor, State.scheduleAt, h]

theorem presetIntegral_of_steady {s t : State} (h : Steady s t) (b : Index) :
    t.presetIntegral b = s.presetIntegral b := by
  simp only [State.presetIntegral, State.limitIntegral, State.integralLimit, State.feedForward,
    h.settings, h.scanner]

/-- Where every index has its turn once, `j` has it on a state that only the other turns have changed, and
what its turn leaves is changed by the other turns alone. -/
theorem forAll_at (R : Index → State → State → Prop) (hrefl : ∀ j s, R j s s)
    (htrans : ∀ j s t u, R j s t → R j t u → R j s u) (f : Index → State → State)
    (h : ∀ j b t, j ≠ b → R j t (f b t)) (s : State) (order : List Index) (j : Index)
    (hnd : order.Nodup) (hj : j ∈ order) : ∃ t, R j s t ∧ R j (f j t) (s.forAll order f) := by
  have hbeside : ∀ (rest : List Index) (s : State), j ∉ rest → R j s (s.forAll rest f) := by
    intro rest
    induction rest with
    | nil => exact fun s _ => hrefl j s
    | cons b rest ih =>
      intro s hnot
      obtain ⟨hb, hrest⟩ := List.ne_and_not_mem_of_not_mem_cons hnot
      exact htrans _ _ _ _ (h j b s hb) (ih (f b s) hrest)
  induction order generalizing s with
  | nil => exact absurd hj List.not_mem_nil
  | cons b rest ih =>
    obtain ⟨hb, hrest⟩ := List.nodup_cons.mp hnd
    by_cases hjb : j = b
    · subst hjb
      exact ⟨s, hrefl j s, hbeside rest _ hb⟩
    · obtain ⟨t, ht, hu⟩ := ih (f b s) hrest (List.mem_of_ne_of_mem hjb hj)
      exact ⟨t, htrans _ _ _ _ (h j b s hjb) ht, hu⟩

end Sys2Proof.Machine
end

section
/-! PROOF. DEBLOCK (R81, R82, R114, R136). -/

namespace Sys2Proof.Machine

/-- Only other bridges, with their regulators and channels, and what is raised have changed. -/
structure BesideUnit (j : Index) (s t : State) : Prop extends Calm s t where
  monitor : t.monitor = s.monitor
  trip : t.trip = s.trip
  recorder : t.recorder = s.recorder
  triggers : t.triggers = s.triggers
  bridge : t.bridges.get j = s.bridges.get j
  regulator : t.regulators.get j = s.regulators.get j
  channel : t.channels.get j = s.channels.get j
  flags : FlagsKept s t

theorem BesideUnit.refl (j : Index) (s : State) : BesideUnit j s s :=
  ⟨Calm.rfl' s, rfl, rfl, rfl, rfl, rfl, rfl, rfl, FlagsKept.refl s⟩

theorem BesideUnit.trans {j : Index} {s t u : State} (h : BesideUnit j s t) (k : BesideUnit j t u) :
    BesideUnit j s u :=
  ⟨h.toCalm.trans' k.toCalm, k.monitor.trans h.monitor, k.trip.trans h.trip,
    k.recorder.trans h.recorder, k.triggers.trans h.triggers, k.bridge.trans h.bridge,
    k.regulator.trans h.regulator, k.channel.trans h.channel, h.flags.trans k.flags⟩

theorem deblockBridge_beside (s : State) {b j : Index} (h : j ≠ b) : BesideUnit j s (s.deblockBridge b) :=
  ⟨calm_deblockBridge s b, rfl, rfl, rfl, rfl, Four.get_set_of_ne _ _ _ _ h.symm,
    Four.get_set_of_ne _ _ _ _ h.symm, Four.get_set_of_ne _ _ _ _ h.symm,
    flagsKept_raise _ (.bridge b .deblocking .none)⟩

theorem deblockBridge_bridge (s : State) (b : Index) :
    (s.deblockBridge b).bridges.get b =
      { s.bridges.get b with
        state := .deblocking, blockCause := none, heldCauses := ⟨false, false⟩,
        next := s.phase.map (s.firstThyristor b) } :=
  Four.get_set_self _ _ _

theorem deblockBridge_regulator (s : State) (b : Index) :
    (s.deblockBridge b).regulators.get b =
      { s.regulators.get b with
        integral := s.presetIntegral b, sum := 0, count := 0, lastLimited := false, alphaReq := none } :=
  Four.get_set_self _ _ _

theorem deblockBridge_channel (s : State) (b : Index) :
    (s.deblockBridge b).channels.get b =
      (s.channels.get b).reseeded (s.settings.iMax.get b) ((s.scanner.i.get b).toNat * 1000) :=
  Four.get_set_self _ _ _

theorem deblockBridge_flagged (s : State) (b : Index) (l : Link) : (s.deblockBridge b).flagged l 1 :=
  raise_flagged _ (.bridge b .deblocking .none) l

/-- A head in HOLD or WAIT whose target the new course does not meet returns to RAMP (R136). -/
theorem reseeded_eq (k : Channel) (iMax course : Nat) :
    k.reseeded iMax course =
      let leaves : Bool := (k.headPhase == some .hold || k.headPhase == some .wait) &&
        match k.queue with
        | [] => false
        | p :: _ => decide (course ≠ min p.target iMax * 1000)
      { k with
        course := course
        headPhase := if leaves then some .ramp else k.headPhase
        remainingHold := if leaves then none else k.remainingHold } := by
  unfold Channel.reseeded
  cases hq : k.queue with
  | nil => cases k.headPhase <;> simp
  | cons p rest =>
    by_cases hm : course = min p.target iMax * 1000
    · rcases k.headPhase with _ | (_ | _ | _) <;> simp [← hm]
    · rcases k.headPhase with _ | (_ | _ | _) <;> simp [hm]

theorem toNat_max_zero (x : Int) : (max x 0).toNat = x.toNat := by omega

/-- Settles O35: each permitted bridge takes the whole acceptance on what it was, and the four do not meet. -/
theorem deblockAdmits : Obligations.DeblockAdmits := by
  intro r s m hears settled holder payload permitted u
  have hset : u.settled := atRequest_settled s r settled
  refine ⟨fun h0 h16 => ?named, fun hm => ?unnamed⟩
  case unnamed =>
    have hact : u.act r.link .deblock [m] = u.refuse .refusedValue := maskRequest_of_unnamed u m _ _ hm
    exact request_of_quiet s .deblock r _ hears
      ((judge_of_holder (k := .deblock) payload rfl holder rfl).trans hact) hset
  case named =>
    let f : Index → State → State := fun b t =>
      if m.getLsbD b.val && u.deblockPermitted b then t.deblockBridge b else t
    have hact : u.act r.link .deblock [m] = (u.forAll Index.all f).accept
        (Index.all.map (fun b => if m.getLsbD b.val && !u.deblockPermitted b then 0x05 else 0x00)) :=
      maskRequest_of_named u m u.deblockPermitted (fun b t => t.deblockBridge b) h0 h16
    have hperm : ∀ b, u.deblockPermitted b = permitted b := fun b => by
      simp [State.deblockPermitted, permitted, u]
    have hbeside : ∀ j b t, j ≠ b → BesideUnit j t (f b t) := fun j b t hj => by
      dsimp only [f]
      split
      · exact deblockBridge_beside t hj
      · exact BesideUnit.refl j t
    have hat : ∀ b, ∃ v, BesideUnit b u v ∧ BesideUnit b (f b v) (u.forAll Index.all f) := fun b =>
      forAll_at BesideUnit BesideUnit.refl (fun _ _ _ _ h k => h.trans k) f hbeside u Index.all b
        Index.all_nodup (Index.mem_all b)
    have hkeep : ∀ {α : Type} (g : State → α), (∀ b t, g (t.deblockBridge b) = g t) →
        g (u.forAll Index.all f) = g u := fun g hg => forAll_keeps g u _ f fun b t => by
      dsimp only [f]
      split
      · exact hg b t
      · rfl
    have hcalm : Calm u (u.forAll Index.all f) := calm_forAll u _ f fun b t => by
      dsimp only [f]
      split
      · exact calm_deblockBridge t b
      · exact Calm.rfl' t
    obtain ⟨t, hexec, ha⟩ := exec_of_accepted hears holder payload rfl rfl hact hcalm.toSteady
    refine ⟨t, hexec, ?replies, fun b => ⟨fun hn hp => ?admitted, fun hno => ?other⟩, ha.elapsed,
      ha.settings, ha.scanner, ha.sync.trans (hcalm.sync.trans (atRequest_sync s r)),
      ha.monitor.trans ((hkeep State.monitor fun _ _ => rfl).trans (atRequest_monitor s r)),
      ha.trip.trans ((hkeep State.trip fun _ _ => rfl).trans (atRequest_trip s r)),
      (ha.recorder ((hkeep State.triggers fun _ _ => rfl).trans hset.2)).trans
        ((hkeep State.recorder fun _ _ => rfl).trans (atRequest_recorder s r)),
      ha.holder, ha.pending⟩
    case replies =>
      rw [ha.replies]
      simp only [hperm]
      rfl
    case admitted =>
      obtain ⟨v, hv, hw⟩ := hat b
      have hfv : f b v = v.deblockBridge b := if_pos (by rw [hn, hperm, hp]; rfl)
      rw [hfv] at hw
      have hbr : v.bridges.get b = s.bridges.get b := hv.bridge.trans (by simp [u])
      have hreg : v.regulators.get b = s.regulators.get b := hv.regulator.trans (by simp [u])
      have hch : v.channels.get b = s.channels.get b := hv.channel.trans (by simp [u])
      have hsettings : v.settings = s.settings := hv.settings.trans (by simp [u])
      have hscanner : v.scanner = s.scanner := hv.scanner.trans (by simp [u])
      refine ⟨?_, ?_, ?_, fun l => ha.flags l 1 (hw.flags l 1 (deblockBridge_flagged v b l))⟩
      · rw [ha.bridges, hw.bridge, deblockBridge_bridge, hbr, hv.phase,
          firstThyristor_of_settings hv.settings]
      · rw [ha.regulators, hw.regulator, deblockBridge_regulator, hreg]
        simp only [State.presetIntegral, State.limitIntegral, State.integralLimit, State.feedForward,
          hsettings, hscanner, clampInt, idealVoltage, fixedOne]
      · have hk := deblockBridge_channel v b
        rw [reseeded_eq, hch, hsettings, hscanner, ← toNat_max_zero] at hk
        exact (congrArg (fun q => q.get b) ha.channels).trans (hw.channel.trans hk)
    case other =>
      obtain ⟨v, hv, hw⟩ := hat b
      have hfv : f b v = v := if_neg (by
        rw [hperm]
        obtain h | h := hno <;> simp [h])
      rw [hfv] at hw
      refine ⟨?_, ?_, ?_⟩
      · rw [ha.bridges, hw.bridge, hv.bridge, atRequest_bridges]
      · rw [ha.regulators, hw.regulator, hv.regulator, atRequest_regulators]
      · rw [ha.channels, hw.channel, hv.channel, atRequest_channels]

end Sys2Proof.Machine
end

section
/-! PROOF. PING and the requests that only read (R13, R49, R145, R170, R193, R204, R207, R208). -/

namespace Sys2Proof.Machine

/-! ### The layouts with every field of its fixed size -/

/-- The field of a mean that may be absent. -/
def meanField (i : Option Int) : Nat := (i.map (fun x => (x + 2000).toNat)).getD 65535

theorem fieldMean_eq (i : Option Int) : fieldMean i = field16 (meanField i) := by cases i <;> rfl

theorem recentEntry_eq (x : Option RecentEpisode) :
    recentEntry x =
      field32 ((x.map (fun e => e.startTick.toNat)).getD 0) ++
        field24 ((x.map (fun e => e.age)).getD 0) := by cases x <;> rfl

/-- A header that may be absent, field by field. -/
theorem headerFields_eq (r : Recorder) :
    r.headerFields =
      byteOf ((r.header.map (fun h => h.cause.code)).getD 0) ::
        (field32 ((r.header.map (fun h => h.triggerTick.toNat)).getD 0) ++
          field16 ((r.header.map (fun h => h.preCount)).getD 0) ++
          field16 ((r.header.map (fun h => h.plannedLength)).getD 0) ++
          [byteOf ((r.header.map (fun h => h.decimation)).getD 0),
            byteOf ((r.header.map (fun _ => r.missed)).getD 0)]) := by
  unfold Recorder.headerFields
  cases r.header <;> rfl

theorem headerReport_length (r : Recorder) : r.headerReport.length = 15 := by
  rw [Recorder.headerReport, headerFields_eq]
  rfl

theorem Regulator.report_eq (r : Regulator) :
    r.report = signed32 r.integral ++ field16 r.count ++ field16 (meanField r.mean) ++
      fieldAngle r.alphaReq ++ [flagByte r.lastLimited] := by
  rw [Regulator.report, fieldMean_eq]

/-! ### READ_STATUS: the sections at their offsets (Table 10-10) -/

theorem getElem?_of_section (pre sec post : List Byte) (n k : Nat) (h : pre.length = n)
    (hk : k < sec.length) : (pre ++ sec ++ post)[n + k]? = sec[k]? := by
  subst h
  rw [List.append_assoc, List.getElem?_append_right (Nat.le_add_right _ _), Nat.add_sub_cancel_left,
    List.getElem?_append_left hk]

theorem take_of_section (pre sec post : List Byte) (n k m : Nat) (h : pre.length = n)
    (hk : k + m ≤ sec.length) : ((pre ++ sec ++ post).drop (n + k)).take m = (sec.drop k).take m := by
  subst h
  rw [List.append_assoc, ← List.drop_drop, List.drop_left, List.drop_append_of_le_length (by omega),
    List.take_append_of_le_length (by rw [List.length_drop]; omega)]

/-- The four bridges' sections, and the four regulators'. -/
def State.bridgeReports (s : State) : List Byte := (s.bridges.toList.map Bridge.report).flatten

def State.regulatorReports (s : State) : List Byte := (s.regulators.toList.map Regulator.report).flatten

def State.channelBytes (s : State) : List Byte := s.channels.toList.map Channel.statusByte

theorem bridgeReports_length (s : State) : s.bridgeReports.length = 52 := rfl

theorem regulatorReports_length (s : State) : s.regulatorReports.length = 44 := by
  simp only [State.regulatorReports, Four.toList, List.map_cons, List.map_nil, Regulator.report_eq]
  rfl

theorem monitorReport_length (m : Monitor) : m.report.length = 74 := by
  simp only [Monitor.report, recentEntry_eq]
  rfl

theorem tripReport_length (s : State) : s.tripReport.length = 8 := rfl

theorem statusReport_eq (s : State) (l : Link) :
    s.statusReport l = s.syncReport ++ s.bridgeReports ++ s.regulatorReports ++ s.channelBytes ++
      s.monitor.report ++ s.tripReport ++ [byteOf s.recorder.state.code] ++ s.linkReport l := rfl

/-- The first four bytes of each regulator's section are its integral. -/
theorem regulatorReports_integral (s : State) (b : Index) :
    (s.regulatorReports.drop (11 * b.val)).take 4 = signed32 (s.regulators.get b).integral := by
  simp only [State.regulatorReports, Four.toList, List.map_cons, List.map_nil, Regulator.report_eq]
  fin_cases b <;> rfl

theorem bridgeReports_state (s : State) (b : Index) :
    s.bridgeReports[13 * b.val]? = some (byteOf (s.bridgeState b).code) := by
  fin_cases b <;> rfl

theorem channelBytes_get (s : State) (b : Index) :
    s.channelBytes[b.val]? = some (s.channels.get b).statusByte := by
  fin_cases b <;> rfl

section
variable (s : State) (l : Link)

theorem status_length : (0x00 :: s.statusReport l : List Byte).length = 223 := by
  rw [statusReport_eq]
  simp only [List.length_cons, List.length_append, bridgeReports_length, regulatorReports_length,
    monitorReport_length, tripReport_length]
  rfl

theorem status_bridge (b : Index) :
    (0x00 :: s.statusReport l : List Byte)[30 + 13 * b.val]? = some (byteOf (s.bridgeState b).code) := by
  have hb := b.isLt
  have h := getElem?_of_section (0x00 :: s.syncReport) s.bridgeReports
    (s.regulatorReports ++ s.channelBytes ++ s.monitor.report ++ s.tripReport ++
      [byteOf s.recorder.state.code] ++ s.linkReport l) 30 (13 * b.val) rfl
    (by rw [bridgeReports_length]; omega)
  rw [bridgeReports_state] at h
  simpa only [statusReport_eq, List.append_assoc, List.cons_append] using h

theorem status_regulator (b : Index) :
    ((0x00 :: s.statusReport l : List Byte).drop (82 + 11 * b.val)).take 4 =
      signed32 (s.regulators.get b).integral := by
  have hb := b.isLt
  have h := take_of_section (0x00 :: s.syncReport ++ s.bridgeReports) s.regulatorReports
    (s.channelBytes ++ s.monitor.report ++ s.tripReport ++
      [byteOf s.recorder.state.code] ++ s.linkReport l) 82 (11 * b.val) 4 rfl
    (by rw [regulatorReports_length]; omega)
  rw [regulatorReports_integral] at h
  simpa only [statusReport_eq, List.append_assoc, List.cons_append] using h

theorem status_channel (b : Index) :
    (0x00 :: s.statusReport l : List Byte)[126 + b.val]? = some (s.channels.get b).statusByte := by
  have h := getElem?_of_section (0x00 :: s.syncReport ++ s.bridgeReports ++ s.regulatorReports)
    s.channelBytes (s.monitor.report ++ s.tripReport ++ [byteOf s.recorder.state.code] ++
      s.linkReport l) 126 b.val
    (by simp only [List.length_append, List.length_cons, bridgeReports_length,
          regulatorReports_length]; rfl) b.isLt
  rw [channelBytes_get] at h
  simpa only [statusReport_eq, List.append_assoc, List.cons_append] using h

/-- All before the monitor's section is of 130 bytes. -/
theorem status_head_length :
    (0x00 :: s.syncReport ++ s.bridgeReports ++ s.regulatorReports ++ s.channelBytes :
      List Byte).length = 130 := by
  simp only [List.length_append, List.length_cons, bridgeReports_length, regulatorReports_length]
  rfl

theorem status_monitor (k : Nat) (hk : k < 74) :
    (0x00 :: s.statusReport l : List Byte)[130 + k]? = s.monitor.report[k]? := by
  have h := getElem?_of_section
    (0x00 :: s.syncReport ++ s.bridgeReports ++ s.regulatorReports ++ s.channelBytes) s.monitor.report
    (s.tripReport ++ [byteOf s.recorder.state.code] ++ s.linkReport l) 130 k (status_head_length s)
    (by rw [monitorReport_length]; exact hk)
  simpa only [statusReport_eq, List.append_assoc, List.cons_append] using h

/-- What follows the monitor's section: the trip unit's, the recorder's and the link's. -/
def State.statusTail : List Byte :=
  s.tripReport ++ [byteOf s.recorder.state.code] ++ s.linkReport l

theorem status_tail : (0x00 :: s.statusReport l : List Byte).drop 204 = s.statusTail l := by
  have hlen : (0x00 :: s.syncReport ++ s.bridgeReports ++ s.regulatorReports ++ s.channelBytes ++
      s.monitor.report : List Byte).length = 204 := by
    rw [List.length_append, status_head_length, monitorReport_length]
  have h := List.drop_left (l₁ := 0x00 :: s.syncReport ++ s.bridgeReports ++ s.regulatorReports ++
    s.channelBytes ++ s.monitor.report) (l₂ := s.statusTail l)
  rw [hlen] at h
  simpa only [statusReport_eq, State.statusTail, List.append_assoc, List.cons_append] using h

theorem status_tail_get (k : Nat) :
    (0x00 :: s.statusReport l : List Byte)[204 + k]? = (s.statusTail l)[k]? := by
  rw [← status_tail, List.getElem?_drop]

theorem status_tail_drop (k : Nat) :
    (0x00 :: s.statusReport l : List Byte).drop (204 + k) = (s.statusTail l).drop k := by
  rw [← status_tail, List.drop_drop]

end

/-! ### READ_MEASURE (Table 10-11) -/

theorem measureReport_current (c : Scanner) (b : Index) :
    (((0x00 : Byte) :: c.measureReport).drop (11 + 2 * b.val)).take 2 = field16 (c.i.get b + 2000).toNat := by
  match b with
  | 0 | 1 | 2 | 3 => rfl

theorem measureReport_stack (c : Scanner) (b : Index) :
    (((0x00 : Byte) :: c.measureReport).drop (19 + 3 * b.val)).take 3 = field24 (c.e.get b).toNat := by
  match b with
  | 0 | 1 | 2 | 3 => rfl

theorem measureReport_cell (c : Scanner) (b : Index) :
    (((0x00 : Byte) :: c.measureReport).drop (43 + 4 * b.val)).take 4 = field32 (c.vCell.get b).toNat := by
  match b with
  | 0 | 1 | 2 | 3 => rfl

/-- Settles O50: each request comes to its own report, whose named items stand at their offsets. -/
theorem readRequestsReport : Obligations.ReadRequestsReport := by
  intro r s hears settled u answers
  have hset : u.settled := atRequest_settled s r settled
  have hanswers : ∀ (k : RequestKind) (p payload : List Byte), r.payload = p → k.commanding = false →
      k.serviceOnly = false → k.sizeRight p = true → (u.act r.link k p).state = u →
      (u.act r.link k p).payload = payload → answers k payload := by
    intro k p payload hp hc hs hsize hstate hpay
    have h := request_of_quiet s k r _ hears (judge_of_open hp hc hs hsize) (by rw [hstate]; exact hset)
    rw [hstate, hpay] at h
    exact (exec_command s k r).trans h
  refine ⟨fun hp => ⟨hanswers .ping _ _ hp rfl rfl rfl rfl rfl,
    ⟨hanswers .readStatus _ _ hp rfl rfl rfl rfl rfl, ?status⟩,
    ⟨hanswers .readMeasure _ _ hp rfl rfl rfl rfl ?measureAnswer, ?measure⟩,
    hanswers .readRecordHeader _ _ hp rfl rfl rfl rfl ?headerAnswer, headerReport_length _⟩,
    fun m hp => ?byNumber⟩
  case status =>
    have hsafe : ∀ b, (s.channels.get b).statusByte = byteOf ((s.channels.get b).state.code +
        if (s.channels.get b).safe then 8 else 0) := fun b => rfl
    refine ⟨status_length u r.link, ?_, rfl, ?_, fun b => ⟨?_, ?_, ?_⟩, ?_, ?_, ?_, ?_, ?_, ?_, ?_, ?_⟩
    · rw [← atRequest_sync s r]; rfl
    · rw [← atRequest_sync s r]; rfl
    · rw [status_bridge, atRequest_bridgeState]
    · rw [status_regulator, atRequest_regulators]
    · rw [status_channel, atRequest_channels, hsafe]
    · rw [← atRequest_monitor s r]; exact status_monitor u r.link 0 (by decide)
    · rw [← atRequest_monitor s r]; exact status_monitor u r.link 17 (by decide)
    · rw [← atRequest_trip s r]; exact status_tail_get u r.link 2
    · rw [← atRequest_trip s r]; exact congrArg (List.take 4) (status_tail_drop u r.link 3)
    · rw [← atRequest_recorder s r]; exact status_tail_get u r.link 8
    · refine (status_tail_get u r.link 9).trans ?_
      rw [← atRequest_holder s r]
      change some (byteOf (linkCode u.holder)) = _
      cases u.holder <;> rfl
    · rw [← LinkState.atMark_summary (s.links.get r.link), ← atRequest_link]
      exact congrArg (List.take 2) (status_tail_drop u r.link 12)
    · refine (status_tail_get u r.link 18).trans ?_
      rw [← atRequest_rate s r]
      change some (byteOf u.rate.code) = _
      cases u.rate <;> rfl
  case measureAnswer => exact congrArg (fun c : Scanner => 0x00 :: c.measureReport) (atRequest_scanner s r)
  case measure =>
    exact ⟨rfl, rfl, rfl, fun b => ⟨measureReport_current _ b, measureReport_stack _ b,
      measureReport_cell _ b⟩, rfl, rfl⟩
  case headerAnswer => exact congrArg (fun c : Recorder => 0x00 :: c.headerReport) (atRequest_recorder s r)
  case byNumber =>
    intro points
    refine ⟨hanswers .readEnvelope _ _ hp rfl rfl rfl ?envelopeState ?envelope,
      fun c hm => hanswers .readCourse _ _ hp rfl rfl rfl ?courseState ?course,
      fun hm => hanswers .readCourse _ _ hp rfl rfl rfl ?noChannelState ?noChannel⟩
    case envelopeState =>
      simp only [State.act, State.actReadEnvelope]
      split_ifs <;> rfl
    case envelope =>
      have hmon : u.monitor = s.monitor := atRequest_monitor s r
      simp only [State.act, State.actReadEnvelope, List.getD_cons_zero, hmon]
      split_ifs with h0 h1
      · rw [h0]; rfl
      · rw [h1]; rfl
      · rfl
    case courseState => simp [State.act, State.actReadCourse, indexOf_of_eq m c hm, State.accept]
    case course => simp [State.act, State.actReadCourse, indexOf_of_eq m c hm, State.accept, u]; rfl
    case noChannelState => simp [State.act, State.actReadCourse, indexOf_of_four_le m hm, State.refuse]
    case noChannel => simp [State.act, State.actReadCourse, indexOf_of_four_le m hm, State.refuse]; rfl

end Sys2Proof.Machine
end

section
/-! PROOF. Gaps, framing faults and breaks on a link's receive line (R179 to R182). -/

namespace Sys2Proof.Machine

/-! ### A request's own rule leaves the time and the bytes held alone -/

/-- Time stands, and each receiver holds what it held. -/
def HeldKept (s t : State) : Prop :=
  t.elapsed = s.elapsed ∧ ∀ l, (t.links.get l).heldBytes = (s.links.get l).heldBytes

theorem HeldKept.refl (s : State) : HeldKept s s := ⟨rfl, fun _ => rfl⟩

theorem HeldKept.trans {s t u : State} (h : HeldKept s t) (k : HeldKept t u) : HeldKept s u :=
  ⟨k.1.trans h.1, fun l => (k.2 l).trans (h.2 l)⟩

theorem Steady.held {s t : State} (h : Steady s t) : HeldKept s t := by
  refine ⟨h.elapsed, fun l => ?_⟩
  obtain ⟨hb, -⟩ := lineKept_of_unsummed (h.links l)
  exact hb

theorem heldKept_mapLink (s : State) (l : Link) (f : LinkState → LinkState)
    (h : (f (s.links.get l)).heldBytes = (s.links.get l).heldBytes) : HeldKept s (s.mapLink l f) := by
  refine ⟨rfl, fun m => ?_⟩
  cases l <;> cases m <;> first | rfl | exact h

theorem heldKept_forAll (s : State) (order : List Index) (f : Index → State → State)
    (h : ∀ i t, HeldKept t (f i t)) : HeldKept s (s.forAll order f) := by
  induction order generalizing s with
  | nil => exact HeldKept.refl s
  | cons i rest ih => exact (h i s).trans (ih (f i s))

theorem heldKept_maskRequest (s : State) (mask : Byte) (judge : Index → Result)
    (effect : Index → State → State) (h : ∀ i t, Steady t (effect i t)) :
    HeldKept s (s.maskRequest mask judge effect).state := by
  unfold State.maskRequest
  split
  · exact HeldKept.refl s
  · refine heldKept_forAll s _ _ fun i t => ?_
    split
    · exact (h i t).held
    · exact HeldKept.refl t

theorem heldKept_giveAuthority (s : State) (l : Link) : HeldKept s (s.giveAuthority l) := by
  refine HeldKept.trans (t := { s with holder := l, watchdog := 0 }) ⟨rfl, fun _ => rfl⟩ ?_
  exact (calm_raise _ _).toSteady.held

theorem heldKept_setValue (s : State) (x : Setting) (v : Int) : HeldKept s (s.setValue x v) := by
  refine HeldKept.trans (t := { s with settings := s.settings.put x v }) ⟨rfl, fun _ => rfl⟩ ?_
  generalize hput : ({ s with settings := s.settings.put x v } : State) = w
  unfold State.setValue State.applied
  split
  case h_1 | h_2 =>
    rw [hput]
    split
    · exact HeldKept.refl w
    · exact (steady_restartSync w).held
  all_goals
    rw [hput]
    exact ⟨rfl, fun _ => rfl⟩

/-- A request's own rule, whichever the request. -/
theorem heldKept_act (s : State) (l : Link) (k : RequestKind) (p : List Byte) :
    HeldKept s (s.act l k p).state := by
  cases k
  case readStatus | readMeasure | readRecordHeader | ping => exact HeldKept.refl s
  case deblock => exact heldKept_maskRequest s _ _ _ fun b t => (calm_deblockBridge t b).toSteady
  case stop => exact heldKept_maskRequest s _ _ _ fun b t => (onBridge_stopBridge t b).toSteady
  case flush => exact heldKept_maskRequest s _ _ _ fun c t => (onChannel_flushChannel t c).toSteady
  case pause => exact heldKept_maskRequest s _ _ _ fun c t => (onChannel_pauseChannel t c).toSteady
  case resume => exact heldKept_maskRequest s _ _ _ fun c t => (onChannel_resumeChannel t c).toSteady
  case setSetting =>
    simp only [State.act, State.actSetSetting]
    repeat' split
    case h_2.isFalse.isFalse.isFalse => exact heldKept_setValue s _ _
    all_goals exact HeldKept.refl s
  case clearEvents | setNoticeMask =>
    simp only [State.act, State.actClearEvents, State.actSetNoticeMask]
    split
    · exact HeldKept.refl s
    · exact heldKept_mapLink s l _ rfl
  case appendStep =>
    simp only [State.act, State.actAppendStep]
    repeat' split
    case h_2.isFalse.isFalse =>
      simp only [State.accept, appendTo_eq]
      split
      · exact ((calm_mapChannel s _ _).trans' (calm_raise _ _)).toSteady.held
      · exact (calm_mapChannel s _ _).toSteady.held
    all_goals exact HeldKept.refl s
  case releaseStep =>
    simp only [State.act, State.actReleaseStep]
    repeat' split
    case h_2.isTrue => exact (onChannel_completeHead s _).toSteady.held
    all_goals exact HeldKept.refl s
  case wake =>
    simp only [State.act, State.actWake]
    repeat' split
    case h_2.isTrue => exact (onChannel_setChannelState s _ _).toSteady.held
    all_goals exact HeldKept.refl s
  case recordTrigger =>
    simp only [State.act, State.actRecordTrigger]
    split
    · exact ((onRecorder_trigger s _).trans (onRecorder_takeTriggers _ _)).toSteady.held
    · exact HeldKept.refl s
  case tripClear =>
    simp only [State.act, State.actTripClear]
    repeat' split
    case isFalse.isFalse => exact (calm_clearTrip s).toSteady.held
    all_goals exact HeldKept.refl s
  case syncRestart =>
    simp only [State.act, State.actSyncRestart]
    split
    · exact (steady_restartSync s).held
    · exact HeldKept.refl s
  case seize | yield =>
    simp only [State.act, State.actSeize, State.actYield]
    split
    all_goals first | exact heldKept_giveAuthority s _ | exact HeldKept.refl s
  case getSetting | readEnvelope | readCourse | readRecord | loadEnvelope | recordRelease =>
    simp only [State.act, State.actGetSetting, State.actReadEnvelope, State.actReadCourse,
      State.actReadRecord, State.actLoadEnvelope, State.actRecordRelease]
    repeat' split
    all_goals exact ⟨rfl, fun _ => rfl⟩

theorem heldKept_settle (s : State) (o : Schedule) : HeldKept s (s.settle o) := by
  refine ⟨settle_elapsed s o, fun l => ?_⟩
  obtain ⟨hb, -⟩ := settle_lineKept s o l
  exact hb

theorem heldKept_takeRecord (s : State) (l : Link) (kind tag : Byte) (p : List Byte) (o : Schedule) :
    HeldKept s (s.takeRecord l kind tag p o) := by
  have hheard : HeldKept s (s.heardFrom l) := by
    rw [heardFrom_eq]
    exact ⟨rfl, fun _ => rfl⟩
  have hjudge : HeldKept (s.heardFrom l) ((s.heardFrom l).judgeRequest l kind p).state := by
    unfold State.judgeRequest
    repeat' split
    all_goals first | exact heldKept_act _ l _ p | exact HeldKept.refl _
  unfold State.takeRecord
  dsimp only
  split
  · exact hheard.trans (heldKept_mapLink _ l _ rfl)
  · exact hheard.trans (hjudge.trans ((heldKept_mapLink _ l _ rfl).trans (heldKept_settle _ o)))

theorem heldKept_rxActs (acts : List RxAct) (s : State) (l : Link) (o : Schedule) :
    HeldKept s (acts.foldl (fun t a => t.rxAct l o a) s) := by
  induction acts generalizing s with
  | nil => exact HeldKept.refl s
  | cons a rest ih =>
    refine HeldKept.trans ?_ (ih _)
    cases a with
    | frameError => exact heldKept_mapLink s l _ rfl
    | record kind tag payload => exact heldKept_takeRecord s l kind tag payload o

/-! ### Gaps and faults -/

/-- Past a gap no candidate is left waiting. -/
theorem examine_gap_held (n : Nat) (held : List HeldByte) : (examine true n held).held = [] := by
  induction held generalizing n with
  | nil => cases n <;> rfl
  | cons b rest ih =>
    cases n with
    | succ n => exact ih n
    | zero =>
      unfold examine
      split
      · split
        · exact ih 0
        · exact ih 0
        · exact ih _
      · exact ih 0

/-- Bytes with no sync byte among them are dropped. -/
theorem examine_of_no_sync (gap : Bool) (held : List HeldByte) (h : ∀ y ∈ held, y.byte ≠ 0xA5) :
    examine gap 0 held = ⟨[], []⟩ := by
  induction held with
  | nil => rfl
  | cons b rest ih =>
    rw [examine_cons_of_not_sync gap b rest (h b List.mem_cons_self)]
    exact ih fun y hy => h y (List.mem_cons_of_mem b hy)

theorem watch_of_noted {k : LinkState} {fell noted : Tick}
    (h : (k.brk = .mark ∧ noted = fell) ∨ k.brk = .space noted) : k.brk.watch fell = .space noted := by
  obtain ⟨hb, rfl⟩ | hb := h
  all_goals rw [hb]; rfl

theorem breakTicks_eq (s : State) :
    (match s.rate with | .slow => 1736 | .fast => 200) = s.rate.breakTicks := by
  cases s.rate <;> rfl

/-- What a single discarded candidate makes of its link (R180). -/
theorem examined_of_frameError (s : State) (l : Link) (o : Schedule) :
    s.examined l ⟨[], [.frameError]⟩ o =
      s.mapLink l (fun k => ({ k with heldBytes := [] } : LinkState).frameError) := by
  unfold State.examined
  simp only [List.foldl_cons, List.foldl_nil, State.rxAct, State.mapLink, Both.get_set_self,
    Both.set_set]

/-- Settles O41: what the search finds after a gap or a fault, and the tick at which it is made. -/
theorem gapsAndFaultsDiscard : Obligations.GapsAndFaultsDiscard := by
  intro l o s ⟨hrun, hset⟩ failed
  refine ⟨fun h hlast => ?gap, fun b h rest hheld hlast hb hno hjudge => ?gapAlone,
    fun fell noted wait hnoted => ?fault⟩
  case gap =>
    have hruns : s.gapRunsOut l o =
        (s.runFor (10001 - s.since h.tick)).examined l (s.links.get l).gapSearch o := by
      unfold State.gapRunsOut
      rw [hlast]
      rfl
    obtain ⟨helapsed, hbytes⟩ := heldKept_rxActs (s.links.get l).gapSearch.acts
      ((s.runFor (10001 - s.since h.tick)).mapLink l
        (fun k => { k with heldBytes := (s.links.get l).gapSearch.held })) l o
    have hsettled : (s.gapRunsOut l o).settled := by
      rw [hruns]
      exact rxActs_settled _ _ _ _ hset
    rw [exec_gapTimeout, take_eq_of_quiet hrun rfl hsettled, hruns]
    refine ⟨_, rfl, helapsed, ?_⟩
    unfold LinkState.hunting
    rw [List.isEmpty_iff]
    refine (hbytes l).trans ?_
    simp only [State.mapLink_links, Both.get_set_self]
    exact examine_gap_held 0 _
  case gapAlone =>
    have hsearch : (s.links.get l).gapSearch = ⟨[], [.frameError]⟩ := by
      unfold LinkState.gapSearch
      rw [hheld, examine_cons_of_sync true b rest hb, hjudge]
      simp only [if_true, examine_of_no_sync true rest hno]
      rfl
    have hruns : s.gapRunsOut l o =
        { s with elapsed := s.elapsed + (10001 - s.since h.tick), links := s.links.set l failed } := by
      unfold State.gapRunsOut
      rw [hheld, hlast, hsearch]
      dsimp only
      rw [examined_of_frameError]
      rfl
    rw [exec_gapTimeout, take_eq_of_quiet hrun hruns (by exact hset)]
  case fault =>
    intro bits20 atSpace
    have hbits : bits20 = (s.runFor wait).rate.breakTicks := breakTicks_eq s
    have hwatch : ((s.runFor wait).links.get l).brk.watch fell = .space noted := watch_of_noted hnoted
    have hexec := exec_framingFault (s := s) l ⟨fell, wait⟩ o
    refine ⟨fun hlt hheld => ?idle, fun b rest hlt hheld hno => ?candidate, fun hge => ?late⟩
    case idle =>
      have hsearch : ((s.runFor wait).links.get l).faultSearch = ⟨[], []⟩ := by
        unfold LinkState.faultSearch
        rw [State.runFor_links, hheld]
      have hfault : (s.runFor wait).framingFault l fell o =
          { s with
            elapsed := s.elapsed + wait
            links := s.links.set l { s.links.get l with brk := .mark } } := by
        unfold State.framingFault
        rw [hwatch]
        dsimp only
        rw [if_pos (hbits ▸ hlt), hsearch]
        simp only [State.examined, List.foldl_nil, State.mapLink, Both.get_set_self, Both.set_set]
        rw [← hheld]
        rfl
      rw [hexec, take_eq_of_quiet hrun hfault (by exact hset)]
    case candidate =>
      have hsearch : ((s.runFor wait).links.get l).faultSearch = ⟨[], [.frameError]⟩ := by
        unfold LinkState.faultSearch
        rw [State.runFor_links, hheld]
        dsimp only
        rw [examine_of_no_sync false rest hno]
        rfl
      have hfault : (s.runFor wait).framingFault l fell o =
          { s with
            elapsed := s.elapsed + wait
            links := s.links.set l { failed with brk := .mark } } := by
        unfold State.framingFault
        rw [hwatch]
        dsimp only
        rw [if_pos (hbits ▸ hlt), hsearch, examined_of_frameError]
        simp only [State.mapLink, Both.get_set_self, Both.set_set]
        rfl
      rw [hexec, take_eq_of_quiet hrun hfault (by exact hset)]
    case late =>
      have hfault : (s.runFor wait).framingFault l fell o = { s with elapsed := s.elapsed + wait } := by
        unfold State.framingFault
        rw [hwatch]
        dsimp only
        rw [if_neg (Nat.not_lt.mpr (hbits ▸ hge))]
        rfl
      rw [hexec, take_eq_of_quiet hrun hfault (by exact hset)]

/-! ### Breaks -/

/-- The byte in progress ends less than a byte after now, and a whole number of bytes after the first. -/
theorem cutBy_bounds (x : Transmission) (byteTicks now : Nat) (hstart : x.startedAt ≤ now)
    (hpos : 0 < byteTicks) (hend : now < x.startedAt + x.bytes.length * byteTicks) :
    ∃ cut, x.cutBy byteTicks now = { x with cutAt := some cut } ∧ now < cut ∧ cut ≤ now + byteTicks ∧
      byteTicks ∣ cut - x.startedAt := by
  refine ⟨_, rfl, ?_⟩
  have hdiv := Nat.div_add_mod (now - x.startedAt) byteTicks
  have hmod := Nat.mod_lt (now - x.startedAt) hpos
  have hlt : (now - x.startedAt) / byteTicks < x.bytes.length := by
    rw [Nat.div_lt_iff_lt_mul hpos]
    omega
  rw [Nat.min_eq_left (Nat.succ_le_of_lt hlt)]
  refine ⟨?_, ?_, ?_⟩
  · rw [Nat.succ_mul, Nat.mul_comm]
    omega
  · rw [Nat.succ_mul, Nat.mul_comm]
    omega
  · exact ⟨(now - x.startedAt) / byteTicks + 1, by rw [Nat.add_sub_cancel_left, Nat.mul_comm]⟩

theorem counter_runFor (s : State) (d : Nat) : (s.runFor d).counter = s.counter + BitVec.ofNat 32 d := by
  unfold State.counter
  rw [State.runFor_elapsed]
  exact BitVec.ofNat_add _ _

/-- Run to a tick `bits` after one noted, the counter stands that far from it, or further where it did
before. -/
theorem since_runToTick (s : State) (noted : Tick) (bits : Nat) (hbits : bits < 2147483648) :
    bits ≤ (s.runToTick (noted + BitVec.ofNat 32 bits)).since noted ∧
      (s.since noted ≤ bits → (s.runToTick (noted + BitVec.ofNat 32 bits)).since noted = bits) := by
  unfold State.runToTick
  dsimp only
  split
  case isTrue h =>
    have hcounter : (s.runFor (noted + BitVec.ofNat 32 bits - s.counter).toNat).since noted = bits := by
      unfold State.since
      rw [counter_runFor, BitVec.ofNat_toNat, BitVec.setWidth_eq]
      have hsum : s.counter + (noted + BitVec.ofNat 32 bits - s.counter) - noted =
          BitVec.ofNat 32 bits := by bv_omega
      rw [hsum, BitVec.toNat_ofNat]
      omega
    exact ⟨hcounter.ge, fun _ => hcounter⟩
  case isFalse h =>
    have hfar : bits < s.since noted := by
      unfold State.since
      simp only [Config.longestInterval] at h
      bv_omega
    exact ⟨hfar.le, fun hle => absurd hle (by omega)⟩

/-- Settles O42: the tick of a break, what it empties and where it cuts, and its end. -/
theorem breaksEmptyTheLink : Obligations.BreaksEmptyTheLink := by
  intro l s ⟨hrun, hset⟩ bits20
  have hbits : bits20 = s.rate.breakTicks := breakTicks_eq s
  refine ⟨fun fell noted hnoted => ?detected, fun fell hb => ?already, fun wait hb => ?ends,
    fun bytes started cut hx => ?abandoned⟩
  case detected =>
    have hwatch : (s.links.get l).brk.watch fell = .space noted := watch_of_noted hnoted
    let u := s.runToTick (noted + BitVec.ofNat 32 bits20)
    obtain ⟨d, hd⟩ := runToTick_eq s (noted + BitVec.ofNat 32 bits20)
    have hu : u = s.runFor d := hd
    have hdetect : s.detectBreak l fell = u.breakNow l := by
      unfold State.detectBreak
      rw [hwatch, ← hbits]
    have hlink : ((u.breakNow l).links.get l) =
        (s.links.get l).breakFound s.rate.byteTicks u.elapsed := by
      rw [hu]
      exact Both.get_set_self _ _ _
    have hlt : bits20 < 2147483648 := by
      rw [hbits]
      cases s.rate <;> decide
    obtain ⟨hsince, hsince'⟩ := since_runToTick s noted bits20 hlt
    have hsettled : (u.breakNow l).settled := by
      rw [hu]
      exact hset
    rw [exec_breakDetected, take_eq_of_quiet hrun hdetect hsettled]
    refine ⟨_, rfl, rfl, hsince, hsince', ?_, ?_, ?_, ?_, ?flag, ?_, ?_, fun x hx hcut hstart hend => ?cut,
      ?rest⟩
    case cut =>
      have hpos : 0 < s.rate.byteTicks := by cases s.rate <;> decide
      obtain ⟨cut, hby, hrest⟩ := cutBy_bounds x s.rate.byteTicks u.elapsed hstart hpos hend
      refine ⟨cut, ?_, hrest⟩
      rw [hlink, ← hby]
      simp [LinkState.breakFound, LinkState.setFlag, hx, hcut]
    case rest =>
      rw [hlink, hu]
      rfl
    case flag =>
      unfold State.flagged
      rw [hlink]
      exact hasBit_addBit_self _ 12 (by decide)
    all_goals
      rw [hlink]
      rfl
  case already =>
    have hdetect : s.detectBreak l fell = s := by
      unfold State.detectBreak
      rw [hb]
      rfl
    rw [exec_breakDetected, take_eq_of_quiet hrun hdetect hset]
  case ends =>
    have hin : (s.runFor wait).inBreak l = true := by
      unfold State.inBreak
      rw [State.runFor_links, hb]
      rfl
    have hend : (s.runFor wait).endBreak l =
        { s with
          elapsed := s.elapsed + wait
          links := s.links.set l { s.links.get l with brk := .mark, heldBytes := [] } } := by
      unfold State.endBreak
      rw [hin, if_pos rfl]
      rfl
    rw [exec_breakEnd, take_eq_of_quiet hrun hend (by exact hset)]
  case abandoned =>
    have habandon : s.abandonSending l =
        { s with
          elapsed := max s.elapsed cut
          links := s.links.set l { s.links.get l with transmitter := none } } := by
      unfold State.abandonSending
      rw [hx]
      rfl
    rw [exec_recordAbandon, take_eq_of_quiet hrun habandon (by exact hset)]

end Sys2Proof.Machine
end

section
/-! SUPPORT. Orders are permutations, a trigger that waits starts a capture, and a latch shows its TRIP
event. -/

namespace Sys2Proof.Machine

/-! ### Orders -/

theorem inOrder_go_perm {α : Type} (n k : Nat) (l : List α) (h : l.length = n) :
    (inOrder.go n k l).Perm l := by
  induction n generalizing k l with
  | zero =>
    rw [List.length_eq_zero_iff.mp h]
    exact List.Perm.nil
  | succ n ih =>
    have hlt : k % l.length < l.length := Nat.mod_lt _ (by omega)
    have hlen : (l.eraseIdx (k % l.length)).length = n := by
      rw [List.length_eraseIdx_of_lt hlt, h]
      rfl
    simp only [inOrder.go, List.getElem?_eq_getElem hlt]
    exact ((ih _ _ hlen).cons _).trans (List.getElem_cons_eraseIdx_perm hlt)

/-- Each way of putting a list in order is a permutation of it. -/
theorem inOrder_perm {α : Type} (k : Nat) (l : List α) : (inOrder k l).Perm l :=
  inOrder_go_perm l.length k l rfl

theorem bridgeOrder_nodup (k : Nat) : (bridgeOrder k).Nodup :=
  (inOrder_perm k _).nodup_iff.mpr Index.all_nodup

theorem mem_bridgeOrder (k : Nat) (b : Index) : b ∈ bridgeOrder k :=
  (inOrder_perm k _).mem_iff.mpr (Index.mem_all b)

/-! ### Triggers that wait -/

theorem nextTriggers_cons (x : Trigger) (rest : List Trigger) :
    nextTriggers (x :: rest) ≠ [] := by
  unfold nextTriggers upToTrip
  split <;> exact List.cons_ne_nil _ _

theorem triggerOrder_cons (n k : Nat) (x : Trigger) (rest : List Trigger) :
    ∃ y l, triggerOrder (n + 1) k (x :: rest) = y :: l := by
  have hpos : 0 < (nextTriggers (x :: rest)).length :=
    List.length_pos_of_ne_nil (nextTriggers_cons x rest)
  simp only [triggerOrder, List.getElem?_eq_getElem (Nat.mod_lt k hpos)]
  exact ⟨_, _, rfl⟩

theorem takeTrigger_capturing (s : State) (x : Trigger) (h : s.recorder.state ≠ .frozen) :
    (s.takeTrigger x).recorder.state = .capturing := by
  unfold State.takeTrigger
  split
  · rfl
  · rename_i ha
    cases hs : s.recorder.state
    · exact absurd hs (by exact ha)
    · exact hs
    · exact absurd hs h

theorem takeTriggers_fold_capturing (l : List Trigger) (s : State) (h : s.recorder.state = .capturing) :
    (l.foldl State.takeTrigger s).recorder.state = .capturing := by
  induction l generalizing s with
  | nil => exact h
  | cons x rest ih => exact ih _ (takeTrigger_capturing s x (by rw [h]; exact RecorderState.noConfusion))

/-- A trigger that waits starts a capture of an armed recorder (R166). -/
theorem takeTriggers_of_waiting (s : State) (k : Nat) (ha : s.recorder.state = .armed)
    (h : s.triggers ≠ []) : (s.takeTriggers k).recorder.state = .capturing := by
  obtain ⟨x, rest, hl⟩ := List.exists_cons_of_ne_nil h
  obtain ⟨y, l, hy⟩ := triggerOrder_cons rest.length k x rest
  unfold State.takeTriggers
  rw [hl, List.length_cons, hy, List.foldl_cons]
  exact takeTriggers_fold_capturing l _ (takeTrigger_capturing _ y (by
    change s.recorder.state ≠ .frozen
    rw [ha]
    exact RecorderState.noConfusion))

theorem settle_capturing (s : State) (o : Schedule) (ha : s.recorder.state = .armed)
    (h : s.triggers ≠ []) : (s.settle o).recorder.state = .capturing :=
  takeTriggers_of_waiting s o.triggers ha h

/-! ### The latch -/

theorem tripEvent_flagged (s : State) (l : Link) : s.tripEvent.flagged l 5 := raise_flagged _ _ l

theorem tripEvent_triggers (s : State) (h : hasBit s.settings.recTriggers 1 = true) :
    s.tripEvent.triggers ≠ [] := by
  unfold State.tripEvent
  rw [trigger_of_enabled s .trip h]
  simp

theorem latchTrip_flagged (s : State) (cause : TripCause) (l : Link) :
    (s.latchTrip cause).flagged l 5 := by
  obtain ⟨t, hb, hc⟩ := latchTrip_parts s cause
  exact hc.flags l 5 (hb.flags l 5 (tripEvent_flagged _ l))

theorem lockoutBridge_triggers (s : State) (b : Index) : (s.lockoutBridge b).triggers = s.triggers := by
  unfold State.lockoutBridge
  dsimp only
  split <;> rfl

theorem latchTrip_triggers (s : State) (cause : TripCause) :
    (s.latchTrip cause).triggers = (s.latched cause).triggers := by
  rw [latchTrip_eq, (onChannels_forAll _ _ _ (fun c t => onChannel_tripFlush t c)).triggers]
  exact forAll_keeps State.triggers _ _ _ fun b t => lockoutBridge_triggers t b

theorem latchTrip_monitor (s : State) (cause : TripCause) :
    (s.latchTrip cause).monitor = s.monitor := by
  obtain ⟨t, hb, hc⟩ := latchTrip_parts s cause
  rw [hc.monitor, hb.monitor, latched_monitor]

theorem latchTrip_recorder (s : State) (cause : TripCause) :
    (s.latchTrip cause).recorder = s.recorder := by
  obtain ⟨t, hb, hc⟩ := latchTrip_parts s cause
  rw [hc.recorder, hb.recorder]
  unfold State.latched State.tripEvent State.trigger
  split <;> rfl

/-- What a trip shows rests on the trip unit, the bridges and the channels. -/
theorem showsTrip_of_eq {s t : State} {cause : TripCause} (h : s.showsTrip cause)
    (htrip : t.trip = s.trip) (hbridges : t.bridges = s.bridges) (hchannels : t.channels = s.channels) :
    t.showsTrip cause := by
  unfold State.showsTrip State.bridgeState at h ⊢
  rw [htrip, hbridges, hchannels]
  exact h

end Sys2Proof.Machine
end

section
/-! PROOF. The events on the breaker and trip inputs (R93, R149 to R151), and the first thyristor (R82). -/

namespace Sys2Proof.Machine

/-! ### EXTERNAL (R149) -/

/-- Settles O33: the line's own level first, then the latch, then the set. -/
theorem externalInputTrips : Obligations.ExternalInputTrips := by
  intro wait o s hrun
  let u := s.runFor wait
  let v := u.mapTrip (fun x => { x with externalHigh := true })
  refine ⟨fun hlow hlatch => ?latches, fun hlow hlatch hset => ?joins, fun hlow hlatch hset hsettled => ?held,
    fun hhigh hsettled => ?high⟩
  case latches =>
    have heff : u.externalHigh = v.latchTrip .external := by
      unfold State.externalHigh
      rw [if_neg (by rw [State.runFor_trip, hlow]; exact Bool.false_ne_true)]
      exact raiseCause_of_unlatched v .external hlatch
    have hcalm : Calm v (v.latchTrip .external) := calm_latchTrip v .external
    rw [exec_external, take_of_running s o _ hrun, heff]
    refine ⟨_, rfl, showsTrip_of_eq (latchTrip_showsTrip v .external) (settle_trip _ o)
      (settle_bridges _ o) (settle_channels _ o), ?_, ?_, ?_,
      fun l => flagsKept_settle _ o l 5 (latchTrip_flagged v .external l), fun ha hb => ?_, ?_, ?_, ?_,
      frameKept_settle (s := v) hcalm.toSteady o⟩
    · rw [settle_trip, latchTrip_trip]
      rfl
    · rw [settle_elapsed]
      exact hcalm.elapsed
    · rw [settle_trip, latchTrip_trip]
      unfold State.counter
      rw [settle_elapsed, hcalm.elapsed]
    · refine settle_capturing _ o (by rw [latchTrip_recorder]; exact ha) ?_
      rw [latchTrip_triggers]
      exact tripEvent_triggers _ hb
    · rw [settle_scanner]
      exact hcalm.scanner
    · rw [settle_sync]
      exact hcalm.sync
    · rw [settle_monitor, latchTrip_monitor]
      rfl
  case joins =>
    let w := v.mapTrip (fun x => { x with causes := addBit x.causes TripCause.external.bit })
    have heff : u.externalHigh = w.tripEvent := by
      unfold State.externalHigh
      rw [if_neg (by rw [State.runFor_trip, hlow]; exact Bool.false_ne_true)]
      exact raiseCause_of_joining v .external hlatch hset
    have hon : OnRecorder w w.tripEvent := onRecorder_tripEvent w
    rw [exec_external, take_of_running s o _ hrun, heff]
    refine ⟨_, rfl, ?_, fun l => flagsKept_settle _ o l 5 (tripEvent_flagged w l), ?_, ?_, ?_, ?_, ?_, ?_,
      ?_, frameKept_settle (s := w) hon.toSteady o⟩
    · rw [settle_trip, hon.trip]
      rfl
    · rw [settle_elapsed]
      exact hon.elapsed
    · rw [settle_bridges]
      exact hon.bridges
    · rw [settle_channels]
      exact hon.channels
    · rw [settle_regulators]
      exact hon.regulators
    · rw [settle_scanner]
      exact hon.scanner
    · rw [settle_sync]
      exact hon.sync
    · rw [settle_monitor]
      exact hon.monitor
  case held =>
    have heff : u.externalHigh = v := by
      unfold State.externalHigh
      rw [if_neg (by rw [State.runFor_trip, hlow]; exact Bool.false_ne_true)]
      exact raiseCause_of_held v .external hlatch hset
    rw [exec_external]
    exact take_eq_of_quiet hrun heff (by exact hsettled)
  case high =>
    have heff : u.externalHigh = u := by
      unfold State.externalHigh
      rw [if_pos (by rw [State.runFor_trip, hhigh])]
    rw [exec_external]
    exact take_eq_of_quiet hrun heff (by exact hsettled)

/-! ### BREAKER_OPEN (R93) -/

theorem breakerOpens_bridge (s : State) (b : Index) :
    (s.breakerOpens b).bridges.get b =
      if s.bridgeState b = .blocked ∨ s.bridgeState b = .lockout then s.bridges.get b
      else { s.bridges.get b with state := .blocked, blockCause := some .breaker, next := none } := by
  unfold State.breakerOpens
  cases s.bridgeState b <;> simp [blockBridge_bridge]

theorem breakerOpens_flagged (s : State) (b : Index) (h : s.bridgeState b ≠ .blocked)
    (h' : s.bridgeState b ≠ .lockout) (l : Link) : (s.breakerOpens b).flagged l 1 := by
  unfold State.breakerOpens
  cases hs : s.bridgeState b
  case blocked => exact absurd hs h
  case lockout => exact absurd hs h'
  all_goals exact raise_flagged _ _ l

theorem breakerOpens_keeps (s : State) (b : Index) :
    (s.breakerOpens b).regulators = s.regulators ∧ (s.breakerOpens b).triggers = s.triggers := by
  unfold State.breakerOpens
  split <;> exact ⟨rfl, rfl⟩

/-- Settles O22: each bridge is taken in its own state. -/
theorem breakerOpeningBlocks : Obligations.BreakerOpeningBlocks := by
  intro wait o s ⟨hrun, hset⟩
  let u : State := { s.runFor wait with breakerClosed := false }
  let f : Index → State → State := fun b t => t.breakerOpens b
  have hf : ∀ b t, OnBridge b t (f b t) := fun b t => onBridge_breakerOpens t b
  have hall : OnBridges u (u.forAll Index.all f) := onBridges_forAll u _ f hf
  have hregs : (u.forAll Index.all f).regulators = s.regulators :=
    forAll_keeps State.regulators u _ f fun b t => (breakerOpens_keeps t b).1
  have htrig : (u.forAll Index.all f).triggers = [] :=
    (forAll_keeps State.triggers u _ f fun b t => (breakerOpens_keeps t b).2).trans hset.2
  have hat : ∀ b, ∃ v, BesideBridge b u v ∧ BesideBridge b (v.breakerOpens b) (u.forAll Index.all f) :=
    fun b => forAll_at_bridge u _ f b Index.all_nodup (Index.mem_all b) hf
  rw [exec_breakerOpen, take_of_running s o _ hrun]
  refine ⟨_, rfl, ?_, ?_, fun b hb => ?same, fun b hb hl => ?blocked, ?_, ?_, ?_, ?_, ?_, ?_, ?_, ?frame⟩
  case same =>
    obtain ⟨v, hv, hw⟩ := hat b
    have hb' : v.bridgeState b = s.bridgeState b := congrArg Bridge.state hv.bridge
    rw [settle_bridges]
    refine hw.bridge.trans ?_
    rw [breakerOpens_bridge, hb', if_pos hb]
    exact hv.bridge
  case blocked =>
    obtain ⟨v, hv, hw⟩ := hat b
    have hb' : v.bridgeState b = s.bridgeState b := congrArg Bridge.state hv.bridge
    refine ⟨?_, fun l => flagsKept_settle _ o l 1 (hw.flags l 1 (breakerOpens_flagged v b ?_ ?_ l))⟩
    · rw [settle_bridges]
      refine hw.bridge.trans ?_
      rw [breakerOpens_bridge, hb', if_neg (fun h => h.elim hb hl), hv.bridge]
      rfl
    · rw [hb']; exact hb
    · rw [hb']; exact hl
  case frame =>
    obtain ⟨⟨h1, h2, -, h4, h5, h6, h7, h8, h9⟩, h10, h11, h12⟩ := frameKept_settle hall.toSteady o
    exact ⟨⟨h1, h2, rfl, h4, h5, h6, h7, h8, h9⟩, h10, h11, h12⟩
  · rw [settle_elapsed]
    exact hall.elapsed
  · rw [settle_breakerClosed]
    exact hall.breakerClosed
  · rw [settle_scanner]
    exact hall.scanner
  · rw [settle_sync]
    exact hall.sync
  · rw [settle_monitor]
    exact hall.monitor
  · rw [settle_regulators]
    exact hregs
  · rw [settle_channels]
    exact hall.channels
  · rw [settle_trip]
    exact hall.trip
  · rw [settle_recorder_of_no_trigger _ _ htrig]
    exact hall.recorder

/-! ### The first thyristor (R82) -/

/-- The nearer of two, and no nearer one is given up. -/
theorem nearer_le (θ : Nat) (x y : Scheduled) :
    distanceAhead θ (nearer θ x y).due ≤ distanceAhead θ x.due ∧
      distanceAhead θ (nearer θ x y).due ≤ distanceAhead θ y.due := by
  unfold nearer
  split <;> omega

/-- The one that a search over a list comes to is of the list, and none of the list is nearer. -/
theorem foldl_nearer (θ : Nat) (l : List Scheduled) (x : Scheduled) :
    l.foldl (nearer θ) x ∈ x :: l ∧
      ∀ y ∈ x :: l, distanceAhead θ (l.foldl (nearer θ) x).due ≤ distanceAhead θ y.due := by
  induction l generalizing x with
  | nil => simp
  | cons z rest ih =>
    obtain ⟨hmem, hle⟩ := ih (nearer θ x z)
    obtain ⟨hx, hz⟩ := nearer_le θ x z
    have hn : nearer θ x z = z ∨ nearer θ x z = x := by
      unfold nearer
      split <;> simp
    rw [List.foldl_cons]
    refine ⟨?_, fun y hy => ?_⟩
    · obtain h | h := List.mem_cons.mp hmem
      · rw [h]
        obtain h | h := hn <;> simp [h]
      · simp [h]
    · have hfirst := hle (nearer θ x z) List.mem_cons_self
      obtain rfl | hy := List.mem_cons.mp hy
      · exact hfirst.trans hx
      · obtain rfl | hy := List.mem_cons.mp hy
        · exact hfirst.trans hz
        · exact hle y (List.mem_cons_of_mem _ hy)

/-- Settles O20: the six candidates are searched for the nearest. -/
theorem firstThyristorIsNearest : Obligations.FirstThyristorIsNearest := by
  intro s b θ x
  let at' := fun n => s.scheduleAt b n s.settings.alphaStart
  obtain ⟨hmem, hle⟩ := foldl_nearer θ [at' 2, at' 3, at' 4, at' 5, at' 6] (at' 1)
  have hx : ∃ n, (1 ≤ n ∧ n ≤ 6) ∧ x = at' n := by
    simp only [List.mem_cons, List.not_mem_nil, or_false] at hmem
    obtain h | h | h | h | h | h := hmem
    exacts [⟨1, by omega, h⟩, ⟨2, by omega, h⟩, ⟨3, by omega, h⟩, ⟨4, by omega, h⟩, ⟨5, by omega, h⟩,
      ⟨6, by omega, h⟩]
  obtain ⟨n, hn, hxn⟩ := hx
  refine ⟨by rw [hxn]; exact hn, by rw [hxn]; rfl, by rw [hxn]; rfl, fun m h1 h6 => ?_⟩
  refine hle (at' m) ?_
  have hm : m = 1 ∨ m = 2 ∨ m = 3 ∨ m = 4 ∨ m = 5 ∨ m = 6 := by omega
  obtain rfl | rfl | rfl | rfl | rfl | rfl := hm <;> simp

end Sys2Proof.Machine
end

section
/-! PROOF. The firing of a bridge (R76 to R78, R83, R84, R86, R104 to R113). -/

namespace Sys2Proof.Machine

theorem Four.set_set {α : Type} (q : Four α) (i : Index) (x y : α) : (q.set i x).set i y = q.set i y := by
  match i with
  | 0 | 1 | 2 | 3 => rfl

/-! ### What the regulator reads -/

/-- The regulator reads its own record, the settings, the scan, its channel, the monitor and its bridge's
state. -/
theorem regulate_congr {s t : State} {b : Index} (hreg : t.regulators.get b = s.regulators.get b)
    (hset : t.settings = s.settings) (hscan : t.scanner = s.scanner)
    (hchan : t.channels.get b = s.channels.get b) (hmon : t.monitor = s.monitor)
    (hstate : t.bridgeState b = s.bridgeState b) : t.regulate b = s.regulate b := by
  simp only [State.regulate, State.effectiveReference, State.integrate, State.limitIntegral,
    State.integralLimit, State.feedForward, State.angleFor, hreg, hset, hscan, hchan, hmon, hstate]

/-- The bridge after the firing of `n`, with the next thyristor scheduled at `alpha` (R77, R78). -/
def State.firedBridge (s : State) (b : Index) (n : Scheduled) (alpha : Nat) : Bridge :=
  { s.bridges.get b with
    pulse := some (s.newPulse n.thyristor)
    lastFired := some ⟨n.thyristor, n.alpha⟩
    next := some (s.scheduleAt b (successor n.thyristor) alpha) }

/-! ### Firings by the bridge's state -/

/-- A RUNNING bridge fires, regulates and schedules its next thyristor. -/
theorem fire_of_running (s : State) (b : Index) (n : Scheduled) (h : s.bridgeState b = .running) :
    s.fire b n =
      let r := s.regulate b
      let req := r.alphaReq.getD s.settings.alphaMax
      let alpha := s.slew req n.alpha
      { s with
        bridges := s.bridges.set b (s.firedBridge b n alpha)
        regulators := s.regulators.set b { r with lastLimited := alpha != req } } := by
  have hw : (s.startPulse b n).bridgeState b = .running := by
    unfold State.startPulse
    simpa [State.bridgeState] using h
  have hfirst : (s.startPulse b n).firstFiring b = s.startPulse b n := by
    unfold State.firstFiring
    rw [if_neg (by rw [hw]; exact BridgeState.noConfusion)]
  have hreg : (s.startPulse b n).regulate b = s.regulate b :=
    regulate_congr rfl rfl rfl rfl rfl (hw.trans h.symm)
  unfold State.fire
  rw [hfirst]
  unfold State.scheduleNext
  rw [hw, hreg]
  simp only [State.startPulse, State.mapBridge, State.mapRegulator, Four.get_set_self, Four.set_set]
  rfl

/-- A DEBLOCKING bridge becomes RUNNING at its first firing, and then regulates as one (R78, step 1). -/
theorem fire_of_deblocking (s : State) (b : Index) (n : Scheduled) (h : s.bridgeState b = .deblocking) :
    s.fire b n =
      let started : Bridge := { s.bridges.get b with state := .running }
      let u : State := { s with bridges := s.bridges.set b started }
      let r := u.regulate b
      let req := r.alphaReq.getD s.settings.alphaMax
      let alpha := s.slew req n.alpha
      ({ s with
        bridges := s.bridges.set b { s.firedBridge b n alpha with state := .running }
        regulators := s.regulators.set b { r with lastLimited := alpha != req } } : State).raise
        (.bridge b .running .none) := by
  have hw : (s.startPulse b n).bridgeState b = .deblocking := by
    unfold State.startPulse
    simpa [State.bridgeState] using h
  let v := ((s.startPulse b n).mapBridge b (fun r => { r with state := .running })).raise
    (.bridge b .running .none)
  have hfirst : (s.startPulse b n).firstFiring b = v := by
    unfold State.firstFiring
    rw [if_pos hw]
  have hv : v.bridgeState b = .running := by
    simp [v, State.bridgeState]
  let u : State := { s with bridges := s.bridges.set b { s.bridges.get b with state := .running } }
  have hreg : v.regulate b = u.regulate b :=
    regulate_congr rfl rfl rfl rfl rfl (by rw [hv]; simp [u, State.bridgeState])
  unfold State.fire
  rw [hfirst]
  unfold State.scheduleNext
  rw [hv, hreg]
  simp only [v, State.startPulse, State.mapBridge, State.mapRegulator, State.raise, Four.get_set_self,
    Four.set_set]
  rfl

/-- A RETARDING bridge fires toward ALPHA_MAX with its integral kept, and stops once it is there with a mean
current below I_ZERO (R86, R113). -/
theorem fire_of_retarding (s : State) (b : Index) (n : Scheduled) (h : s.bridgeState b = .retarding) :
    s.fire b n =
      let r := s.regulateRetard b
      let alpha := s.slew s.settings.alphaMax n.alpha
      let v : State := { s with
        bridges := s.bridges.set b (s.firedBridge b n alpha)
        regulators := s.regulators.set b { r with lastLimited := alpha != s.settings.alphaMax } }
      if alpha = s.settings.alphaMax ∧ r.mean.getD 0 < (s.settings.iZero : Int) then
        v.blockBridge b .stopDone
      else v := by
  have hw : (s.startPulse b n).bridgeState b = .retarding := by
    unfold State.startPulse
    simpa [State.bridgeState] using h
  have hfirst : (s.startPulse b n).firstFiring b = s.startPulse b n := by
    unfold State.firstFiring
    rw [if_neg (by rw [hw]; exact BridgeState.noConfusion)]
  have hreg : (s.startPulse b n).regulateRetard b = s.regulateRetard b := rfl
  unfold State.fire
  rw [hfirst]
  unfold State.scheduleNext
  rw [hw, hreg]
  simp only [State.startPulse, State.mapBridge, State.mapRegulator, Four.get_set_self, Four.set_set,
    beq_self_eq_true, Bool.true_and, if_true, Bool.and_eq_true, beq_iff_eq, decide_eq_true_eq]
  rfl

/-! ### The tick of a firing -/

/-- A bridge with a schedule fires at its due angle. -/
theorem fireNext_of_next (s : State) (b : Index) (n : Scheduled)
    (h : s.bridgeState b = .deblocking ∨ s.bridgeState b = .running ∨ s.bridgeState b = .retarding)
    (hn : (s.bridges.get b).next = some n) :
    s.fireNext b = (s.runToAngle n.due).dueReached b := by
  have hdue : s.awaitsDue b = some n := by
    unfold State.awaitsDue
    obtain h | h | h := h
    all_goals rw [h, hn]
  unfold State.fireNext
  rw [hdue]

/-- The least of the terms in force, with an absent cap no limit (R135). -/
theorem effectiveOf_eq (course iMax foldCap : Nat) (cap : Option RideCap) :
    effectiveOf course iMax foldCap cap =
      min (min (min course (iMax * 1000)) foldCap)
        (match cap with | none => foldCap | some x => x.value) := by
  cases cap with
  | none =>
    dsimp only [effectiveOf]
    omega
  | some x => rfl

/-- Settles O18: the firing of a RUNNING bridge, with each of the regulator's terms spelled out. -/
theorem firingRunsTheRegulator : Obligations.FiringRunsTheRegulator := by
  intro b o s n ⟨hrun, hset⟩ hstate hnext
  obtain ⟨d, hd⟩ := runToAngle_eq s n.due
  rw [hd]
  intro u r st mean k reference err limit x feed demand ideal ratio req slewed alpha n'
  have hreference : s.effectiveReference b = reference :=
    (if_pos hstate).trans (effectiveOf_eq _ _ _ _)
  have hregulate : u.regulate b =
      { r with integral := x, sum := 0, count := 0, mean := some mean, alphaReq := some req } := by
    have hu : u.regulate b = s.regulate b := rfl
    rw [hu]
    unfold State.regulate
    rw [hreference]
    rfl
  have hfire : s.fireNext b =
      { u with
        bridges := s.bridges.set b (u.firedBridge b n alpha)
        regulators := s.regulators.set b
          { r with
            integral := x, sum := 0, count := 0, mean := some mean, alphaReq := some req,
            lastLimited := alpha != req } } := by
    have hdue : u.dueReached b = u.fire b n := by
      unfold State.dueReached
      rw [show (u.bridges.get b).next = some n from hnext, show u.bridgeState b = .running from hstate]
    rw [fireNext_of_next s b n (.inr (.inl hstate)) hnext, hd, hdue, fire_of_running u b n hstate,
      hregulate]
    rfl
  rw [exec_firing]
  exact take_eq_of_quiet hrun hfire (by exact hset)

/-- Settles O19: the firings of the two other states that wait for a due angle. -/
theorem firingOutsideRunning : Obligations.FiringOutsideRunning := by
  intro b o s n ⟨hrun, hset⟩ hnext
  obtain ⟨d, hd⟩ := runToAngle_eq s n.due
  rw [hd]
  intro u
  have hset' : u.settled := hset
  have htake : ∀ w : State, s.fireNext b = w → exec (.firing b o) s = .next (w.settle o) := fun w hw => by
    rw [exec_firing, take_of_running s o _ hrun, hw]
  have hfires : s.bridgeState b = .deblocking ∨ s.bridgeState b = .running ∨ s.bridgeState b = .retarding →
      s.fireNext b = u.dueReached b := fun h => by
    rw [fireNext_of_next s b n h hnext, hd]
  refine ⟨fun hstate hhold => ?starts, fun hstate hhold => ?abandons, fun hstate => ?retards⟩
  case starts =>
    intro started r req alpha n'
    have hdue : u.dueReached b = u.fire b n := by
      unfold State.dueReached
      rw [show (u.bridges.get b).next = some n from hnext, show u.bridgeState b = .deblocking from hstate]
      dsimp only
      rw [show u.monitor.holdRequest = false from hhold, if_neg Bool.false_ne_true]
    rw [htake _ ((hfires (.inl hstate)).trans (hdue.trans (fire_of_deblocking u b n hstate)))]
    exact congrArg Host.Outcome.next (settle_raise _ _ o (by exact hset'))
  case abandons =>
    have hdue : u.dueReached b = u.blockBridge b .abandoned := by
      unfold State.dueReached
      rw [show (u.bridges.get b).next = some n from hnext, show u.bridgeState b = .deblocking from hstate]
      dsimp only
      rw [show u.monitor.holdRequest = true from hhold, if_pos rfl]
    rw [htake _ ((hfires (.inl hstate)).trans hdue), State.blockBridge]
    exact congrArg Host.Outcome.next (settle_raise _ _ o (by exact hset'))
  case retards =>
    intro r mean st alpha n' fired v
    have hdue : u.dueReached b = u.fire b n := by
      unfold State.dueReached
      rw [show (u.bridges.get b).next = some n from hnext, show u.bridgeState b = .retarding from hstate]
    have hfire : u.fire b n =
        if alpha = st.alphaMax ∧ mean < (st.iZero : Int) then v.blockBridge b .stopDone else v :=
      fire_of_retarding u b n hstate
    rw [htake _ ((hfires (.inr (.inr hstate))).trans (hdue.trans hfire))]
    split_ifs with hstop
    · rw [State.blockBridge, settle_raise _ _ o (by exact hset')]
      simp only [State.mapBridge, v, Four.get_set_self, Four.set_set]
    · rw [settle_of_settled _ o (by exact hset')]

end Sys2Proof.Machine
end

section
/-! PROOF. Running to an angle (R20). -/

namespace Sys2Proof.Machine

/-- The phase has not yet run `angle` at `x` ticks just where `x` is less than the ticks it takes. -/
theorem phaseRun_lt_iff (period angle x : Nat) (hp : 0 < period) (ha : 0 < angle) :
    phaseRun period x < angle ↔ x < ticksToRun period angle := by
  have hprod : period * 1 ≤ period * angle := Nat.mul_le_mul_left _ ha
  have hcomm : angle * (2 * period) = 2 * (period * angle) := by ring
  unfold phaseRun roundNat ticksToRun fullTurn
  rw [Nat.div_lt_iff_lt_mul (by omega), hcomm, Nat.mul_assoc 2 period angle]
  omega

/-- In one tick the phase runs by no more than 1, as the period is more than 36,000 ticks. -/
theorem phaseRun_succ_le (period x : Nat) (hp : 36000 ≤ period) :
    phaseRun period (x + 1) ≤ phaseRun period x + 1 := by
  unfold phaseRun roundNat fullTurn
  have h : 2 * ((x + 1) * 36000) + period ≤ 2 * (x * 36000) + period + 2 * period := by omega
  calc (2 * ((x + 1) * 36000) + period) / (2 * period)
      ≤ (2 * (x * 36000) + period + 2 * period) / (2 * period) := Nat.div_le_div_right h
    _ = (2 * (x * 36000) + period) / (2 * period) + 1 := Nat.add_div_right _ (by omega)

theorem phaseRun_mono (period x y : Nat) (h : x ≤ y) : phaseRun period x ≤ phaseRun period y := by
  unfold phaseRun roundNat
  exact Nat.div_le_div_right (by have := Nat.mul_le_mul_right fullTurn h; omega)

/-- At the least number of ticks in which the phase runs `angle`, it has run just that. -/
theorem phaseRun_ticksToRun (period angle : Nat) (hp : 36000 ≤ period) (ha : 0 < angle) :
    phaseRun period (ticksToRun period angle) = angle := by
  have hpos : 0 < period := by omega
  have hge : angle ≤ phaseRun period (ticksToRun period angle) := by
    have := phaseRun_lt_iff period angle (ticksToRun period angle) hpos ha
    omega
  have htick : 0 < ticksToRun period angle := by
    have h0 : phaseRun period 0 = 0 := by
      unfold phaseRun roundNat fullTurn
      rw [Nat.zero_mul, Nat.mul_zero, Nat.zero_add]
      exact Nat.div_eq_of_lt (by omega)
    have := phaseRun_lt_iff period angle 0 hpos ha
    omega
  obtain ⟨y, hy⟩ := Nat.exists_eq_succ_of_ne_zero htick.ne'
  have hlt : phaseRun period y < angle := (phaseRun_lt_iff period angle y hpos ha).mpr (by omega)
  have hstep := phaseRun_succ_le period y hp
  rw [hy] at hge ⊢
  simp only [Nat.succ_eq_add_one] at hge ⊢
  omega

/-- To run less than a turn further takes no more than a period. -/
theorem ticksToRun_le (period x ahead : Nat) (hp : 36000 ≤ period) (ha : ahead < 36000) :
    ticksToRun period (phaseRun period x + ahead) ≤ x + period := by
  have hrun : phaseRun period (x + period) = phaseRun period x + 36000 := by
    unfold phaseRun roundNat fullTurn
    have h : 2 * ((x + period) * 36000) + period = 2 * (x * 36000) + period + 36000 * (2 * period) := by
      ring
    rw [h, Nat.add_mul_div_right _ _ (by omega)]
  by_contra hgt
  by_cases hz : phaseRun period x + ahead = 0
  · have : ticksToRun period 0 ≤ 1 := by
      unfold ticksToRun
      omega
    rw [hz] at hgt
    omega
  · have := (phaseRun_lt_iff period _ (x + period) (by omega) (Nat.pos_of_ne_zero hz)).mpr (by omega)
    omega

/-- A phase that is present is the anchor's angle and what has run since. -/
theorem phase_of_some {s : State} {θ : Nat} (h : s.phase = some θ) :
    θ = (s.sync.anchorAngle + phaseRun s.sync.period s.sinceAnchor) % 36000 ∧
      ∀ d, s.sinceAnchor + d < 4294967296 →
        (s.runFor d).phase =
          some ((s.sync.anchorAngle + phaseRun s.sync.period (s.sinceAnchor + d)) % 36000) := by
  unfold State.phase Sync.phaseAt at h ⊢
  split at h
  case isTrue => exact absurd h (by simp)
  case isFalse hpresent =>
    refine ⟨(Option.some.inj h).symm, fun d hd => ?_⟩
    have hsince : ((s.runFor d).counter - s.sync.anchorTick).toNat = s.sinceAnchor + d := by
      unfold State.sinceAnchor State.since at hd ⊢
      rw [counter_runFor]
      have hd' : d < 4294967296 := by omega
      bv_omega
    rw [State.runFor_sync, if_neg hpresent, hsince]
    rfl

/-- Settles O16: the phase runs by at most 1 a tick, so it comes to the angle at the first tick at which it
has run the arc, and no earlier tick of the arc has it. -/
theorem runToAngleIsFirst : Obligations.RunToAngleIsFirst := by
  intro s θ angle ⟨hlow, hhigh⟩ hphase hangle hwrap
  obtain ⟨hθ, hruns⟩ := phase_of_some hphase
  have hp : 36000 ≤ s.sync.period := le_trans (by decide) hlow
  generalize hx : s.sinceAnchor = x at *
  generalize hperiod : s.sync.period = period at *
  have harc : forwardArc θ angle = (angle + 36000 - θ) % 36000 := by
    unfold forwardArc wrapAngle fullTurn
    omega
  by_cases hzero : forwardArc θ angle = 0
  · have hsame : s.runToAngle angle = s := by
      unfold State.runToAngle
      rw [hphase]
      exact if_pos hzero
    rw [hsame]
    refine ⟨hphase.trans (congrArg some (by omega)), fun d hd => absurd hd (by omega)⟩
  · let ahead := forwardArc θ angle
    let last := ticksToRun period (phaseRun period x + ahead)
    have hahead : ahead < 36000 := by
      change forwardArc θ angle < 36000
      rw [harc]
      exact Nat.mod_lt _ (by decide)
    have hrun : s.runToAngle angle = s.runFor (last - x) := by
      unfold State.runToAngle
      rw [hphase]
      dsimp only
      rw [hx, hperiod]
      exact if_neg hzero
    have hpos : 0 < phaseRun period x + ahead := by
      have : 0 < ahead := Nat.pos_of_ne_zero hzero
      omega
    have hlt : x < last := (phaseRun_lt_iff period _ x (by omega) hpos).mp (by omega)
    have hlast : last ≤ x + period := ticksToRun_le period x ahead hp hahead
    have hreach : phaseRun period last = phaseRun period x + ahead :=
      phaseRun_ticksToRun period _ hp hpos
    refine ⟨?reached, fun d hd => ?before⟩
    case reached =>
      rw [hrun, hruns (last - x) (by omega), show x + (last - x) = last by omega, hreach]
      refine congrArg some ?_
      change (_ + (_ + forwardArc θ angle)) % 36000 = angle
      rw [harc]
      omega
    case before =>
      rw [hrun, State.runFor_elapsed] at hd
      have hd' : x + d < last := by omega
      rw [hruns d (by omega)]
      have hmono := phaseRun_mono period x (x + d) (by omega)
      have hbelow : phaseRun period (x + d) < phaseRun period x + ahead :=
        (phaseRun_lt_iff period _ (x + d) (by omega) hpos).mpr hd'
      have hahead' : ahead = (angle + 36000 - θ) % 36000 := harc
      intro heq
      have heq' := Option.some.inj heq
      omega

end Sys2Proof.Machine
end

section
/-! SUPPORT. What the bridges make of an event that each takes on its own: an action on bridge `b` that
reads no other bridge does to `b`, among actions on all four, what it does alone. -/

namespace Sys2Proof.Machine

/-! ### The state a command answers -/

/-- The state in which what a command raised has been taken, field by field. -/
structure Taken (w t : State) : Prop where
  elapsed : t.elapsed = w.elapsed
  scanner : t.scanner = w.scanner
  settings : t.settings = w.settings
  sync : t.sync = w.sync
  monitor : t.monitor = w.monitor
  bridges : t.bridges = w.bridges
  regulators : t.regulators = w.regulators
  channels : t.channels = w.channels
  trip : t.trip = w.trip
  recorder : w.triggers = [] → t.recorder = w.recorder
  flags : FlagsKept w t

theorem taken_settle (w : State) (o : Schedule) : Taken w (w.settle o) :=
  ⟨settle_elapsed w o, settle_scanner w o, settle_settings w o, settle_sync w o, settle_monitor w o,
    settle_bridges w o, settle_regulators w o, settle_channels w o, settle_trip w o,
    settle_recorder_of_no_trigger w o, flagsKept_settle w o⟩

theorem Taken.counter {w t : State} (h : Taken w t) : t.counter = w.counter := by
  unfold State.counter
  rw [h.elapsed]

theorem Taken.phase {w t : State} (h : Taken w t) : t.phase = w.phase := by
  unfold State.phase
  rw [h.sync, h.counter]

theorem Taken.bridge {w t : State} (h : Taken w t) (b : Index) : t.bridges.get b = w.bridges.get b := by
  rw [h.bridges]

theorem Taken.regulator {w t : State} (h : Taken w t) (b : Index) :
    t.regulators.get b = w.regulators.get b := by
  rw [h.regulators]

/-! ### Actions that read one bridge -/

theorem forAll_cons (s : State) (b : Index) (rest : List Index) (f : Index → State → State) :
    s.forAll (b :: rest) f = (f b s).forAll rest f := rfl

theorem BesideBridge.state {b : Index} {s v : State} (h : BesideBridge b s v) :
    v.bridgeState b = s.bridgeState b := congrArg Bridge.state h.bridge

/-- What `f` makes of a bridge rests on that bridge, its regulator and the parts that no firing unit's
action changes. -/
def Local (f : Index → State → State) : Prop :=
  ∀ b s v, BesideBridge b s v →
    (f b v).bridges.get b = (f b s).bridges.get b ∧ (f b v).regulators.get b = (f b s).regulators.get b

/-- Taken for every bridge, it makes of each what it makes of it alone. -/
theorem forAll_local {f : Index → State → State} (hl : Local f) (hf : ∀ b t, OnBridge b t (f b t))
    (s : State) (order : List Index) (b : Index) (hnd : order.Nodup) (hb : b ∈ order) :
    (s.forAll order f).bridges.get b = (f b s).bridges.get b ∧
      (s.forAll order f).regulators.get b = (f b s).regulators.get b := by
  obtain ⟨v, hv, hw⟩ := forAll_at_bridge s order f b hnd hb hf
  obtain ⟨hbridge, hreg⟩ := hl b s v hv
  exact ⟨hw.bridge.trans hbridge, hw.regulator.trans hreg⟩

/-! ### Blocks, holds and resumptions -/

theorem blockBridge_local {b : Index} {s v : State} (hv : BesideBridge b s v) (c : BlockCause) :
    (v.blockBridge b c).bridges.get b = (s.blockBridge b c).bridges.get b ∧
      (v.blockBridge b c).regulators.get b = (s.blockBridge b c).regulators.get b :=
  ⟨by rw [blockBridge_bridge, blockBridge_bridge, hv.bridge], hv.regulator⟩

theorem phaseLost_bridge (s : State) (b : Index) :
    (s.phaseLost b).bridges.get b =
      match s.bridgeState b with
      | .running | .held | .retarding =>
        { s.bridges.get b with state := .blocked, blockCause := some .sync, next := none }
      | .deblocking =>
        { s.bridges.get b with state := .blocked, blockCause := some .abandoned, next := none }
      | .blocked | .lockout => s.bridges.get b := by
  unfold State.phaseLost
  cases s.bridgeState b <;> simp [blockBridge_bridge]

theorem phaseLost_regulators (s : State) (b : Index) : (s.phaseLost b).regulators = s.regulators := by
  unfold State.phaseLost
  split <;> rfl

theorem phaseLost_triggers (s : State) (b : Index) : (s.phaseLost b).triggers = s.triggers := by
  unfold State.phaseLost
  split <;> rfl

theorem local_phaseLost : Local (fun b s => s.phaseLost b) := by
  intro b s v hv
  refine ⟨?_, ?_⟩
  · rw [phaseLost_bridge, phaseLost_bridge, hv.state, hv.bridge]
  · rw [phaseLost_regulators, phaseLost_regulators, hv.regulator]

theorem coastBegins_bridge (s : State) (b : Index) :
    (s.coastBegins b).bridges.get b =
      if s.bridgeState b = .deblocking then
        { s.bridges.get b with state := .blocked, blockCause := some .abandoned, next := none }
      else s.bridges.get b := by
  unfold State.coastBegins
  split
  case h_1 h => rw [if_pos h, blockBridge_bridge]
  case h_2 h => rw [if_neg h]

theorem coastBegins_regulators (s : State) (b : Index) :
    (s.coastBegins b).regulators = s.regulators := by
  unfold State.coastBegins
  split <;> rfl

theorem local_coastBegins : Local (fun b s => s.coastBegins b) := by
  intro b s v hv
  refine ⟨?_, ?_⟩
  · rw [coastBegins_bridge, coastBegins_bridge, hv.state, hv.bridge]
  · rw [coastBegins_regulators, coastBegins_regulators, hv.regulator]

theorem holdBridge_bridge (s : State) (b : Index) (c : HeldCause) :
    (s.holdBridge b c).bridges.get b =
      { s.bridges.get b with state := .held, heldCauses := HeldCauses.empty.add c, next := none } := by
  obtain ⟨l, hl⟩ := trigger_eq s .bridgeHeld
  simp [State.holdBridge, hl]

theorem holdBridge_regulators (s : State) (b : Index) (c : HeldCause) :
    (s.holdBridge b c).regulators = s.regulators := by
  obtain ⟨l, hl⟩ := trigger_eq s .bridgeHeld
  simp [State.holdBridge, hl]

theorem resumeBridge_bridge (s : State) (b : Index) :
    (s.resumeBridge b).bridges.get b =
      { s.bridges.get b with
        state := .running, heldCauses := ⟨false, false⟩, next := s.phase.map (s.firstThyristor b) } :=
  Four.get_set_self _ _ _

theorem resumeBridge_regulator (s : State) (b : Index) :
    (s.resumeBridge b).regulators.get b =
      { s.regulators.get b with
        integral := s.presetIntegral b, sum := 0, count := 0, lastLimited := false, alphaReq := none } :=
  Four.get_set_self _ _ _

theorem resumeBridge_local {b : Index} {s v : State} (hv : BesideBridge b s v) :
    (v.resumeBridge b).bridges.get b = (s.resumeBridge b).bridges.get b ∧
      (v.resumeBridge b).regulators.get b = (s.resumeBridge b).regulators.get b := by
  constructor
  · rw [resumeBridge_bridge, resumeBridge_bridge, hv.bridge, hv.phase,
      firstThyristor_of_settings hv.settings]
  · rw [resumeBridge_regulator, resumeBridge_regulator, hv.regulator,
      presetIntegral_of_steady hv.toSteady]

/-! ### Turn boundaries -/

theorem bridgeTurn_of_retarding (s : State) (b : Index) (x : Bool) (h : s.bridgeState b = .retarding) :
    s.bridgeTurn b x = s.countRetard b := by
  simp [State.bridgeTurn, h]

theorem bridgeTurn_of_held (s : State) (b : Index) (x : Bool) (h : s.bridgeState b = .held) :
    s.bridgeTurn b x = if x then s else s.clearHeld b .step := by
  simp [State.bridgeTurn, h]

theorem bridgeTurn_of_other (s : State) (b : Index) (x : Bool) (h : s.bridgeState b ≠ .retarding)
    (h' : s.bridgeState b ≠ .held) : s.bridgeTurn b x = s := by
  unfold State.bridgeTurn
  cases hs : s.bridgeState b
  case retarding => exact absurd hs h
  case held => exact absurd hs h'
  all_goals rfl

theorem countRetard_bridge (s : State) (b : Index) :
    (s.countRetard b).bridges.get b =
      { s.bridges.get b with retardTurns := (s.bridges.get b).retardTurns + 1 } :=
  Four.get_set_self _ _ _

/-- A HELD bridge with no other cause resumes, one with another keeps it, and one without the cause stays. -/
theorem clearHeld_of_last (s : State) (b : Index) (c : HeldCause) (h : s.bridgeState b = .held)
    (hc : (s.bridges.get b).heldCauses.has c = true)
    (hd : (s.bridges.get b).heldCauses.drop c = HeldCauses.empty) :
    s.clearHeld b c = s.resumeBridge b := by
  simp [State.clearHeld, h, hc, hd]

theorem clearHeld_of_more (s : State) (b : Index) (c : HeldCause) (h : s.bridgeState b = .held)
    (hc : (s.bridges.get b).heldCauses.has c = true)
    (hd : (s.bridges.get b).heldCauses.drop c ≠ HeldCauses.empty) :
    s.clearHeld b c =
      s.mapBridge b (fun r => { r with heldCauses := (s.bridges.get b).heldCauses.drop c }) := by
  simp [State.clearHeld, h, hc, hd]

theorem clearHeld_of_without (s : State) (b : Index) (c : HeldCause)
    (hc : (s.bridges.get b).heldCauses.has c = false) : s.clearHeld b c = s := by
  simp [State.clearHeld, hc]

theorem clearHeld_of_not_held (s : State) (b : Index) (c : HeldCause) (h : s.bridgeState b ≠ .held) :
    s.clearHeld b c = s := by
  simp [State.clearHeld, h]

theorem clearHeld_local {b : Index} {s v : State} (hv : BesideBridge b s v) (c : HeldCause) :
    (v.clearHeld b c).bridges.get b = (s.clearHeld b c).bridges.get b ∧
      (v.clearHeld b c).regulators.get b = (s.clearHeld b c).regulators.get b := by
  unfold State.clearHeld
  dsimp only
  rw [hv.bridge, hv.state]
  split_ifs
  · exact resumeBridge_local hv
  · exact ⟨by simp [hv.bridge], hv.regulator⟩
  · exact ⟨hv.bridge, hv.regulator⟩

theorem clearHeld_triggers (s : State) (b : Index) (c : HeldCause) :
    (s.clearHeld b c).triggers = s.triggers := by
  unfold State.clearHeld
  dsimp only
  split_ifs <;> rfl

theorem local_bridgeTurn (x : Index → Bool) : Local (fun b s => s.bridgeTurn b (x b)) := by
  intro b s v hv
  dsimp only
  unfold State.bridgeTurn
  rw [hv.state]
  cases hs : s.bridgeState b
  case held =>
    dsimp only
    split_ifs
    · exact ⟨hv.bridge, hv.regulator⟩
    · exact clearHeld_local hv .step
  case retarding =>
    dsimp only
    exact ⟨by rw [countRetard_bridge, countRetard_bridge, hv.bridge], hv.regulator⟩
  all_goals exact ⟨hv.bridge, hv.regulator⟩

theorem bridgeTurn_triggers (s : State) (b : Index) (x : Bool) :
    (s.bridgeTurn b x).triggers = s.triggers := by
  unfold State.bridgeTurn
  split
  · rfl
  · split
    · rfl
    · exact clearHeld_triggers s b .step
  all_goals rfl

/-- A turn boundary starts no retard. -/
theorem bridgeTurn_retarding (s : State) (b : Index) (x : Bool)
    (h : (s.bridgeTurn b x).bridgeState b = .retarding) :
    s.bridgeState b = .retarding ∧
      ((s.bridgeTurn b x).bridges.get b).retardTurns = (s.bridges.get b).retardTurns + 1 := by
  by_cases hr : s.bridgeState b = .retarding
  · refine ⟨hr, ?_⟩
    rw [bridgeTurn_of_retarding s b x hr, countRetard_bridge]
  · by_cases hh : s.bridgeState b = .held
    · exfalso
      rw [bridgeTurn_of_held s b x hh] at h
      unfold State.bridgeState at h hh
      split_ifs at h
      · rw [hh] at h
        exact BridgeState.noConfusion h
      · unfold State.clearHeld at h
        dsimp only at h
        split_ifs at h
        · rw [resumeBridge_bridge] at h
          exact BridgeState.noConfusion h
        · simp [hh] at h
        · rw [hh] at h
          exact BridgeState.noConfusion h
    · rw [bridgeTurn_of_other s b x hr hh] at h
      exact absurd h hr

/-! ### RETARD_TIMEOUT (R87) -/

/-- Every RETARDING bridge stands below RETARD_LIMIT. -/
def State.retardsBelow (s : State) : Prop :=
  ∀ b, s.bridgeState b = .retarding → (s.bridges.get b).retardTurns < s.settings.retardLimit

theorem timeRetard_of_below (s : State) (h : s.retardsBelow) (b : Index) : s.timeRetard b = s := by
  unfold State.timeRetard
  rw [if_neg]
  rintro ⟨hr, hl⟩
  exact absurd (h b hr) (by omega)

theorem timeRetard_of_lockout (s : State) (h : ∀ b, s.bridgeState b = .lockout) (b : Index) :
    s.timeRetard b = s := by
  unfold State.timeRetard
  rw [if_neg]
  rintro ⟨hr, -⟩
  rw [h b] at hr
  exact BridgeState.noConfusion hr

theorem latchTrip_bridgeState (s : State) (c : TripCause) (b : Index) :
    (s.latchTrip c).bridgeState b = .lockout := by
  unfold State.bridgeState
  rw [latchTrip_bridge]

/-- One bridge at its limit is enough for the latch, and after it none is left to raise it. -/
theorem forAll_timeRetard (s : State) (order : List Index) (h : s.trip.latched = false) :
    (s.forAll order (fun b t => t.timeRetard b) = s.latchTrip .retardTimeout ∧
        ∃ b ∈ order, s.bridgeState b = .retarding ∧
          s.settings.retardLimit ≤ (s.bridges.get b).retardTurns) ∨
      (s.forAll order (fun b t => t.timeRetard b) = s ∧
        ∀ b ∈ order, ¬ (s.bridgeState b = .retarding ∧
          s.settings.retardLimit ≤ (s.bridges.get b).retardTurns)) := by
  induction order with
  | nil => exact .inr ⟨rfl, by simp⟩
  | cons b rest ih =>
    by_cases hb : s.bridgeState b = .retarding ∧
        s.settings.retardLimit ≤ (s.bridges.get b).retardTurns
    · refine .inl ⟨?_, b, List.mem_cons_self, hb⟩
      have hfirst : s.timeRetard b = s.latchTrip .retardTimeout :=
        (if_pos hb).trans (raiseCause_of_unlatched s .retardTimeout h)
      rw [forAll_cons, hfirst]
      exact forAll_of_fixed _ rest _ (timeRetard_of_lockout _ (latchTrip_bridgeState s .retardTimeout))
    · have hfirst : s.timeRetard b = s := if_neg hb
      have hrest : s.forAll (b :: rest) (fun b t => t.timeRetard b) =
          s.forAll rest (fun b t => t.timeRetard b) := by
        rw [forAll_cons, hfirst]
      rw [hrest]
      obtain ⟨heq, d, hd, hlim⟩ | ⟨heq, hnone⟩ := ih
      · exact .inl ⟨heq, d, List.mem_cons_of_mem b hd, hlim⟩
      · refine .inr ⟨heq, fun d hd => ?_⟩
        obtain rfl | hd := List.mem_cons.mp hd
        · exact hb
        · exact hnone d hd

/-! ### The firing unit's share of a turn boundary -/

/-- Every bridge after its own turn. -/
def State.turned (s : State) (order : List Index) (exempt : Index → Bool) : State :=
  s.forAll order (fun b t => t.bridgeTurn b (exempt b))

theorem firingTurn_eq (s : State) (order : List Index) (exempt : Index → Bool) :
    s.firingTurn order exempt = (s.turned order exempt).forAll order (fun b t => t.timeRetard b) := rfl

theorem onBridges_turned (s : State) (order : List Index) (exempt : Index → Bool) :
    OnBridges s (s.turned order exempt) :=
  onBridges_forAll _ _ _ fun b t => onBridge_bridgeTurn t b _

theorem turned_triggers (s : State) (order : List Index) (exempt : Index → Bool) :
    (s.turned order exempt).triggers = s.triggers :=
  forAll_keeps State.triggers _ _ _ fun b t => bridgeTurn_triggers t b _

theorem turned_bridge (s : State) (k : Nat) (exempt : Index → Bool) (b : Index) :
    (s.turned (bridgeOrder k) exempt).bridges.get b = (s.bridgeTurn b (exempt b)).bridges.get b ∧
      (s.turned (bridgeOrder k) exempt).regulators.get b =
        (s.bridgeTurn b (exempt b)).regulators.get b :=
  forAll_local (local_bridgeTurn exempt) (fun b t => onBridge_bridgeTurn t b _) s _ b
    (bridgeOrder_nodup k) (mem_bridgeOrder k b)

/-- A turn that no RETARDING bridge reaches its limit at. -/
def State.turnsBelow (s : State) : Prop :=
  ∀ b, s.bridgeState b = .retarding → (s.bridges.get b).retardTurns + 1 < s.settings.retardLimit

theorem turned_retarding (s : State) (k : Nat) (exempt : Index → Bool) (b : Index)
    (h : (s.turned (bridgeOrder k) exempt).bridgeState b = .retarding) :
    s.bridgeState b = .retarding ∧
      ((s.turned (bridgeOrder k) exempt).bridges.get b).retardTurns =
        (s.bridges.get b).retardTurns + 1 := by
  have hb := (turned_bridge s k exempt b).1
  unfold State.bridgeState at h
  rw [hb] at h ⊢
  exact bridgeTurn_retarding s b (exempt b) h

/-- Short of the limit a turn boundary is the bridges' own turns alone. -/
theorem firingTurn_of_below (s : State) (k : Nat) (exempt : Index → Bool) (h : s.turnsBelow) :
    s.firingTurn (bridgeOrder k) exempt = s.turned (bridgeOrder k) exempt := by
  rw [firingTurn_eq]
  refine forAll_of_fixed _ _ _ (timeRetard_of_below _ fun b hb => ?_)
  obtain ⟨hr, hn⟩ := turned_retarding s k exempt b hb
  rw [hn, (onBridges_turned s _ exempt).settings]
  exact h b hr

end Sys2Proof.Machine
end

section
/-! PROOF. Arrivals that anchor and acquire (R26 to R29, R39), and the entry to COAST (R35). -/

namespace Sys2Proof.Machine

/-! ### SYNC events by the state they enter (R40) -/

theorem syncEvent_of_locked (s : State) (old : SyncState) (delta : Option Int)
    (h : s.sync.state = .locked) : s.syncEvent old delta = s.raise (.sync .locked delta) := by
  simp [State.syncEvent, h]

/-- The loss of the phase, not from LOCKED. -/
theorem syncEvent_of_phaseLost (s : State) (old : SyncState) (delta : Option Int) (hold : old ≠ .locked)
    (h : s.sync.state = .acquiring ∨ s.sync.state = .lost) :
    s.syncEvent old delta =
      ((s.raise (.sync s.sync.state delta)).mapMonitor Monitor.excursionCleared).forAll Index.all
        (fun b t => t.phaseLost b) := by
  obtain h | h := h
  all_goals simp [State.syncEvent, h, hold]

theorem syncEvent_of_coast (s : State) (delta : Option Int) (h : s.sync.state = .coast) :
    s.syncEvent .locked delta =
      ((s.trigger .syncLeftLocked).raise (.sync .coast delta)).forAll Index.all
        (fun b t => t.coastBegins b) := by
  simp [State.syncEvent, h]

/-- What the loss of the phase leaves, with its event raised on `w`. -/
theorem phaseLost_all (w : State) (b : Index) :
    (w.forAll Index.all (fun b t => t.phaseLost b)).bridges.get b = (w.phaseLost b).bridges.get b :=
  (forAll_local local_phaseLost (fun b t => onBridge_phaseLost t b) w _ b Index.all_nodup
    (Index.mem_all b)).1

theorem phaseLost_all_regulators (w : State) :
    (w.forAll Index.all (fun b t => t.phaseLost b)).regulators = w.regulators :=
  forAll_keeps State.regulators w _ _ fun b t => phaseLost_regulators t b

theorem phaseLost_all_triggers (w : State) :
    (w.forAll Index.all (fun b t => t.phaseLost b)).triggers = w.triggers :=
  forAll_keeps State.triggers w _ _ fun b t => phaseLost_triggers t b

theorem onBridges_phaseLost_all (w : State) :
    OnBridges w (w.forAll Index.all (fun b t => t.phaseLost b)) :=
  onBridges_forAll _ _ _ fun b t => onBridge_phaseLost t b

/-! ### An arrival as a command -/

theorem exec_crossingEdge_of_arrival {line : Line} {rising : Bool} {wait : Nat} {o : Schedule} {s : State}
    (hrun : s.inReset = false) (h : s.handsOn line wait) :
    exec (.crossingEdge line rising wait o) s =
      .next (((s.edgeAccepted line rising wait).arrive o.shares
        (s.arrivalAt line rising wait)).settle o) := by
  obtain ⟨hchat, hfilter⟩ := h
  rw [exec_crossingEdge, take_of_running s o _ hrun,
    edge_of_handsOn (s.runFor wait) line rising o.shares hchat hfilter]
  rfl

/-- An arrival in ACQUIRING, with the lock's SYNC event (R26 to R29, R40). -/
theorem arrive_of_acquiring (s : State) (k : Nat) (a : Arrival) (y : Sync)
    (h : s.sync.state = .acquiring) (hy : s.sync.acquire s.settings a = y) :
    s.arrive k a =
      if y.state = .locked then ({ s with sync := y } : State).raise (.sync .locked none)
      else { s with sync := y } := by
  subst hy
  have harrive : s.arrive k a = s.arriveAcquiring a := by
    unfold State.arrive
    rw [h]
  rw [harrive]
  unfold State.arriveAcquiring
  dsimp only
  by_cases hl : (s.sync.acquire s.settings a).state = .locked
  · rw [if_pos hl, if_pos (by exact hl), syncEvent_of_locked _ _ _ (by exact hl)]
    rfl
  · rw [if_neg hl, if_neg (by exact hl)]
    rfl

theorem phaseRun_zero (period : Nat) (h : 0 < period) : phaseRun period 0 = 0 := by
  unfold phaseRun roundNat
  rw [Nat.zero_mul, Nat.mul_zero, Nat.zero_add]
  exact Nat.div_eq_of_lt (by omega)

theorem Crossing.angle_lt (k : Crossing) : k.angle < 36000 := by cases k <;> decide

/-- A phase just anchored equals its anchor angle. -/
theorem phase_of_anchored (s : State) (h : s.sync.unanchored = false) (hlost : s.sync.state ≠ .lost)
    (htick : s.sync.anchorTick = s.counter) (hp : 0 < s.sync.period) (ha : s.sync.anchorAngle < 36000) :
    s.phase = some s.sync.anchorAngle := by
  unfold State.phase Sync.phaseAt
  rw [if_neg (by simp [h, hlost]), htick, BitVec.sub_self, BitVec.toNat_zero, phaseRun_zero _ hp,
    Nat.add_zero, fullTurn, Nat.mod_eq_of_lt ha]

theorem nominalPeriod_pos (st : Settings) : 0 < st.nominalPeriod := by
  unfold Settings.nominalPeriod
  cases st.fNom <;> decide

/-- Settles O8: with no phase the arrival anchors, and from LOST the SYNC event blocks the bridges. -/
theorem unanchoredArrivalAnchors : Obligations.UnanchoredArrivalAnchors := by
  intro line rising wait o s ⟨hrun, hset⟩ hands u a y
  have hexec := exec_crossingEdge_of_arrival (rising := rising) (o := o) hrun hands
  have hcounter : u.counter = a.tick := rfl
  have hy : y = u.sync.anchored u.settings a := rfl
  refine ⟨fun hstate hun => ⟨?exact, ?phase⟩, fun hlost => ?lost⟩
  case phase =>
    exact phase_of_anchored { u with sync := y } rfl (by
      change s.sync.state ≠ .lost
      rw [hstate]
      exact SyncState.noConfusion) rfl (nominalPeriod_pos s.settings) a.crossing.angle_lt
  case exact =>
    have hnone : u.sync.phaseAt a.tick = none := by
      unfold Sync.phaseAt
      rw [show u.sync.unanchored = true from hun]
      rfl
    have hacquire : u.sync.acquire u.settings a = y := by
      unfold Sync.acquire
      rw [hnone]
      rfl
    have hy : y.state ≠ .locked := by
      change s.sync.state ≠ .locked
      rw [hstate]
      exact SyncState.noConfusion
    rw [hexec, arrive_of_acquiring u o.shares a y hstate hacquire, if_neg hy,
      settle_of_settled _ o (by exact hset)]
  case lost =>
    let v : State := u.mapSync (fun _ => { y with state := .acquiring, bad := 0, consistency := 0 })
    let w := (v.raise (.sync .acquiring none)).mapMonitor Monitor.excursionCleared
    have harrive : u.arrive o.shares a = w.forAll Index.all (fun b t => t.phaseLost b) := by
      unfold State.arrive
      rw [show u.sync.state = .lost from hlost]
      dsimp only
      exact syncEvent_of_phaseLost v .lost none SyncState.noConfusion (.inl rfl)
    have hall := onBridges_phaseLost_all w
    have ht := taken_settle (w.forAll Index.all (fun b t => t.phaseLost b)) o
    have htrig : (w.forAll Index.all (fun b t => t.phaseLost b)).triggers = [] :=
      (phaseLost_all_triggers w).trans hset.2
    rw [hexec, harrive]
    refine ⟨_, rfl, ht.sync.trans hall.sync, ?_, fun l => ?_, ht.elapsed.trans hall.elapsed,
      ht.scanner.trans hall.scanner, ht.monitor.trans hall.monitor, fun b => ?_,
      ht.regulators.trans (phaseLost_all_regulators w), ht.channels.trans hall.channels,
      ht.trip.trans hall.trip, (ht.recorder htrig).trans hall.recorder, ?_⟩
    · rw [ht.phase, hall.phase]
      exact phase_of_anchored w rfl SyncState.noConfusion rfl (nominalPeriod_pos s.settings)
        a.crossing.angle_lt
    · exact ht.flags l 0 (hall.flags l 0 (raise_flagged v _ l))
    · rw [ht.bridges, phaseLost_all, phaseLost_bridge]
      have hs : w.bridgeState b = s.bridgeState b := rfl
      rw [hs]
      cases s.bridgeState b <;> rfl
    · have hcalm : Calm v w := (calm_raise v _).trans'
        (calm_mapMonitor _ Monitor.excursionCleared rfl rfl)
      exact frameKept_settle (s := v) (hcalm.toSteady.trans' hall.toSteady) o

/-! ### Acquisition (R27 to R29) -/

theorem nominalAdvance_eq (k prev : Crossing) :
    nominalAdvance k prev =
      if k = prev then 36000 else wrapAngle ((k.angle : Int) - (prev.angle : Int)) := by
  cases k <;> cases prev <;> rfl

theorem periodInRange_eq (est : Nat) :
    (periodInRange est = true) ↔ (151515 ≤ est ∧ est ≤ 227273) := by
  unfold periodInRange Config.periodMin Config.periodMax
  rw [Bool.and_eq_true, decide_eq_true_iff, decide_eq_true_iff]
  norm_cast

/-- Settles O9: the period estimate is judged first, then the phase error, then the good count. -/
theorem acquisitionArrivalsAreJudged : Obligations.AcquisitionArrivalsAreJudged := by
  intro line rising wait o s prev θ ⟨hrun, hset⟩ hands hstate hprev hθ u a advance est anchored averaged k opens closes locked
  have hexec := exec_crossingEdge_of_arrival (rising := rising) (o := o) hrun hands
  have hset' : u.settled := hset
  have hest : periodEstimate prev a = est := by
    unfold periodEstimate
    rw [nominalAdvance_eq]
    rfl
  have hacquire : u.sync.acquire u.settings a =
      if 151515 ≤ est ∧ est ≤ 227273 then
        if |signedAngle θ a.crossing.angle| ≤ (s.settings.syncWindow : Int) then
          u.sync.goodAcquisition u.settings a est
        else u.sync.badAcquisition a est
      else u.sync.mismatched a := by
    unfold Sync.acquire
    rw [show u.sync.phaseAt a.tick = some θ from hθ, show u.sync.previous = some prev from hprev]
    dsimp only
    rw [hest]
    simp only [periodInRange_eq]
    rfl
  have hnot : ∀ y : Sync, y.state = s.sync.state → ¬ y.state = .locked := fun y hy => by
    rw [hy, hstate]
    exact SyncState.noConfusion
  have hquiet : ∀ y : Sync, u.sync.acquire u.settings a = y → y.state = s.sync.state →
      exec (.crossingEdge line rising wait o) s = .next { u with sync := y } := fun y hy hs => by
    rw [hexec, arrive_of_acquiring u o.shares a y hstate hy, if_neg (hnot y hs),
      settle_of_settled _ o (by exact hset')]
  have hgood : u.sync.goodAcquisition u.settings a est =
      if s.sync.good + 1 = s.settings.lockCount then
        { averaged with state := .locked, bad := 0, window := some ⟨k, opens, closes, .waiting⟩ }
      else averaged := rfl
  have hlock : 151515 ≤ est → est ≤ 227273 →
      |signedAngle θ a.crossing.angle| ≤ (s.settings.syncWindow : Int) →
      s.sync.good + 1 = s.settings.lockCount →
      ∃ w : State, u.arrive o.shares a = w ∧ w.sync.state = .locked ∧ w.settle o = locked := by
    intro hlow hhigh herr hcount
    rw [if_pos ⟨hlow, hhigh⟩, if_pos herr, hgood, if_pos hcount] at hacquire
    refine ⟨_, arrive_of_acquiring u o.shares a _ hstate hacquire, ?_, ?_⟩
    · rw [if_pos rfl]
      rfl
    · rw [if_pos rfl, settle_raise _ _ o (by exact hset')]
  refine ⟨?judged, fun hlow hhigh herr hcount => ?syncLock⟩
  case judged =>
    by_cases hrange : 151515 ≤ est ∧ est ≤ 227273
    · rw [if_pos hrange] at hacquire ⊢
      by_cases herr : |signedAngle θ a.crossing.angle| ≤ (s.settings.syncWindow : Int)
      · rw [if_pos herr] at hacquire ⊢
        by_cases hcount : s.sync.good + 1 = s.settings.lockCount
        · obtain ⟨w, hw, -, hsettle⟩ := hlock hrange.1 hrange.2 herr hcount
          rw [if_pos hcount, hexec, hw, hsettle]
        · rw [hgood, if_neg hcount] at hacquire
          rw [if_neg hcount]
          exact hquiet averaged hacquire rfl
      · rw [if_neg herr] at hacquire ⊢
        exact hquiet _ hacquire rfl
    · rw [if_neg hrange] at hacquire ⊢
      exact hquiet _ hacquire rfl
  case syncLock =>
    obtain ⟨w, hw, hlocked, hsettle⟩ := hlock hlow hhigh herr hcount
    obtain ⟨hchat, hfilter⟩ := hands
    have hedge : (s.runFor wait).edge line rising o.shares = w :=
      (edge_of_handsOn (s.runFor wait) line rising o.shares hchat hfilter).trans hw
    rw [exec_syncLock, take_of_running s o _ hrun,
      takenIf_of_happened (by rw [hedge, syncGoes, hstate, hlocked]; rfl), hedge, hsettle]

/-! ### COAST_ENTRY (R35) -/

theorem enterCoast_eq (s : State) :
    s.enterCoast =
      ((({ s with
        sync :=
          { s.sync with
            state := .coast, bad := s.settings.lossCount, consistency := 0, coastTurns := 0,
            previous := none, window := none } } : State).trigger .syncLeftLocked).raise
        (.sync .coast none)).forAll Index.all (fun b t => t.coastBegins b) :=
  syncEvent_of_coast _ none rfl

theorem coastBegins_triggers (s : State) (b : Index) : (s.coastBegins b).triggers = s.triggers := by
  unfold State.coastBegins
  split <;> rfl

/-- The source that an armed recorder takes alone becomes its header's cause (R166). -/
theorem takeTriggers_single_header (s : State) (k : Nat) (x : Trigger) (ha : s.recorder.state = .armed)
    (h : s.triggers = [x]) :
    (s.takeTriggers k).recorder.state = .capturing ∧
      (s.takeTriggers k).recorder.header.map (fun h => h.cause) = some x.source := by
  rw [takeTriggers_singleton s k x h, takeTrigger_of_armed { s with triggers := [] } x ha]
  exact ⟨rfl, rfl⟩

/-- Settles O12: the miss runs the phase to the closing angle, and the SYNC event's shares follow. -/
theorem coastEntryFreezesThePhase : Obligations.CoastEntryFreezesThePhase := by
  intro o s w ⟨hrun, hset⟩ hstate hw hopen hcount
  obtain ⟨d, hd⟩ := runToAngle_eq s w.closing
  have hclose : s.closeWindow = (s.runFor d).enterCoast :=
    (closeWindow_of_loss s w hstate hw hopen hcount).trans (by rw [hd])
  rw [hd]
  let v : State := { s.runFor d with
    sync :=
      { s.sync with
        state := .coast, bad := s.settings.lossCount, consistency := 0, coastTurns := 0,
        previous := none, window := none } }
  let x := (v.trigger .syncLeftLocked).raise (.sync .coast none)
  let y := x.forAll Index.all (fun b t => t.coastBegins b)
  have hy : s.closeWindow = y := hclose.trans (enterCoast_eq _)
  have hon : OnBridges x y := onBridges_forAll _ _ _ fun b t => onBridge_coastBegins t b
  have hvx : OnRecorder v x := (onRecorder_trigger v _).trans (onRecorder_raise _ _)
  have ht := taken_settle y o
  have hrow : exec (.coastEntry o) s = .next (y.settle o) := by
    rw [exec_coastEntry, take_of_running s o _ hrun, takenIf_of_happened, hy]
    rw [hy, syncGoes, hstate, hon.sync, hvx.sync]
    rfl
  have hsame : exec (.windowClose o) s = .next (y.settle o) := by
    rw [exec_windowClose, take_of_running s o _ hrun, hy]
  have hbridge : ∀ b, y.bridges.get b = (x.coastBegins b).bridges.get b := fun b =>
    (forAll_local local_coastBegins (fun b t => onBridge_coastBegins t b) x _ b Index.all_nodup
      (Index.mem_all b)).1
  have hxb : ∀ b, x.bridges.get b = s.bridges.get b := fun b => by rw [hvx.bridges]; rfl
  have hxs : ∀ b, x.bridgeState b = s.bridgeState b := fun b => congrArg Bridge.state (hxb b)
  have hregs : y.regulators = x.regulators :=
    forAll_keeps State.regulators x _ _ fun b t => coastBegins_regulators t b
  refine ⟨_, hrow, hsame, ht.elapsed.trans (hon.elapsed.trans hvx.elapsed),
    ht.sync.trans (hon.sync.trans hvx.sync), fun l => ?flag, fun b hb => ?abandoned, fun b hb => ?same,
    fun ha hbit => ?record, ht.scanner.trans (hon.scanner.trans hvx.scanner),
    ht.monitor.trans (hon.monitor.trans hvx.monitor),
    ht.regulators.trans (hregs.trans hvx.regulators), ht.channels.trans (hon.channels.trans hvx.channels),
    ht.trip.trans (hon.trip.trans hvx.trip),
    frameKept_settle (s := v) (hvx.toSteady.trans' hon.toSteady) o⟩
  case flag => exact ht.flags l 0 (hon.flags l 0 (raise_flagged _ _ l))
  case abandoned =>
    rw [ht.bridges, hbridge, coastBegins_bridge, hxs, if_pos hb, hxb]
  case same =>
    rw [ht.bridges, hbridge, coastBegins_bridge, hxs, if_neg hb, hxb]
  case record =>
    have htrig : y.triggers = [⟨.syncLeftLocked, v.counter, !v.anyRunning⟩] := by
      have h1 : y.triggers = x.triggers :=
        forAll_keeps State.triggers x _ _ fun b t => coastBegins_triggers t b
      have h2 : x.triggers = v.triggers ++ [⟨.syncLeftLocked, v.counter, !v.anyRunning⟩] := by
        have hx := trigger_of_enabled v .syncLeftLocked hbit
        change (v.trigger .syncLeftLocked).triggers = _
        rw [hx]
      rw [h1, h2, show v.triggers = [] from hset.2]
      rfl
    exact takeTriggers_single_header y o.triggers _
      ((congrArg Recorder.state (hon.recorder.trans (by
        change (v.trigger .syncLeftLocked).recorder = v.recorder
        obtain ⟨l, hl⟩ := trigger_eq v .syncLeftLocked
        rw [hl]))).trans ha) htrig

end Sys2Proof.Machine
end

section
/-! PROOF. Turn boundaries reached by running (R24, R38, R87, R98): the synchroniser's share and the
firing unit's, in either order, and the loss of the phase and RETARD_TIMEOUT at one. -/

namespace Sys2Proof.Machine

/-! ### The synchroniser's share -/

/-- The state whose synchroniser has counted a turn, if it coasts. -/
def State.coastCounted (s : State) : State :=
  s.mapSync (fun y =>
    { y with coastTurns := if y.state = .coast then y.coastTurns + 1 else y.coastTurns })

/-- The state whose synchroniser has lost the phase at a turn boundary. -/
def State.coastLost (s : State) : State :=
  s.mapSync (fun y =>
    { y with
      coastTurns := y.coastTurns + 1, state := .lost, unanchored := true, previous := none,
      window := none })

/-- The turn boundary does not reach COAST_LIMIT. -/
def State.coastsOn (s : State) : Prop :=
  s.sync.state = .coast → s.sync.coastTurns + 1 < s.settings.coastLimit

theorem syncTurn_of_coastsOn (s : State) (h : s.coastsOn) : s.syncTurn = s.coastCounted := by
  unfold State.syncTurn State.coastCounted
  by_cases hs : s.sync.state = .coast
  · have hl := h hs
    rw [if_pos hs]
    dsimp only
    rw [if_neg (by omega)]
    simp [State.mapSync, hs]
  · rw [if_neg hs]
    simp [State.mapSync, hs]

theorem syncTurn_of_limit (s : State) (h : s.sync.state = .coast)
    (hl : s.settings.coastLimit ≤ s.sync.coastTurns + 1) :
    s.syncTurn =
      ((s.coastLost.raise (.sync .lost none)).mapMonitor Monitor.excursionCleared).forAll Index.all
        (fun b t => t.phaseLost b) := by
  unfold State.syncTurn
  dsimp only
  rw [if_pos h, if_pos hl]
  exact syncEvent_of_phaseLost s.coastLost .coast none SyncState.noConfusion (.inr rfl)

/-! ### Both shares -/

/-- The mark that the turn boundary of this tick is taken. -/
def State.turnMarked (s : State) : State :=
  s.mapSync (fun y => { y with turn := .taken s.elapsed })

theorem turnReached_either (s : State) (k : Nat) :
    s.turnReached k = s.turnMarked.syncTurn.firingTurn (bridgeOrder (k / 2)) (fun _ => false) ∨
      s.turnReached k = (s.turnMarked.firingTurn (bridgeOrder (k / 2)) (fun _ => false)).syncTurn := by
  obtain h | h : k % 2 = 0 ∨ k % 2 = 1 := by omega
  · exact .inl (by unfold State.turnReached; rw [h]; rfl)
  · exact .inr (by unfold State.turnReached; rw [h]; rfl)

theorem takeTurn_of_phase (s : State) (k : Nat) (h : s.phase.isSome = true) :
    s.takeTurn k = s.runToTurn.turnReached k := if_pos h

/-- A passage of 0 that this tick brought is taken with no time run. -/
theorem runToTurn_of_due (s : State) (h : s.sync.turn = .due s.elapsed) : s.runToTurn = s := by
  have hp : s.turnPending = true := by simp [State.turnPending, h]
  unfold State.runToTurn
  split
  · rfl
  · rw [if_pos hp]

/-- The fields that the bridges' turns do not touch follow the synchroniser's count, in either order. -/
theorem turnReached_of_short (s : State) (k : Nat) (hcoast : s.coastsOn) (hbelow : s.turnsBelow) :
    ∃ w : State, w.bridges = s.bridges ∧ w.regulators = s.regulators ∧
      (∀ b, (s.turnReached k).bridges.get b = (w.bridgeTurn b false).bridges.get b ∧
        (s.turnReached k).regulators.get b = (w.bridgeTurn b false).regulators.get b) ∧
      (s.turnReached k).sync = s.turnMarked.coastCounted.sync ∧ Steady s (s.turnReached k) ∧
      (s.turnReached k).monitor = s.monitor ∧ (s.turnReached k).channels = s.channels ∧
      (s.turnReached k).trip = s.trip ∧ (s.turnReached k).recorder = s.recorder ∧
      (s.turnReached k).triggers = s.triggers := by
  have hsteady := steady_turnReached s k
  let order := bridgeOrder (k / 2)
  obtain h | h := turnReached_either s k
  · let w := s.turnMarked.coastCounted
    have hw : s.turnReached k = w.turned order (fun _ => false) := by
      rw [h, syncTurn_of_coastsOn s.turnMarked hcoast]
      exact firingTurn_of_below w _ _ hbelow
    have hon := onBridges_turned w order (fun _ => false)
    rw [hw] at hsteady ⊢
    exact ⟨w, rfl, rfl, turned_bridge w _ _, hon.sync, hsteady, hon.monitor, hon.channels, hon.trip,
      hon.recorder, turned_triggers w _ _⟩
  · let w := s.turnMarked
    have hon := onBridges_turned w order (fun _ => false)
    have hw : s.turnReached k = (w.turned order (fun _ => false)).coastCounted := by
      rw [h, firingTurn_of_below w _ _ hbelow]
      refine syncTurn_of_coastsOn _ fun hc => ?_
      rw [hon.sync, hon.settings] at *
      exact hcoast hc
    rw [hw] at hsteady ⊢
    refine ⟨w, rfl, rfl, turned_bridge w _ _, ?_, hsteady, hon.monitor, hon.channels, hon.trip,
      hon.recorder, turned_triggers w _ _⟩
    unfold State.coastCounted
    rw [State.mapSync_sync, State.mapSync_sync, hon.sync]

theorem bridgeTurn_regulator_of_not_held (s : State) (b : Index) (x : Bool)
    (h : s.bridgeState b ≠ .held) : (s.bridgeTurn b x).regulators = s.regulators := by
  by_cases hr : s.bridgeState b = .retarding
  · rw [bridgeTurn_of_retarding s b x hr]
    rfl
  · rw [bridgeTurn_of_other s b x hr h]

/-- What a turn boundary makes of a HELD bridge (R98). -/
theorem bridgeTurn_held_last (s : State) (b : Index) (h : s.bridgeState b = .held)
    (hc : (s.bridges.get b).heldCauses = ⟨true, false⟩) :
    s.bridgeTurn b false = s.resumeBridge b := by
  rw [bridgeTurn_of_held s b false h, if_neg Bool.false_ne_true]
  exact clearHeld_of_last s b .step h (by rw [hc]; rfl) (by rw [hc]; rfl)

theorem bridgeTurn_held_more (s : State) (b : Index) (h : s.bridgeState b = .held)
    (hc : (s.bridges.get b).heldCauses = ⟨true, true⟩) :
    (s.bridgeTurn b false).bridges.get b = { s.bridges.get b with heldCauses := ⟨false, true⟩ } := by
  rw [bridgeTurn_of_held s b false h, if_neg Bool.false_ne_true,
    clearHeld_of_more s b .step h (by rw [hc]; rfl) (by rw [hc]; decide), hc]
  exact Four.get_set_self _ _ _

theorem bridgeTurn_held_without (s : State) (b : Index) (h : s.bridgeState b = .held)
    (hc : (s.bridges.get b).heldCauses.step = false) : s.bridgeTurn b false = s := by
  rw [bridgeTurn_of_held s b false h, if_neg Bool.false_ne_true]
  exact clearHeld_of_without s b .step hc

/-- Settles O14: short of both limits the two shares touch different parts, so their order is the same. -/
theorem turnBoundaryCounts : Obligations.TurnBoundaryCounts := by
  intro o s ⟨hrun, hset⟩ hphase hcoast hbelow
  obtain ⟨d, hd⟩ := runToTurn_eq s
  have hdue := runToTurn_of_due s
  have htake := takeTurn_of_phase s o.shares hphase
  rw [hd] at hdue htake ⊢
  obtain ⟨w, hwb, hwr, hbridges, hsync, hsteady, hmon, hch, htrip, hrec, htrig⟩ :=
    turnReached_of_short (s.runFor d) o.shares hcoast hbelow
  let y := (s.runFor d).turnReached o.shares
  have ht := taken_settle y o
  have hexec : exec (.turnBoundary o) s = .next (y.settle o) := by
    rw [exec_turnBoundary, take_of_running s o _ hrun, htake]
  have hstate : ∀ b, w.bridgeState b = s.bridgeState b := fun b =>
    congrArg Bridge.state (congrArg (·.get b) hwb)
  have hwget : ∀ b, w.bridges.get b = s.bridges.get b := fun b => congrArg (·.get b) hwb
  have hget : ∀ b, (y.settle o).bridges.get b = (w.bridgeTurn b false).bridges.get b := fun b =>
    (ht.bridge b).trans (hbridges b).1
  have helapsed : (y.settle o).elapsed = (s.runFor d).elapsed := ht.elapsed.trans hsteady.elapsed
  refine ⟨_, hexec, helapsed, fun h => helapsed.trans (congrArg State.elapsed (hdue h)), ?sync,
    fun b => ⟨fun h => ?retarding, fun h hc => ?last, fun h hc => ?more, fun h hc => ?without,
      fun hr hh => ?other⟩, fun b h => ?regulator, ht.scanner.trans hsteady.scanner,
    ht.monitor.trans hmon, ht.channels.trans hch, ht.trip.trans htrip,
    (ht.recorder (htrig.trans hset.2)).trans hrec, frameKept_settle (s := s.runFor d) hsteady o⟩
  case sync =>
    rw [helapsed, ht.sync, hsync]
    rfl
  case retarding =>
    rw [hget, bridgeTurn_of_retarding w b false ((hstate b).trans h), countRetard_bridge, hwget]
  case last =>
    have hl := bridgeTurn_held_last w b ((hstate b).trans h) (by rw [hwget]; exact hc)
    unfold State.bridgeState
    rw [hget, hl, resumeBridge_bridge]
    exact ⟨rfl, rfl⟩
  case more =>
    rw [hget, bridgeTurn_held_more w b ((hstate b).trans h) (by rw [hwget]; exact hc), hwget]
  case without =>
    rw [hget, bridgeTurn_held_without w b ((hstate b).trans h) (by rw [hwget]; exact hc), hwget]
  case other =>
    rw [hget, bridgeTurn_of_other w b false ((hstate b).symm ▸ hr) ((hstate b).symm ▸ hh), hwget]
  case regulator =>
    rw [ht.regulator, (hbridges b).2,
      bridgeTurn_regulator_of_not_held w b false ((hstate b).symm ▸ h), hwr,
      State.runFor_regulators]

/-! ### COAST_LIMIT_LOST -/

theorem raiseCause_monitor (s : State) (c : TripCause) : (s.raiseCause c).monitor = s.monitor := by
  cases hl : s.trip.latched
  case false => rw [raiseCause_of_unlatched s c hl, latchTrip_monitor]
  case true =>
    cases hc : hasBit s.trip.causes c.bit
    case true => rw [raiseCause_of_held s c hl hc]
    case false =>
      rw [raiseCause_of_joining s c hl hc]
      unfold State.tripEvent State.trigger
      split <;> rfl

theorem firingTurn_monitor (s : State) (order : List Index) (exempt : Index → Bool) :
    (s.firingTurn order exempt).monitor = s.monitor := by
  rw [firingTurn_eq, ← (onBridges_turned s order exempt).monitor]
  refine forAll_keeps State.monitor _ _ _ fun b t => ?_
  unfold State.timeRetard
  split_ifs
  · exact raiseCause_monitor t _
  · rfl

/-- Every bridge is BLOCKED or in LOCKOUT. -/
def State.allStopped (s : State) : Prop := ∀ b, s.bridgeState b = .blocked ∨ s.bridgeState b = .lockout

theorem phaseLost_all_stopped (w : State) :
    (w.forAll Index.all (fun b t => t.phaseLost b)).allStopped := by
  intro b
  unfold State.bridgeState
  rw [phaseLost_all, phaseLost_bridge]
  cases hs : w.bridgeState b
  case blocked => exact .inl hs
  case lockout => exact .inr hs
  all_goals exact .inl rfl

/-- A turn boundary means nothing to bridges that are all stopped. -/
theorem firingTurn_of_stopped (s : State) (order : List Index) (exempt : Index → Bool)
    (h : s.allStopped) : s.firingTurn order exempt = s := by
  have hnot : ∀ b x, x ≠ .blocked → x ≠ .lockout → s.bridgeState b ≠ x := fun b x hx hy => by
    obtain hb | hb := h b
    all_goals rw [hb]
    · exact hx.symm
    · exact hy.symm
  have hturn : s.turned order exempt = s :=
    forAll_of_fixed s order _ fun b => bridgeTurn_of_other s b _
      (hnot b .retarding BridgeState.noConfusion BridgeState.noConfusion)
      (hnot b .held BridgeState.noConfusion BridgeState.noConfusion)
  rw [firingTurn_eq, hturn]
  exact forAll_of_fixed s order _ fun b => timeRetard_of_below s
    (fun d hd => absurd hd (hnot d .retarding BridgeState.noConfusion BridgeState.noConfusion)) b

/-- Settles O15: once the phase is lost no bridge is left for the firing unit's share to act on. -/
theorem coastLimitLosesThePhase : Obligations.CoastLimitLosesThePhase := by
  intro o s ⟨hrun, hset⟩ hphase hstate hlimit
  obtain ⟨d, hd⟩ := runToTurn_eq s
  have htake := takeTurn_of_phase s o.shares hphase
  rw [hd] at htake ⊢
  let m := (s.runFor d).turnMarked
  let order := bridgeOrder (o.shares / 2)
  obtain ⟨v, hcalm, hmon, hreached⟩ : ∃ v, Calm m v ∧ v.monitor = s.monitor ∧
      (s.runFor d).turnReached o.shares = v.syncTurn := by
    obtain h | h := turnReached_either (s.runFor d) o.shares
    · refine ⟨m, Calm.rfl' m, rfl, h.trans (firingTurn_of_stopped _ _ _ ?_)⟩
      rw [syncTurn_of_limit (s.runFor d).turnMarked hstate hlimit]
      exact phaseLost_all_stopped _
    · exact ⟨_, calm_firingTurn m order _, firingTurn_monitor m order _, h⟩
  let x := (v.coastLost.raise (.sync .lost none)).mapMonitor Monitor.excursionCleared
  let y := x.forAll Index.all (fun b t => t.phaseLost b)
  have hlost : v.syncTurn = y :=
    syncTurn_of_limit v (by rw [hcalm.sync]; exact hstate) (by
      rw [hcalm.sync, hcalm.settings]
      exact hlimit)
  have hy : (s.runFor d).turnReached o.shares = y := hreached.trans hlost
  have hon : OnBridges x y := onBridges_phaseLost_all x
  have hxsync : x.sync =
      { m.sync with
        coastTurns := m.sync.coastTurns + 1, state := .lost, unanchored := true, previous := none,
        window := none } := by
    change v.coastLost.sync = _
    unfold State.coastLost
    rw [State.mapSync_sync, hcalm.sync]
  have hsync := hon.sync.trans hxsync
  have hsteady : Steady (s.runFor d) y := hy ▸ steady_turnReached (s.runFor d) o.shares
  have ht := taken_settle y o
  have hturn : exec (.turnBoundary o) s = .next (y.settle o) := by
    rw [exec_turnBoundary, take_of_running s o _ hrun, htake, hy]
  have hrow : exec (.coastLimitLost o) s = .next (y.settle o) := by
    rw [exec_coastLimitLost, take_of_running s o _ hrun, takenIf_of_happened, htake, hy]
    rw [htake, hy, syncGoes, hstate, hsync]
    rfl
  have helapsed : (y.settle o).elapsed = (s.runFor d).elapsed := ht.elapsed.trans hsteady.elapsed
  refine ⟨_, hrow, hturn, helapsed, ?phase, ?sync, fun l => ht.flags l 0 (hon.flags l 0 ?flag), ?monitor,
    fun b => ?stopped, ht.scanner.trans hsteady.scanner,
    frameKept_settle (s := s.runFor d) hsteady o⟩
  case phase =>
    rw [ht.phase]
    unfold State.phase Sync.phaseAt
    rw [if_pos (by simp [hsync])]
  case sync =>
    rw [helapsed, ht.sync, hsync]
    rfl
  case flag => exact raise_flagged _ _ l
  case monitor =>
    rw [ht.monitor, hon.monitor]
    change v.monitor.excursionCleared = _
    rw [hmon]
    rfl
  case stopped =>
    unfold State.bridgeState
    rw [ht.bridges]
    exact phaseLost_all_stopped x b

/-! ### RETARD_TIMEOUT -/

/-- A trip latched for a cause, from an empty set, has raised it. -/
theorem causeRaised_of_showsTrip {s t : State} {c : TripCause} (hs : s.trip.causes = 0)
    (ht : t.showsTrip c) : causeRaised c s t = true := by
  obtain ⟨-, -, hcauses, -⟩ := ht
  have hzero : hasBit (0 : CauseSet) c.bit = false := by cases c <;> decide
  unfold causeRaised
  rw [hs, hcauses, hasBit_addBit_cause, hzero]
  rfl

/-- At the limit the firing unit's share is the bridges' turns and then the latch. -/
theorem firingTurn_of_limit (s : State) (k : Nat) (exempt : Index → Bool) (b : Index)
    (hs : s.bridgeState b = .retarding)
    (hl : s.settings.retardLimit ≤ (s.bridges.get b).retardTurns + 1) (ht : s.trip.latched = false) :
    s.firingTurn (bridgeOrder k) exempt =
      (s.turned (bridgeOrder k) exempt).latchTrip .retardTimeout := by
  have hon := onBridges_turned s (bridgeOrder k) exempt
  have hb : (s.turned (bridgeOrder k) exempt).bridges.get b =
      { s.bridges.get b with retardTurns := (s.bridges.get b).retardTurns + 1 } := by
    rw [(turned_bridge s k exempt b).1, bridgeTurn_of_retarding s b _ hs, countRetard_bridge]
  rw [firingTurn_eq]
  obtain ⟨h, -⟩ | ⟨-, hnone⟩ :=
    forAll_timeRetard (s.turned (bridgeOrder k) exempt) (bridgeOrder k) (by rw [hon.trip]; exact ht)
  · exact h
  · refine absurd ⟨?_, ?_⟩ (hnone b (mem_bridgeOrder k b))
    · unfold State.bridgeState
      rw [hb]
      exact hs
    · rw [hb, hon.settings]
      exact hl

/-- Settles O17: every bridge has counted before the latch, which leaves the counts. -/
theorem retardTimeoutTrips : Obligations.RetardTimeoutTrips := by
  intro o s b ⟨hrun, hset⟩ hphase hcoast hb hlimit hlatch hcauses
  obtain ⟨d, hd⟩ := runToTurn_eq s
  have htake := takeTurn_of_phase s o.shares hphase
  rw [hd] at htake ⊢
  let m := (s.runFor d).turnMarked
  let k := o.shares / 2
  obtain ⟨y, hreached⟩ : ∃ y, (s.runFor d).turnReached o.shares = y := ⟨_, rfl⟩
  have hsteady : Steady (s.runFor d) y := hreached ▸ steady_turnReached (s.runFor d) o.shares
  rw [hreached] at htake
  obtain ⟨w, hwb, hwe, hwm, hy⟩ : ∃ w : State, (∀ c, s.bridgeState c = .retarding →
        (w.bridges.get c).retardTurns = (s.bridges.get c).retardTurns + 1) ∧
      w.elapsed = (s.runFor d).elapsed ∧ w.monitor = s.monitor ∧
      ((y = w.latchTrip .retardTimeout) ∨ y = (w.latchTrip .retardTimeout).coastCounted) := by
    have hcount : ∀ v : State, v.bridges = s.bridges → ∀ c, s.bridgeState c = .retarding →
        ((v.turned (bridgeOrder k) (fun _ => false)).bridges.get c).retardTurns =
          (s.bridges.get c).retardTurns + 1 := fun v hv c hc => by
      have hvc : v.bridgeState c = .retarding := by
        unfold State.bridgeState
        rw [hv]
        exact hc
      rw [(turned_bridge v k _ c).1, bridgeTurn_of_retarding v c _ hvc, countRetard_bridge, hv]
    obtain h | h := turnReached_either (s.runFor d) o.shares
    · have hon := onBridges_turned m.coastCounted (bridgeOrder k) (fun _ => false)
      refine ⟨_, hcount m.coastCounted rfl, hon.elapsed, hon.monitor, .inl ?_⟩
      rw [← hreached, h, syncTurn_of_coastsOn (s.runFor d).turnMarked hcoast]
      exact firingTurn_of_limit m.coastCounted k _ b hb hlimit hlatch
    · have hon := onBridges_turned m (bridgeOrder k) (fun _ => false)
      refine ⟨_, hcount m rfl, hon.elapsed, hon.monitor, .inr ?_⟩
      have hf : m.firingTurn (bridgeOrder k) (fun _ => false) =
          (m.turned (bridgeOrder k) (fun _ => false)).latchTrip .retardTimeout :=
        firingTurn_of_limit m k _ b hb hlimit hlatch
      have hcalm := calm_firingTurn m (bridgeOrder k) (fun _ => false)
      rw [hf] at hcalm
      refine hreached.symm.trans (h.trans ((congrArg State.syncTurn hf).trans (syncTurn_of_coastsOn _ ?_)))
      unfold State.coastsOn
      rw [hcalm.sync, hcalm.settings]
      exact hcoast
  obtain ⟨htrip, hbr, hchan, hmon, hflags⟩ : y.trip = (w.latchTrip .retardTimeout).trip ∧
      y.bridges = (w.latchTrip .retardTimeout).bridges ∧
      y.channels = (w.latchTrip .retardTimeout).channels ∧
      y.monitor = (w.latchTrip .retardTimeout).monitor ∧
      y.links = (w.latchTrip .retardTimeout).links := by
    generalize w.latchTrip .retardTimeout = z at hy
    obtain rfl | rfl := hy
    · exact ⟨rfl, rfl, rfl, rfl, rfl⟩
    · exact ⟨rfl, rfl, rfl, rfl, rfl⟩
  have ht := taken_settle y o
  have hturn : exec (.turnBoundary o) s = .next (y.settle o) := by
    rw [exec_turnBoundary, take_of_running s o _ hrun, htake]
  have hraised : causeRaised .retardTimeout s y = true :=
    causeRaised_of_showsTrip hcauses
      (showsTrip_of_eq (latchTrip_showsTrip w .retardTimeout) htrip hbr hchan)
  have hrow : exec (.retardTimeout o) s = .next (y.settle o) := by
    rw [exec_retardTimeout, take_of_running s o _ hrun, takenIf_of_happened, htake]
    rw [htake]
    exact hraised
  have helapsed : (y.settle o).elapsed = (s.runFor d).elapsed := ht.elapsed.trans hsteady.elapsed
  refine ⟨_, hrow, hturn,
    showsTrip_of_eq (latchTrip_showsTrip w .retardTimeout) (ht.trip.trans htrip) (ht.bridges.trans hbr)
      (ht.channels.trans hchan), ?tick, fun l => ht.flags l 5 ?flag, fun c hc => ?count, helapsed,
    ht.scanner.trans hsteady.scanner, ht.monitor.trans (hmon.trans ((latchTrip_monitor w _).trans hwm)),
    frameKept_settle (s := s.runFor d) hsteady o⟩
  case tick =>
    rw [ht.trip, htrip, latchTrip_trip]
    unfold State.counter
    rw [hwe, helapsed]
  case flag =>
    unfold State.flagged
    rw [hflags]
    exact latchTrip_flagged w .retardTimeout l
  case count =>
    rw [ht.bridges, hbr, latchTrip_bridge]
    exact hwb c hc

end Sys2Proof.Machine
end

section
/-! PROOF. The steps an arrival makes (R21, R32, R36, R37, R79, R96 to R98): the correction of a good
arrival in LOCKED and the re-anchor of COAST. -/

namespace Sys2Proof.Machine

/-! ### Firings that a correction step brings -/

/-- Bridge `b` and its regulator stand in `t` as they do in `s`. -/
def SameAt (b : Index) (s t : State) : Prop :=
  t.bridges.get b = s.bridges.get b ∧ t.regulators.get b = s.regulators.get b

theorem SameAt.trans {b : Index} {s t u : State} (h : SameAt b s t) (k : SameAt b t u) : SameAt b s u :=
  ⟨k.1.trans h.1, k.2.trans h.2⟩

theorem OnBridges.beside {b : Index} {s t : State} (h : OnBridges s t) (hb : SameAt b s t) :
    BesideBridge b s t :=
  ⟨h.toCalm, h.monitor, h.channels, h.trip, h.recorder, hb.1, hb.2, h.flags⟩

theorem bridgeState_of_get {b : Index} {s t : State} (h : t.bridges.get b = s.bridges.get b) :
    t.bridgeState b = s.bridgeState b := congrArg Bridge.state h

theorem slew_of_settings {s v : State} (h : v.settings = s.settings) (x y : Nat) :
    v.slew x y = s.slew x y := by
  unfold State.slew
  rw [h]

theorem firedBridge_of_beside {b : Index} {s v : State} (hv : BesideBridge b s v) (n : Scheduled)
    (alpha : Nat) : v.firedBridge b n alpha = s.firedBridge b n alpha := by
  unfold State.firedBridge State.newPulse State.scheduleAt
  rw [hv.bridge, hv.counter, hv.settings]

theorem regulate_of_beside {b : Index} {s v : State} (hv : BesideBridge b s v) :
    v.regulate b = s.regulate b :=
  regulate_congr hv.regulator hv.settings hv.scanner (by rw [hv.channels]) hv.monitor hv.state

/-- The regulator of a bridge that a state sets RUNNING. -/
theorem regulate_started {b : Index} {s v : State} (hv : BesideBridge b s v) (r r' : Bridge)
    (h : r.state = .running) (h' : r'.state = .running) :
    ({ v with bridges := v.bridges.set b r } : State).regulate b =
      ({ s with bridges := s.bridges.set b r' } : State).regulate b :=
  regulate_congr hv.regulator hv.settings hv.scanner (by exact congrArg (·.get b) hv.channels)
    hv.monitor (by simp [State.bridgeState, h, h'])

theorem fire_local_running {b : Index} {s v : State} (hv : BesideBridge b s v) (n : Scheduled)
    (h : s.bridgeState b = .running) : SameAt b (s.fire b n) (v.fire b n) := by
  rw [fire_of_running s b n h, fire_of_running v b n (hv.state.trans h)]
  constructor
  all_goals simp only [Four.get_set_self, regulate_of_beside hv, slew_of_settings hv.settings,
    firedBridge_of_beside hv, hv.settings]

theorem fire_local_deblocking {b : Index} {s v : State} (hv : BesideBridge b s v) (n : Scheduled)
    (h : s.bridgeState b = .deblocking) : SameAt b (s.fire b n) (v.fire b n) := by
  rw [fire_of_deblocking s b n h, fire_of_deblocking v b n (hv.state.trans h)]
  have hreg := regulate_started hv { v.bridges.get b with state := .running }
    { s.bridges.get b with state := .running } rfl rfl
  dsimp only at hreg ⊢
  constructor
  all_goals
    simp only [State.raise_bridges, State.raise_regulators, Four.get_set_self]
    rw [hreg, slew_of_settings hv.settings, hv.settings]
  rw [firedBridge_of_beside hv]

theorem fire_local_retarding {b : Index} {s v : State} (hv : BesideBridge b s v) (n : Scheduled)
    (h : s.bridgeState b = .retarding) : SameAt b (s.fire b n) (v.fire b n) := by
  rw [fire_of_retarding s b n h, fire_of_retarding v b n (hv.state.trans h)]
  have hreg : v.regulateRetard b = s.regulateRetard b := by
    unfold State.regulateRetard
    rw [hv.regulator, hv.scanner]
  dsimp only
  rw [hreg, slew_of_settings hv.settings, hv.settings, firedBridge_of_beside hv]
  split_ifs
  · exact ⟨by simp only [blockBridge_bridge, Four.get_set_self], by simp [State.blockBridge]⟩
  · exact ⟨by simp only [Four.get_set_self], by simp only [Four.get_set_self]⟩

theorem dueReached_local {b : Index} {s v : State} (hv : BesideBridge b s v) :
    SameAt b (s.dueReached b) (v.dueReached b) := by
  have hsame : SameAt b s v := ⟨hv.bridge, hv.regulator⟩
  unfold State.dueReached
  rw [hv.bridge, hv.state, hv.monitor]
  cases (s.bridges.get b).next with
  | none => exact hsame
  | some n =>
    dsimp only
    cases hs : s.bridgeState b
    case running => exact fire_local_running hv n hs
    case retarding => exact fire_local_retarding hv n hs
    case deblocking =>
      dsimp only
      split_ifs
      · exact blockBridge_local hv .abandoned
      · exact fire_local_deblocking hv n hs
    all_goals exact hsame

theorem local_correctionFiring (old new : Nat) : Local (fun b s => s.correctionFiring b old new) := by
  intro b s v hv
  have hawait : v.awaitsDue b = s.awaitsDue b := by
    unfold State.awaitsDue
    rw [hv.bridge, hv.state]
  dsimp only
  unfold State.correctionFiring
  rw [hawait]
  cases s.awaitsDue b with
  | none => exact ⟨hv.bridge, hv.regulator⟩
  | some n =>
    dsimp only
    split_ifs
    · exact dueReached_local hv
    · exact ⟨hv.bridge, hv.regulator⟩

/-! ### What a correction fires, by the bridge's state -/

/-- A bridge that waits for a due angle. -/
def State.awaiting (s : State) (b : Index) : Prop :=
  s.bridgeState b = .deblocking ∨ s.bridgeState b = .running ∨ s.bridgeState b = .retarding

theorem awaitsDue_of_awaiting {s : State} {b : Index} (h : s.awaiting b) :
    s.awaitsDue b = (s.bridges.get b).next := by
  unfold State.awaitsDue
  obtain h | h | h := h
  all_goals rw [h]

theorem correctionFiring_of_swept {s : State} {b : Index} {n : Scheduled} {old new : Nat}
    (h : s.awaiting b) (hn : (s.bridges.get b).next = some n) (hs : swept old new n.due = true) :
    s.correctionFiring b old new = s.dueReached b := by
  unfold State.correctionFiring
  rw [awaitsDue_of_awaiting h, hn]
  exact if_pos hs

theorem next_of_awaitsDue {s : State} {b : Index} {n : Scheduled} (h : s.awaitsDue b = some n) :
    (s.bridges.get b).next = some n := by
  unfold State.awaitsDue at h
  split at h
  case h_1 | h_2 | h_3 => exact h
  all_goals exact absurd h (by simp)

theorem correctionFiring_of_unswept {s : State} {b : Index} {old new : Nat}
    (hs : ∀ n, (s.bridges.get b).next = some n → swept old new n.due = false) :
    s.correctionFiring b old new = s := by
  unfold State.correctionFiring
  cases h : s.awaitsDue b with
  | none => rfl
  | some n => exact if_neg (by rw [hs n (next_of_awaitsDue h)]; exact Bool.false_ne_true)

theorem correctionFiring_of_idle {s : State} {b : Index} {old new : Nat}
    (h : s.bridgeState b = .blocked ∨ s.bridgeState b = .held ∨ s.bridgeState b = .lockout) :
    s.correctionFiring b old new = s := by
  have hnone : s.awaitsDue b = none := by
    unfold State.awaitsDue
    obtain h | h | h := h
    all_goals rw [h]
  unfold State.correctionFiring
  rw [hnone]

theorem dueReached_of_running {s : State} {b : Index} {n : Scheduled} (h : s.bridgeState b = .running)
    (hn : (s.bridges.get b).next = some n) : s.dueReached b = s.fire b n := by
  unfold State.dueReached
  rw [hn, h]

theorem dueReached_of_retarding {s : State} {b : Index} {n : Scheduled}
    (h : s.bridgeState b = .retarding) (hn : (s.bridges.get b).next = some n) :
    s.dueReached b = s.fire b n := by
  unfold State.dueReached
  rw [hn, h]

theorem dueReached_of_deblocking {s : State} {b : Index} {n : Scheduled}
    (h : s.bridgeState b = .deblocking) (hn : (s.bridges.get b).next = some n) :
    s.dueReached b = if s.monitor.holdRequest then s.blockBridge b .abandoned else s.fire b n := by
  unfold State.dueReached
  rw [hn, h]

/-- A firing of an awaiting bridge shows the thyristor fired, and leaves no bridge to count a turn that did
not count one before. -/
theorem fire_shows {s : State} {b : Index} {n : Scheduled} (h : s.awaiting b) :
    ((s.fire b n).bridges.get b).pulse = some (s.newPulse n.thyristor) ∧
      ((s.fire b n).bridges.get b).lastFired = some ⟨n.thyristor, n.alpha⟩ ∧
      ((s.fire b n).bridges.get b).heldCauses = (s.bridges.get b).heldCauses ∧
      ((s.fire b n).bridges.get b).retardTurns = (s.bridges.get b).retardTurns ∧
      (s.fire b n).bridgeState b ≠ .held ∧
      (s.bridgeState b ≠ .retarding → (s.fire b n).bridgeState b = .running) := by
  obtain h | h | h := h
  · rw [fire_of_deblocking s b n h]
    simp [State.bridgeState, State.firedBridge]
  · rw [fire_of_running s b n h]
    unfold State.bridgeState at h ⊢
    simp [State.firedBridge, h]
  · have hr : s.bridgeState b = .retarding := h
    rw [fire_of_retarding s b n h]
    unfold State.bridgeState at h
    dsimp only
    split_ifs
    · simp [blockBridge_bridge, State.bridgeState, State.firedBridge, h]
    · simp [State.bridgeState, State.firedBridge, h]

theorem fire_triggers {s : State} {b : Index} (n : Scheduled) (h : s.awaiting b) :
    (s.fire b n).triggers = s.triggers := by
  obtain h | h | h := h
  · rw [fire_of_deblocking s b n h]
    rfl
  · rw [fire_of_running s b n h]
  · rw [fire_of_retarding s b n h]
    dsimp only
    split_ifs
    · rfl
    · rfl

theorem dueReached_triggers (s : State) (b : Index) : (s.dueReached b).triggers = s.triggers := by
  cases hn : (s.bridges.get b).next with
  | none =>
    unfold State.dueReached
    rw [hn]
  | some n =>
    cases hs : s.bridgeState b
    case running => rw [dueReached_of_running hs hn, fire_triggers n (.inr (.inl hs))]
    case retarding => rw [dueReached_of_retarding hs hn, fire_triggers n (.inr (.inr hs))]
    case deblocking =>
      rw [dueReached_of_deblocking hs hn]
      split_ifs
      · rfl
      · exact fire_triggers n (.inl hs)
    all_goals
      unfold State.dueReached
      rw [hn, hs]

theorem correctionFiring_triggers (s : State) (b : Index) (old new : Nat) :
    (s.correctionFiring b old new).triggers = s.triggers := by
  unfold State.correctionFiring
  split
  · rfl
  · split
    · exact dueReached_triggers s b
    · rfl

/-- What a correction leaves RETARDING was so before, with the turns it had. -/
theorem correctionFiring_retarding (s : State) (b : Index) (old new : Nat)
    (h : (s.correctionFiring b old new).bridgeState b = .retarding) :
    s.bridgeState b = .retarding ∧
      ((s.correctionFiring b old new).bridges.get b).retardTurns = (s.bridges.get b).retardTurns := by
  by_cases hs : s.awaiting b ∧ ∃ n, (s.bridges.get b).next = some n ∧ swept old new n.due = true
  · obtain ⟨hawait, n, hn, hswept⟩ := hs
    rw [correctionFiring_of_swept hawait hn hswept] at h ⊢
    obtain ⟨-, -, -, hturns, -, hrun⟩ := fire_shows (n := n) hawait
    obtain hd | hr | hr := hawait
    · exfalso
      rw [dueReached_of_deblocking hd hn] at h
      split_ifs at h
      · unfold State.bridgeState at h
        rw [blockBridge_bridge] at h
        exact BridgeState.noConfusion h
      · rw [hrun (by rw [hd]; exact BridgeState.noConfusion)] at h
        exact BridgeState.noConfusion h
    · exfalso
      rw [dueReached_of_running hr hn, hrun (by rw [hr]; exact BridgeState.noConfusion)] at h
      exact BridgeState.noConfusion h
    · exact ⟨hr, by rw [dueReached_of_retarding hr hn, hturns]⟩
  · have hfix : s.correctionFiring b old new = s := by
      by_cases hawait : s.awaiting b
      · refine correctionFiring_of_unswept fun n hn => ?_
        by_contra hne
        exact hs ⟨hawait, n, hn, by simpa using hne⟩
      · refine correctionFiring_of_idle ?_
        cases hst : s.bridgeState b
        case blocked => exact .inl rfl
        case held => exact .inr (.inl rfl)
        case lockout => exact .inr (.inr rfl)
        case deblocking => exact absurd (.inl hst) hawait
        case running => exact absurd (.inr (.inl hst)) hawait
        case retarding => exact absurd (.inr (.inr hst)) hawait
    rw [hfix] at h ⊢
    exact ⟨h, rfl⟩

/-- A RUNNING bridge runs on through a correction. -/
theorem correctionFiring_keeps_running {s : State} {b : Index} {old new : Nat}
    (h : s.bridgeState b = .running) :
    (s.correctionFiring b old new).bridgeState b = .running ∧
      ((s.correctionFiring b old new).bridges.get b).heldCauses = (s.bridges.get b).heldCauses := by
  by_cases hs : ∃ n, (s.bridges.get b).next = some n ∧ swept old new n.due = true
  · obtain ⟨n, hn, hswept⟩ := hs
    rw [correctionFiring_of_swept (.inr (.inl h)) hn hswept, dueReached_of_running h hn]
    obtain ⟨-, -, hcauses, -, -, hrun⟩ := fire_shows (n := n) (.inr (.inl h))
    exact ⟨hrun (by rw [h]; exact BridgeState.noConfusion), hcauses⟩
  · rw [correctionFiring_of_unswept fun n hn => by
      by_contra hne
      exact hs ⟨n, hn, by simpa using hne⟩]
    exact ⟨h, rfl⟩

/-! ### The two shares of a correction step -/

/-- The firings of a correction step. -/
def State.fired (s : State) (order : List Index) (old new : Nat) : State :=
  s.forAll order (fun b t => t.correctionFiring b old new)

theorem onBridges_fired (s : State) (order : List Index) (old new : Nat) :
    OnBridges s (s.fired order old new) :=
  onBridges_forAll _ _ _ fun b t => onBridge_correctionFiring t b old new

theorem fired_triggers (s : State) (order : List Index) (old new : Nat) :
    (s.fired order old new).triggers = s.triggers :=
  forAll_keeps State.triggers _ _ _ fun b t => correctionFiring_triggers t b old new

theorem fired_same (s : State) (k old new : Nat) (b : Index) :
    SameAt b (s.correctionFiring b old new) (s.fired (bridgeOrder k) old new) :=
  forAll_local (local_correctionFiring old new) (fun b t => onBridge_correctionFiring t b old new) s _ b
    (bridgeOrder_nodup k) (mem_bridgeOrder k b)

theorem fired_turnsBelow (s : State) (k old new : Nat) (h : s.turnsBelow) :
    (s.fired (bridgeOrder k) old new).turnsBelow := by
  intro b hb
  have hsame := (fired_same s k old new b).1
  rw [bridgeState_of_get hsame] at hb
  obtain ⟨hr, hturns⟩ := correctionFiring_retarding s b old new hb
  rw [hsame, hturns, (onBridges_fired s _ old new).settings]
  exact h b hr

/-- A turn boundary where the step carries one, and nothing otherwise. -/
def State.carried (s : State) (c : Bool) (order : List Index) : State :=
  if c then s.turned order (fun _ => false) else s

theorem onBridges_carried (s : State) (c : Bool) (order : List Index) : OnBridges s (s.carried c order) := by
  unfold State.carried
  split
  · exact onBridges_turned s order _
  · exact OnBridges.refl s

theorem carried_triggers (s : State) (c : Bool) (order : List Index) :
    (s.carried c order).triggers = s.triggers := by
  unfold State.carried
  split
  · exact turned_triggers s order _
  · rfl

/-- One bridge's turn, where the step carries one. -/
def State.carriedAt (s : State) (c : Bool) (b : Index) : State := if c then s.bridgeTurn b false else s

theorem carried_same (s : State) (c : Bool) (k : Nat) (b : Index) :
    SameAt b (s.carriedAt c b) (s.carried c (bridgeOrder k)) := by
  unfold State.carried State.carriedAt
  split
  · exact turned_bridge s k _ b
  · exact ⟨rfl, rfl⟩

theorem turnShare_of_below (s : State) (k old new : Nat) (d : Int) (h : s.turnsBelow) :
    s.stepShare (bridgeOrder k) old new d .turn = s.carried (carriesTurn old new d) (bridgeOrder k) := by
  unfold State.stepShare State.carried
  rw [firingTurn_of_below s k _ h]

theorem firingShare_of_forward (s : State) (order : List Index) (old new : Nat) (d : Int) (h : 0 < d) :
    s.stepShare order old new d .firings = s.fired order old new := if_pos h

/-- A step that does not go forward fires nothing and carries no turn. -/
theorem correctionStep_of_backward (s : State) (k old new : Nat) (h : signedAngle new old ≤ 0) :
    s.correctionStep k old new = s := by
  have hshare : ∀ x, s.stepShare (bridgeOrder (k / 2)) old new (signedAngle new old) x = s := fun x => by
    have hc : carriesTurn old new (signedAngle new old) = false := by
      unfold carriesTurn
      rw [decide_eq_false (by omega), Bool.false_and]
    cases x with
    | firings => exact if_neg (by omega)
    | turn => exact if_neg (by rw [hc]; exact Bool.false_ne_true)
  have hfold : ∀ l : List StepShare, l.foldl
      (fun t x => t.stepShare (bridgeOrder (k / 2)) old new (signedAngle new old) x) s = s := fun l => by
    induction l with
    | nil => rfl
    | cons x rest ih =>
      rw [List.foldl_cons, hshare x]
      exact ih
  exact hfold _

theorem correctionStep_either (s : State) (k old new : Nat) :
    let order := bridgeOrder (k / 2)
    let d := signedAngle new old
    s.correctionStep k old new =
        (s.stepShare order old new d .firings).stepShare order old new d .turn ∨
      s.correctionStep k old new =
        (s.stepShare order old new d .turn).stepShare order old new d .firings := by
  obtain h | h : k % 2 = 0 ∨ k % 2 = 1 := by omega
  · exact .inl (by unfold State.correctionStep; rw [h]; rfl)
  · exact .inr (by unfold State.correctionStep; rw [h]; rfl)

/-- A forward step short of RETARD_LIMIT, as one bridge sees it: the firing and the turn, in either
order. -/
theorem correctionStep_forward (s : State) (k old new : Nat) (hd : 0 < signedAngle new old)
    (h : s.turnsBelow) :
    OnBridges s (s.correctionStep k old new) ∧ (s.correctionStep k old new).triggers = s.triggers ∧
      ∀ b, let c := carriesTurn old new (signedAngle new old)
        (∃ x, OnBridges s x ∧ SameAt b (s.correctionFiring b old new) x ∧
          SameAt b (x.carriedAt c b) (s.correctionStep k old new)) ∨
        (∃ x, OnBridges s x ∧ SameAt b (s.carriedAt c b) x ∧
          SameAt b (x.correctionFiring b old new) (s.correctionStep k old new)) := by
  let order := bridgeOrder (k / 2)
  let c := carriesTurn old new (signedAngle new old)
  obtain hstep | hstep := correctionStep_either s k old new
  · let x := s.fired order old new
    have hon := onBridges_fired s order old new
    rw [hstep, firingShare_of_forward s _ old new _ hd,
      turnShare_of_below _ _ old new _ (fired_turnsBelow s _ old new h)]
    exact ⟨hon.trans (onBridges_carried x c order), (carried_triggers x c order).trans
      (fired_triggers s order old new), fun b => .inl ⟨x, hon, fired_same s _ old new b,
        carried_same x c _ b⟩⟩
  · let x := s.carried c order
    have hon := onBridges_carried s c order
    rw [hstep, turnShare_of_below s _ old new _ h, firingShare_of_forward _ _ old new _ hd]
    exact ⟨hon.trans (onBridges_fired x order old new), (fired_triggers x order old new).trans
      (carried_triggers s c order), fun b => .inr ⟨x, hon, carried_same s c _ b,
        fired_same x _ old new b⟩⟩

theorem carriedAt_of_other {s : State} {b : Index} (c : Bool) (h : s.bridgeState b ≠ .retarding)
    (h' : s.bridgeState b ≠ .held) : s.carriedAt c b = s := by
  unfold State.carriedAt
  rw [bridgeTurn_of_other s b false h h', ite_self]

theorem turnless_of {s : State} {b : Index}
    (h : s.bridgeState b = .running ∨ s.bridgeState b = .deblocking ∨ s.bridgeState b = .blocked ∨
      s.bridgeState b = .lockout) :
    s.bridgeState b ≠ .retarding ∧ s.bridgeState b ≠ .held := by
  obtain h | h | h | h := h
  all_goals
    rw [h]
    exact ⟨BridgeState.noConfusion, BridgeState.noConfusion⟩

/-- A bridge that no turn boundary concerns, before its firing or after it, sees the firing alone. -/
theorem correctionStep_of_turnless {s : State} {k old new : Nat} {b : Index}
    (hd : 0 < signedAngle new old) (h : s.turnsBelow) (hr : s.bridgeState b ≠ .retarding)
    (hh : s.bridgeState b ≠ .held)
    (hr' : (s.correctionFiring b old new).bridgeState b ≠ .retarding)
    (hh' : (s.correctionFiring b old new).bridgeState b ≠ .held) :
    SameAt b (s.correctionFiring b old new) (s.correctionStep k old new) := by
  obtain ⟨-, -, hat⟩ := correctionStep_forward s k old new hd h
  obtain ⟨x, -, hx, ht⟩ | ⟨x, hon, hx, ht⟩ := hat b
  · have hstate := bridgeState_of_get hx.1
    rw [carriedAt_of_other _ (hstate ▸ hr') (hstate ▸ hh')] at ht
    exact hx.trans ht
  · rw [carriedAt_of_other _ hr hh] at hx
    exact SameAt.trans (local_correctionFiring old new b s x (hon.beside hx)) ht

/-- A RETARDING bridge that the step does not fire counts the turn alone. -/
theorem correctionStep_of_retarding {s : State} {k old new : Nat} {b : Index}
    (hd : 0 < signedAngle new old) (h : s.turnsBelow) (hs : s.bridgeState b = .retarding)
    (hn : ∀ n, (s.bridges.get b).next = some n → swept old new n.due = false) :
    (s.correctionStep k old new).bridges.get b =
      { s.bridges.get b with
        retardTurns :=
          (s.bridges.get b).retardTurns +
            (if carriesTurn old new (signedAngle new old) then 1 else 0) } := by
  have hcarried : ∀ x : State, x.bridges.get b = s.bridges.get b →
      (x.carriedAt (carriesTurn old new (signedAngle new old)) b).bridges.get b =
        { s.bridges.get b with
          retardTurns :=
            (s.bridges.get b).retardTurns +
              (if carriesTurn old new (signedAngle new old) then 1 else 0) } := fun x hx => by
    unfold State.carriedAt
    split_ifs
    · rw [bridgeTurn_of_retarding x b false ((bridgeState_of_get hx).trans hs), countRetard_bridge, hx]
    · exact hx
  obtain ⟨-, -, hat⟩ := correctionStep_forward s k old new hd h
  obtain ⟨x, -, hx, ht⟩ | ⟨x, -, hx, ht⟩ := hat b
  · rw [correctionFiring_of_unswept hn] at hx
    exact ht.1.trans (hcarried x hx.1)
  · have hxb := hx.1.trans (hcarried s rfl)
    rw [correctionFiring_of_unswept (by rw [hxb]; exact hn)] at ht
    exact ht.1.trans hxb

/-- A RETARDING bridge that the step fires shows the thyristor fired. -/
theorem correctionStep_of_retarding_fired {s : State} {k old new : Nat} {b : Index} {n : Scheduled}
    (hd : 0 < signedAngle new old) (h : s.turnsBelow) (hs : s.bridgeState b = .retarding)
    (hn : (s.bridges.get b).next = some n) (hswept : swept old new n.due = true) :
    ((s.correctionStep k old new).bridges.get b).pulse = some (s.newPulse n.thyristor) ∧
      ((s.correctionStep k old new).bridges.get b).lastFired = some ⟨n.thyristor, n.alpha⟩ := by
  have hcarried : ∀ x : State, x.bridgeState b ≠ .held →
      ((x.carriedAt (carriesTurn old new (signedAngle new old)) b).bridges.get b).pulse =
          (x.bridges.get b).pulse ∧
        ((x.carriedAt (carriesTurn old new (signedAngle new old)) b).bridges.get b).lastFired =
          (x.bridges.get b).lastFired ∧
        ((x.carriedAt (carriesTurn old new (signedAngle new old)) b).bridges.get b).next =
          (x.bridges.get b).next ∧
        (x.carriedAt (carriesTurn old new (signedAngle new old)) b).bridgeState b =
          x.bridgeState b := fun x hx => by
    unfold State.carriedAt
    split_ifs
    · by_cases hr : x.bridgeState b = .retarding
      · unfold State.bridgeState
        rw [bridgeTurn_of_retarding x b false hr, countRetard_bridge]
        exact ⟨rfl, rfl, rfl, rfl⟩
      · rw [bridgeTurn_of_other x b false hr hx]
        exact ⟨rfl, rfl, rfl, rfl⟩
    · exact ⟨rfl, rfl, rfl, rfl⟩
  have hfired : ∀ x : State, x.bridgeState b = .retarding → (x.bridges.get b).next = some n →
      ((x.correctionFiring b old new).bridges.get b).pulse = some (x.newPulse n.thyristor) ∧
        ((x.correctionFiring b old new).bridges.get b).lastFired = some ⟨n.thyristor, n.alpha⟩ ∧
        (x.correctionFiring b old new).bridgeState b ≠ .held := fun x hx hxn => by
    rw [correctionFiring_of_swept (.inr (.inr hx)) hxn hswept, dueReached_of_retarding hx hxn]
    obtain ⟨hpulse, hlast, -, -, hheld, -⟩ := fire_shows (n := n) (.inr (.inr hx))
    exact ⟨hpulse, hlast, hheld⟩
  obtain ⟨-, -, hat⟩ := correctionStep_forward s k old new hd h
  obtain ⟨x, -, hx, ht⟩ | ⟨x, hon, hx, ht⟩ := hat b
  · obtain ⟨hpulse, hlast, hheld⟩ := hfired s hs hn
    obtain ⟨hp, hl, -, -⟩ := hcarried x (by rw [bridgeState_of_get hx.1]; exact hheld)
    rw [ht.1, hp, hl, hx.1]
    exact ⟨hpulse, hlast⟩
  · obtain ⟨-, -, hnext, hstate⟩ := hcarried s (by rw [hs]; exact BridgeState.noConfusion)
    obtain ⟨hpulse, hlast, -⟩ := hfired x (by rw [bridgeState_of_get hx.1, hstate, hs])
      (by rw [hx.1, hnext, hn])
    rw [ht.1, hpulse, hlast]
    unfold State.newPulse
    rw [hon.toCalm.counter, hon.settings]
    exact ⟨rfl, rfl⟩

/-- A HELD bridge sees the turn boundary, and where that is its last cause runs on from it. -/
theorem correctionStep_of_held {s : State} {k old new : Nat} {b : Index}
    (hd : 0 < signedAngle new old) (h : s.turnsBelow) (hs : s.bridgeState b = .held) :
    (carriesTurn old new (signedAngle new old) = true → (s.bridges.get b).heldCauses = ⟨true, false⟩ →
        (s.correctionStep k old new).bridgeState b = .running ∧
          ((s.correctionStep k old new).bridges.get b).heldCauses = ⟨false, false⟩) ∧
      (carriesTurn old new (signedAngle new old) = false →
        (s.correctionStep k old new).bridges.get b = s.bridges.get b) := by
  have hidle : ∀ x : State, x.bridges.get b = s.bridges.get b → x.correctionFiring b old new = x :=
    fun x hx => correctionFiring_of_idle (.inr (.inl ((bridgeState_of_get hx).trans hs)))
  have hresumed : ∀ x : State, x.bridges.get b = s.bridges.get b →
      (s.bridges.get b).heldCauses = ⟨true, false⟩ →
      (x.carriedAt true b).bridgeState b = .running ∧
        ((x.carriedAt true b).bridges.get b).heldCauses = ⟨false, false⟩ := fun x hx hc => by
    have hturn : x.carriedAt true b = x.resumeBridge b :=
      bridgeTurn_held_last x b ((bridgeState_of_get hx).trans hs) (by rw [hx]; exact hc)
    unfold State.bridgeState
    rw [hturn, resumeBridge_bridge]
    exact ⟨rfl, rfl⟩
  obtain ⟨-, -, hat⟩ := correctionStep_forward s k old new hd h
  refine ⟨fun hcarry hc => ?_, fun hcarry => ?_⟩
  all_goals
    have hb := hat b
    dsimp only at hb
    rw [hcarry] at hb
    obtain ⟨x, -, hx, ht⟩ | ⟨x, -, hx, ht⟩ := hb
  · rw [hidle s rfl] at hx
    obtain ⟨hstate, hcauses⟩ := hresumed x hx.1 hc
    exact ⟨(bridgeState_of_get ht.1).trans hstate, (congrArg Bridge.heldCauses ht.1).trans hcauses⟩
  · obtain ⟨hstate, hcauses⟩ := hresumed s rfl hc
    have hxs : x.bridgeState b = .running := (bridgeState_of_get hx.1).trans hstate
    have hxc : (x.bridges.get b).heldCauses = ⟨false, false⟩ :=
      (congrArg Bridge.heldCauses hx.1).trans hcauses
    obtain ⟨hts, htc⟩ := correctionFiring_keeps_running (old := old) (new := new) hxs
    exact ⟨(bridgeState_of_get ht.1).trans hts,
      (congrArg Bridge.heldCauses ht.1).trans (htc.trans hxc)⟩
  · rw [hidle s rfl] at hx
    exact ht.1.trans hx.1
  · rw [hidle x hx.1] at ht
    exact ht.1.trans hx.1

/-! ### LOCKED -/

theorem arrive_of_locked (s : State) (k : Nat) (a : Arrival) (h : s.sync.state = .locked) :
    s.arrive k a = s.arriveLocked k a := by
  unfold State.arrive
  rw [h]

/-- A stray arrival is no arrival of the expected crossing in its OPEN window (R33). -/
theorem arriveLocked_of_stray (s : State) (k : Nat) (a : Arrival)
    (h : ∀ w, s.sync.window = some w → ¬ (w.status = .opened ∧ a.crossing = w.expected)) :
    s.arriveLocked k a = s.mapSync (fun y => y.strayed a) := by
  unfold State.arriveLocked
  split
  case h_1 w θ hw hθ => exact if_neg (h w hw)
  case h_2 => rfl

/-- The synchroniser after a good arrival in LOCKED, with its turn mark. -/
def State.correctedBy (s : State) (a : Arrival) (θ : Nat) (w : Window) : State :=
  s.mapSync (fun y =>
    let z := y.corrected s.settings a θ w
    { z with turn := s.turnAfterStep (signedAngle z.anchorAngle θ) })

theorem arriveLocked_of_good (s : State) (k : Nat) (a : Arrival) (w : Window) (θ : Nat)
    (hw : s.sync.window = some w) (hθ : s.sync.phaseAt a.tick = some θ) (hopen : w.status = .opened)
    (hexp : a.crossing = w.expected) :
    s.arriveLocked k a =
      (s.correctedBy a θ w).correctionStep k θ (s.correctedBy a θ w).sync.anchorAngle := by
  unfold State.arriveLocked
  rw [hw, hθ]
  exact if_pos ⟨hopen, hexp⟩

/-- Settles O10: the correction is written to the synchroniser first; its step is then the bridges'. -/
theorem lockedArrivalsCorrectOrStray : Obligations.LockedArrivalsCorrectOrStray := by
  intro line rising wait o s ⟨hrun, hset⟩ hands hstate u a
  have hexec := exec_crossingEdge_of_arrival (rising := rising) (o := o) hrun hands
  refine ⟨fun w θ hw hθ hopen hexp => ?good, fun hstray => ?stray⟩
  case stray =>
    have harrive : u.arrive o.shares a = u.mapSync (fun y => y.strayed a) :=
      (arrive_of_locked u _ a hstate).trans (arriveLocked_of_stray u _ a hstray)
    rw [hexec, harrive, settle_of_settled _ o (by exact hset)]
    rfl
  case good =>
    intro e angle p step y
    let v : State := { u with sync := y }
    let z := v.correctionStep o.shares θ angle
    have hcorrected : u.correctedBy a θ w = v := rfl
    have harrive : u.arrive o.shares a = z := by
      rw [arrive_of_locked u _ a hstate, arriveLocked_of_good u _ a w θ hw hθ hopen hexp, hcorrected]
    have hcalm : Calm v z := calm_correctionStep v o.shares θ angle
    have ht := taken_settle z o
    refine ⟨_, by rw [hexec, harrive], ht.sync.trans hcalm.sync, ht.elapsed.trans hcalm.elapsed,
      ht.scanner.trans hcalm.scanner, frameKept_settle (s := v) hcalm.toSteady o, fun hback => ?_,
      fun hforward hbelow => ?_⟩
    · have hz : z = v := correctionStep_of_backward v o.shares θ angle hback
      rw [hz, settle_of_settled v o (by exact hset)]
    · intro v' swept' pulse
      have hbelow' : v.turnsBelow := hbelow
      have hcarry : carriesTurn θ angle step = swept' 0 := by
        unfold carriesTurn
        rw [decide_eq_true hforward, Bool.true_and]
        rfl
      obtain ⟨hon, htrig, -⟩ := correctionStep_forward v o.shares θ angle hforward hbelow'
      refine ⟨ht.monitor.trans hon.monitor, ht.channels.trans hon.channels, ht.trip.trans hon.trip,
        (ht.recorder (htrig.trans hset.2)).trans hon.recorder, fun b => ?_⟩
      rw [ht.bridges, ht.regulators, show (z.settle o).bridgeState b = z.bridgeState b by
        unfold State.bridgeState
        rw [ht.bridges]]
      have hsame : ∀ x, v.correctionFiring b θ angle = x → s.bridgeState b ≠ .retarding →
          s.bridgeState b ≠ .held → x.bridgeState b ≠ .retarding → x.bridgeState b ≠ .held →
          SameAt b x z := fun x hx hr hh hr' hh' => by
        rw [← hx] at hr' hh' ⊢
        exact correctionStep_of_turnless hforward hbelow' hr hh hr' hh'
      refine ⟨fun n hn hswept => ⟨fun hs => ?running, fun hs => ?pulsed, fun hs hhold => ?abandoned⟩,
        fun hnot => ⟨fun hs => ?unfired, fun hs => ?retards⟩, fun hs h0 hc => ?resumes,
        fun hs h0 => ?held, fun hs => ?idle⟩
      case running =>
        have hfire : v.correctionFiring b θ angle = v.fire b n :=
          (correctionFiring_of_swept (s := v) (.inr (.inl hs)) hn hswept).trans
            (dueReached_of_running hs hn)
        obtain ⟨-, -, -, -, hheld, hrun'⟩ := fire_shows (s := v) (n := n) (.inr (.inl hs))
        have hr : s.bridgeState b ≠ .retarding := by rw [hs]; exact BridgeState.noConfusion
        obtain ⟨hbridge, hreg⟩ := hsame _ hfire hr (by rw [hs]; exact BridgeState.noConfusion)
          (by rw [hrun' hr]; exact BridgeState.noConfusion) hheld
        rw [fire_of_running v b n hs] at hbridge hreg
        exact ⟨hbridge.trans (Four.get_set_self _ _ _), hreg.trans (Four.get_set_self _ _ _)⟩
      case pulsed =>
        obtain hs | ⟨hs, hhold⟩ := hs
        · exact correctionStep_of_retarding_fired hforward hbelow' hs hn hswept
        · have hfire : v.correctionFiring b θ angle = v.fire b n := by
            rw [correctionFiring_of_swept (s := v) (.inl hs) hn hswept,
              dueReached_of_deblocking (s := v) hs hn,
              show v.monitor.holdRequest = false from hhold, if_neg Bool.false_ne_true]
          obtain ⟨hpulse, hlast, -, -, hheld, hrun'⟩ := fire_shows (s := v) (n := n) (.inl hs)
          have hr : s.bridgeState b ≠ .retarding := by rw [hs]; exact BridgeState.noConfusion
          obtain ⟨hbridge, -⟩ := hsame _ hfire hr (by rw [hs]; exact BridgeState.noConfusion)
            (by rw [hrun' hr]; exact BridgeState.noConfusion) hheld
          rw [hbridge]
          exact ⟨hpulse, hlast⟩
      case abandoned =>
        have hfire : v.correctionFiring b θ angle = v.blockBridge b .abandoned := by
          rw [correctionFiring_of_swept (s := v) (.inl hs) hn hswept,
              dueReached_of_deblocking (s := v) hs hn,
            show v.monitor.holdRequest = true from hhold, if_pos rfl]
        have hblocked : (v.blockBridge b .abandoned).bridgeState b = .blocked := by
          unfold State.bridgeState
          rw [blockBridge_bridge]
        obtain ⟨hbridge, -⟩ := hsame _ hfire (by rw [hs]; exact BridgeState.noConfusion)
          (by rw [hs]; exact BridgeState.noConfusion) (by rw [hblocked]; exact BridgeState.noConfusion)
          (by rw [hblocked]; exact BridgeState.noConfusion)
        exact hbridge.trans (blockBridge_bridge _ _ _)
      case unfired =>
        obtain ⟨hr, hh⟩ := turnless_of (s := s) (b := b) (hs.elim .inl (.inr ∘ .inl))
        exact hsame v (correctionFiring_of_unswept hnot) hr hh hr hh
      case retards =>
        rw [correctionStep_of_retarding hforward hbelow' hs hnot, hcarry]
        rfl
      case resumes => exact (correctionStep_of_held hforward hbelow' hs).1 (hcarry.trans h0) hc
      case held => exact (correctionStep_of_held hforward hbelow' hs).2 (hcarry.trans h0)
      case idle =>
        obtain ⟨hr, hh⟩ := turnless_of (s := s) (b := b) (.inr (.inr hs))
        have hfix : v.correctionFiring b θ angle = v :=
          correctionFiring_of_idle (hs.imp_right Or.inr)
        exact (hsame v hfix hr hh hr hh).1

end Sys2Proof.Machine
end

section
/-! PROOF. The re-anchor of COAST (R36, R37, R96 to R98). -/

namespace Sys2Proof.Machine

/-! ### A re-anchor step, by the bridge's state -/

/-- The step goes beyond STEP_LIMIT. -/
def State.stepBeyond (s : State) (delta : Int) : Prop := (s.settings.stepLimit : Int) < |delta|

theorem reanchorStep_running_beyond {s : State} {b : Index} {old new : Nat} {delta : Int}
    (h : s.stepBeyond delta) (hs : s.bridgeState b = .running) :
    s.reanchorStep b old new delta = s.holdBridge b .step := by
  unfold State.reanchorStep
  rw [if_pos (by exact h), hs]

theorem reanchorStep_held_beyond {s : State} {b : Index} {old new : Nat} {delta : Int}
    (h : s.stepBeyond delta) (hs : s.bridgeState b = .held) :
    s.reanchorStep b old new delta =
      s.mapBridge b (fun r => { r with heldCauses := r.heldCauses.add .step }) := by
  unfold State.reanchorStep
  rw [if_pos (by exact h), hs]

theorem reanchorStep_retarding_beyond {s : State} {b : Index} {old new : Nat} {delta : Int}
    (h : s.stepBeyond delta) (hs : s.bridgeState b = .retarding) :
    s.reanchorStep b old new delta = s.blockBridge b .holdStop := by
  unfold State.reanchorStep
  rw [if_pos (by exact h), hs]

theorem reanchorStep_of_swept {s : State} {b : Index} {old new : Nat} {delta : Int} {n : Scheduled}
    (h : ¬ s.stepBeyond delta) (hd : 0 < delta) (hn : (s.bridges.get b).next = some n)
    (hswept : swept old new n.due = true) :
    s.reanchorStep b old new delta =
      match s.bridgeState b with
      | .running => s.holdBridge b .step
      | .retarding => s.blockBridge b .holdStop
      | .held | .blocked | .lockout | .deblocking => s := by
  unfold State.reanchorStep
  rw [if_neg (by exact h), if_pos hd, hn]
  exact if_pos hswept

theorem reanchorStep_of_unswept {s : State} {b : Index} {old new : Nat} {delta : Int}
    (h : ¬ s.stepBeyond delta)
    (hn : ∀ n, (s.bridges.get b).next = some n → 0 < delta → swept old new n.due = false) :
    s.reanchorStep b old new delta = s := by
  unfold State.reanchorStep
  rw [if_neg (by exact h)]
  split_ifs with hd
  · cases hnext : (s.bridges.get b).next with
    | none => rfl
    | some n => exact if_neg (by rw [hn n hnext hd]; exact Bool.false_ne_true)
  · rfl

theorem reanchorStep_held_within {s : State} {b : Index} {old new : Nat} {delta : Int}
    (h : ¬ s.stepBeyond delta) (hs : s.bridgeState b = .held) : s.reanchorStep b old new delta = s := by
  unfold State.reanchorStep
  rw [if_neg (by exact h), hs]
  dsimp only
  split_ifs
  · split
    · rfl
    · exact ite_self _
  · rfl

theorem holdBridge_local {b : Index} {s v : State} (hv : BesideBridge b s v) (c : HeldCause) :
    SameAt b (s.holdBridge b c) (v.holdBridge b c) :=
  ⟨by rw [holdBridge_bridge, holdBridge_bridge, hv.bridge],
    by rw [holdBridge_regulators, holdBridge_regulators, hv.regulator]⟩

theorem local_reanchorStep (old new : Nat) (delta : Int) :
    Local (fun b s => s.reanchorStep b old new delta) := by
  intro b s v hv
  have hsame : SameAt b s v := ⟨hv.bridge, hv.regulator⟩
  dsimp only
  unfold State.reanchorStep
  rw [hv.settings, hv.state, hv.bridge]
  split_ifs
  · cases s.bridgeState b
    case running => exact holdBridge_local hv .step
    case held => exact ⟨by simp [hv.bridge], hv.regulator⟩
    case retarding => exact blockBridge_local hv .holdStop
    all_goals exact hsame
  · cases (s.bridges.get b).next with
    | none => exact hsame
    | some n =>
      dsimp only
      split_ifs
      · cases s.bridgeState b
        case running => exact holdBridge_local hv .step
        case retarding => exact blockBridge_local hv .holdStop
        all_goals exact hsame
      · exact hsame
  · exact hsame

/-- What a re-anchor step leaves RETARDING it did not touch. -/
theorem reanchorStep_retarding (s : State) (b : Index) (old new : Nat) (delta : Int)
    (h : (s.reanchorStep b old new delta).bridgeState b = .retarding) :
    s.bridgeState b = .retarding ∧ s.reanchorStep b old new delta = s ∧ ¬ s.stepBeyond delta := by
  have hheld : (s.holdBridge b .step).bridgeState b ≠ .retarding := by
    unfold State.bridgeState
    rw [holdBridge_bridge]
    exact BridgeState.noConfusion
  have hblocked : (s.blockBridge b .holdStop).bridgeState b ≠ .retarding := by
    unfold State.bridgeState
    rw [blockBridge_bridge]
    exact BridgeState.noConfusion
  by_cases hbeyond : s.stepBeyond delta
  · exfalso
    cases hs : s.bridgeState b
    case running => exact hheld (reanchorStep_running_beyond hbeyond hs ▸ h)
    case retarding => exact hblocked (reanchorStep_retarding_beyond hbeyond hs ▸ h)
    case held =>
      rw [reanchorStep_held_beyond hbeyond hs] at h
      unfold State.bridgeState at h hs
      simp [hs] at h
    all_goals
      unfold State.reanchorStep at h
      rw [if_pos (by exact hbeyond), hs] at h
      dsimp only at h
      rw [hs] at h
      exact BridgeState.noConfusion h
  · by_cases hsw : ∃ n, (s.bridges.get b).next = some n ∧ 0 < delta ∧ swept old new n.due = true
    · obtain ⟨n, hn, hd, hswept⟩ := hsw
      rw [reanchorStep_of_swept hbeyond hd hn hswept] at h
      exfalso
      cases hs : s.bridgeState b
      all_goals rw [hs] at h
      case running => exact hheld h
      case retarding => exact hblocked h
      all_goals
        dsimp only at h
        rw [hs] at h
        exact BridgeState.noConfusion h
    · have hfix : s.reanchorStep b old new delta = s :=
        reanchorStep_of_unswept hbeyond fun n hn hd => by
          by_contra hne
          exact hsw ⟨n, hn, hd, by simpa using hne⟩
      exact ⟨hfix ▸ h, hfix, hbeyond⟩

/-! ### All four bridges, with the turn that the step carries -/

/-- The holds and blocks of a re-anchor step. -/
def State.stepped (s : State) (order : List Index) (old new : Nat) (delta : Int) : State :=
  s.forAll order (fun b t => t.reanchorStep b old new delta)

theorem onBridges_stepped (s : State) (order : List Index) (old new : Nat) (delta : Int) :
    OnBridges s (s.stepped order old new delta) :=
  onBridges_forAll _ _ _ fun b t => onBridge_reanchorStep t b old new delta

theorem stepped_same (s : State) (k old new : Nat) (delta : Int) (b : Index) :
    SameAt b (s.reanchorStep b old new delta) (s.stepped (bridgeOrder k) old new delta) :=
  forAll_local (local_reanchorStep old new delta) (fun b t => onBridge_reanchorStep t b old new delta) s
    _ b (bridgeOrder_nodup k) (mem_bridgeOrder k b)

theorem stepped_turnsBelow (s : State) (k old new : Nat) (delta : Int)
    (h : s.stepBeyond delta ∨ s.turnsBelow) : (s.stepped (bridgeOrder k) old new delta).turnsBelow := by
  intro b hb
  have hsame := (stepped_same s k old new delta b).1
  rw [bridgeState_of_get hsame] at hb
  obtain ⟨hr, hfix, hwithin⟩ := reanchorStep_retarding s b old new delta hb
  rw [hsame, hfix, (onBridges_stepped s _ old new delta).settings]
  exact h.resolve_left hwithin b hr

/-- Short of RETARD_LIMIT the re-anchor step is each bridge's own, and then its turn. -/
theorem reanchorStepAll_same (s : State) (k old new : Nat) (delta : Int)
    (h : s.stepBeyond delta ∨ s.turnsBelow) (b : Index) :
    ∃ x, SameAt b (s.reanchorStep b old new delta) x ∧
      SameAt b (if carriesTurn old new delta then x.bridgeTurn b (s.stepSets old new delta b) else x)
        (s.reanchorStepAll k old new delta) := by
  refine ⟨_, stepped_same s (k / 2) old new delta b, ?_⟩
  unfold State.reanchorStepAll
  dsimp only
  split_ifs
  · have hturn := firingTurn_of_below _ (k / 2) (s.stepSets old new delta)
      (stepped_turnsBelow s (k / 2) old new delta h)
    unfold State.stepped at hturn ⊢
    rw [hturn]
    exact turned_bridge _ _ _ b
  · exact ⟨rfl, rfl⟩

/-- A bridge whose cause this step set keeps it through the turn that the step carries. -/
theorem reanchorStepAll_of_held {s : State} {k old new : Nat} {delta : Int} {b : Index} {r : Bridge}
    (h : s.stepBeyond delta ∨ s.turnsBelow)
    (hr : (s.reanchorStep b old new delta).bridges.get b = r) (hheld : r.state = .held)
    (hsets : s.stepSets old new delta b = true) :
    (s.reanchorStepAll k old new delta).bridges.get b = r := by
  obtain ⟨x, hx, ht⟩ := reanchorStepAll_same s k old new delta h b
  have hxr := hx.1.trans hr
  rw [hsets, bridgeTurn_of_held x b true (by unfold State.bridgeState; rw [hxr]; exact hheld), if_pos rfl,
    ite_self] at ht
  exact ht.1.trans hxr

/-- A bridge that the step leaves neither RETARDING nor HELD sees no turn. -/
theorem reanchorStepAll_of_turnless {s : State} {k old new : Nat} {delta : Int} {b : Index} {r : Bridge}
    (h : s.stepBeyond delta ∨ s.turnsBelow)
    (hr : (s.reanchorStep b old new delta).bridges.get b = r) (hret : r.state ≠ .retarding)
    (hheld : r.state ≠ .held) : (s.reanchorStepAll k old new delta).bridges.get b = r := by
  obtain ⟨x, hx, ht⟩ := reanchorStepAll_same s k old new delta h b
  have hxr := hx.1.trans hr
  rw [bridgeTurn_of_other x b _ (by unfold State.bridgeState; rw [hxr]; exact hret)
    (by unfold State.bridgeState; rw [hxr]; exact hheld), ite_self] at ht
  exact ht.1.trans hxr

/-- A bridge that the step itself does not touch takes the turn alone. -/
theorem reanchorStepAll_of_untouched {s : State} {k old new : Nat} {delta : Int} {b : Index}
    (h : s.stepBeyond delta ∨ s.turnsBelow) (hr : s.reanchorStep b old new delta = s) :
    ∃ x, SameAt b s x ∧
      SameAt b (if carriesTurn old new delta then x.bridgeTurn b (s.stepSets old new delta b) else x)
        (s.reanchorStepAll k old new delta) := by
  obtain ⟨x, hx, ht⟩ := reanchorStepAll_same s k old new delta h b
  rw [hr] at hx
  exact ⟨x, hx, ht⟩

theorem stepSets_of_beyond {s : State} {old new : Nat} {delta : Int} {b : Index} (h : s.stepBeyond delta)
    (hs : s.bridgeState b = .running ∨ s.bridgeState b = .held) : s.stepSets old new delta b = true := by
  unfold State.stepSets
  dsimp only
  rw [decide_eq_true (by exact h)]
  obtain hs | hs := hs
  · rw [hs]
    exact Bool.true_or _
  · rw [hs]

theorem stepSets_of_swept {s : State} {old new : Nat} {delta : Int} {b : Index} {n : Scheduled}
    (hs : s.bridgeState b = .running) (hd : 0 < delta) (hn : (s.bridges.get b).next = some n)
    (hswept : swept old new n.due = true) : s.stepSets old new delta b = true := by
  unfold State.stepSets
  rw [hs, hn]
  dsimp only
  rw [hswept, decide_eq_true hd]
  exact Bool.or_true _

theorem stepSets_held_within {s : State} {old new : Nat} {delta : Int} {b : Index}
    (h : ¬ s.stepBeyond delta) (hs : s.bridgeState b = .held) : s.stepSets old new delta b = false := by
  unfold State.stepSets
  rw [hs]
  exact decide_eq_false (by exact h)

/-! ### The arrival that re-anchors -/

theorem arrive_of_coast (s : State) (k : Nat) (a : Arrival) (h : s.sync.state = .coast) :
    s.arrive k a = s.arriveCoast k a := by
  unfold State.arrive
  rw [h]

theorem reanchorCount_reached {y : Sync} {st : Settings} {a prev : Arrival} (hprev : y.previous = some prev)
    (h : consistentWith st y.period prev a = true) :
    (y.chained st a).consistency = y.consistency + 1 := by
  unfold Sync.chained
  rw [hprev]
  dsimp only
  rw [if_pos h]

theorem arriveCoast_of_reanchor (s : State) (k : Nat) (a prev : Arrival) (θ : Nat)
    (hprev : s.sync.previous = some prev) (hθ : s.sync.phaseAt a.tick = some θ)
    (hcons : consistentWith s.settings s.sync.period prev a = true)
    (hcount : s.sync.consistency + 1 = s.settings.reanchorCount) :
    s.arriveCoast k a = s.reanchor k a θ := by
  have hc := reanchorCount_reached hprev hcons
  unfold State.arriveCoast
  rw [hθ]
  dsimp only
  rw [State.mapSync_sync, hc]
  exact if_pos ⟨by omega, hcount⟩

/-- Settles O13: the step is judged on the state the re-anchor leaves, bridge by bridge. -/
theorem reAnchorReturnsToLocked : Obligations.ReAnchorReturnsToLocked := by
  intro line rising wait o s prev θ ⟨hrun, hset⟩ hands hstate hprev hθ u a advance delta k hcons hcount
  have hcons' : consistentWith u.settings u.sync.period prev a = true := by
    refine decide_eq_true ?_
    rw [nominalAdvance_eq]
    exact hcons
  let v := u.mapSync (fun y => y.reanchored u.settings a delta)
  let x := v.reanchorStepAll o.shares θ a.crossing.angle delta
  let z := x.raise (.sync .locked (some delta))
  have hcalm : Calm v x := calm_reanchorStepAll v o.shares θ a.crossing.angle delta
  have hsync := hcalm.sync
  have harrive : u.arrive o.shares a = z := by
    have hre : u.arriveCoast o.shares a = u.reanchor o.shares a θ :=
      arriveCoast_of_reanchor u o.shares a prev θ hprev hθ hcons' hcount
    have hev : x.syncEvent .coast (some delta) = x.raise (.sync .locked (some delta)) :=
      syncEvent_of_locked x .coast (some delta) (by rw [hsync]; rfl)
    rw [arrive_of_coast u _ a hstate, hre]
    exact hev
  have ht := taken_settle z o
  have hedge : exec (.crossingEdge line rising wait o) s = .next (z.settle o) := by
    rw [exec_crossingEdge_of_arrival (rising := rising) (o := o) hrun hands]
    exact congrArg (fun w : State => Host.Outcome.next (w.settle o)) harrive
  have hrow : exec (.reAnchor line rising wait o) s = .next (z.settle o) := by
    obtain ⟨hchat, hfilter⟩ := hands
    have he : (s.runFor wait).edge line rising o.shares = z :=
      (edge_of_handsOn (s.runFor wait) line rising o.shares hchat hfilter).trans harrive
    rw [exec_reAnchor, take_of_running s o _ hrun, takenIf_of_happened, he]
    rw [he, syncGoes, hstate]
    change (true && (x.sync.state == .locked)) = true
    rw [hsync]
    rfl
  have hget : ∀ b, (z.settle o).bridges.get b = x.bridges.get b := fun b => ht.bridge b
  have hvstate : ∀ b, v.bridgeState b = s.bridgeState b := fun _ => rfl
  have hraised : Calm x z := calm_raise x _
  refine ⟨_, hrow, hedge, ht.sync.trans hsync, fun l => ht.flags l 0 (raise_flagged x _ l),
    fun hbeyond b => ?beyond, fun hwithin hbelow => ?within,
    ht.elapsed.trans hcalm.elapsed, ht.scanner.trans hcalm.scanner,
    frameKept_settle (s := v) (hcalm.trans' hraised).toSteady o⟩
  case beyond =>
    have hb : v.stepBeyond delta := hbeyond
    rw [hget]
    refine ⟨fun hs => ?_, fun hs => ?_, fun hs => ?_⟩
    · have hx := reanchorStepAll_of_held (k := o.shares) (.inl hb)
        (congrArg (fun w : State => w.bridges.get b)
          (reanchorStep_running_beyond (old := θ) (new := a.crossing.angle) hb hs) |>.trans
          (holdBridge_bridge v b .step)) rfl (stepSets_of_beyond hb (.inl hs))
      rw [show x.bridges.get b = _ from hx]
      exact ⟨rfl, rfl, rfl, rfl⟩
    · have hr : (v.reanchorStep b θ a.crossing.angle delta).bridges.get b =
          { s.bridges.get b with
            heldCauses := { (s.bridges.get b).heldCauses with step := true } } := by
        rw [reanchorStep_held_beyond hb hs]
        exact Four.get_set_self _ _ _
      exact reanchorStepAll_of_held (.inl hb) hr hs (stepSets_of_beyond hb (.inr hs))
    · have hx := reanchorStepAll_of_turnless (k := o.shares) (.inl hb)
        (congrArg (fun w : State => w.bridges.get b)
          (reanchorStep_retarding_beyond (old := θ) (new := a.crossing.angle) hb hs) |>.trans
          (blockBridge_bridge v b .holdStop)) BridgeState.noConfusion BridgeState.noConfusion
      rw [show x.bridges.get b = _ from hx]
      exact ⟨rfl, rfl⟩
  case within =>
    intro swept' b
    have hb : ¬ v.stepBeyond delta := fun h => absurd hwithin (not_le.mpr h)
    have hlim : v.stepBeyond delta ∨ v.turnsBelow := .inr hbelow
    have hcarry : carriesTurn θ a.crossing.angle delta = swept' 0 :=
      (Bool.and_assoc _ _ _).symm
    have hparts : ∀ d, swept' d = true → 0 < delta ∧ swept θ a.crossing.angle d = true := fun d h => by
      have h' : (decide (0 < delta) && swept θ a.crossing.angle d) = true :=
        (Bool.and_assoc _ _ _).symm.trans h
      rw [Bool.and_eq_true, decide_eq_true_iff] at h'
      exact h'
    have hunswept : ∀ d, swept' d = false → 0 < delta → swept θ a.crossing.angle d = false :=
      fun d h hd => by
        have h' : (decide (0 < delta) && swept θ a.crossing.angle d) = false :=
          (Bool.and_assoc _ _ _).symm.trans h
        rwa [decide_eq_true hd, Bool.true_and] at h'
    have hstate' : (z.settle o).bridgeState b = x.bridgeState b := bridgeState_of_get (hget b)
    rw [hstate', hget]
    refine ⟨fun n hn hsw => ?swept, fun hnot => ?unswept, fun hs h0 hc => ?resumes, fun hs h0 => ?held⟩
    case swept =>
      obtain ⟨hd, hswept⟩ := hparts _ hsw
      have hstep := reanchorStep_of_swept (s := v) hb hd hn hswept
      rw [hvstate] at hstep
      refine ⟨fun hs => ?_, fun hs => ?_⟩
      all_goals rw [hs] at hstep
      · exact reanchorStepAll_of_held hlim
          ((congrArg (fun w : State => w.bridges.get b) hstep).trans (holdBridge_bridge v b .step)) rfl
          (stepSets_of_swept (s := v) hs hd hn hswept)
      · exact reanchorStepAll_of_turnless hlim
          ((congrArg (fun w : State => w.bridges.get b) hstep).trans (blockBridge_bridge v b .holdStop))
          BridgeState.noConfusion BridgeState.noConfusion
    case unswept =>
      have hfix : v.reanchorStep b θ a.crossing.angle delta = v :=
        reanchorStep_of_unswept hb fun n hn => hunswept n.due (hnot n hn)
      refine ⟨fun hs => ?_, fun hs => ?_⟩
      · refine reanchorStepAll_of_turnless (s := v) (r := v.bridges.get b) hlim
          (congrArg (fun w : State => w.bridges.get b) hfix) ?_ ?_
        all_goals
          rw [show (v.bridges.get b).state = .running from hs]
          exact BridgeState.noConfusion
      · obtain ⟨w, hw, hwx⟩ := reanchorStepAll_of_untouched (k := o.shares) hlim hfix
        have hws : w.bridgeState b = .retarding := (bridgeState_of_get hw.1).trans hs
        rw [hcarry, bridgeTurn_of_retarding w b _ hws] at hwx
        refine hwx.1.trans ?_
        cases swept' 0
        · exact hw.1
        · exact (countRetard_bridge w b).trans (by rw [hw.1]; rfl)
    case resumes =>
      obtain ⟨w, hw, hwx⟩ := reanchorStepAll_of_untouched (k := o.shares) hlim
        (reanchorStep_held_within (s := v) (b := b) hb hs)
      rw [hcarry, h0, if_pos rfl, stepSets_held_within hb hs,
        bridgeTurn_held_last w b ((bridgeState_of_get hw.1).trans hs) (by rw [hw.1]; exact hc)] at hwx
      have hx : x.bridges.get b = _ := hwx.1.trans (resumeBridge_bridge w b)
      exact ⟨congrArg Bridge.state hx, congrArg Bridge.heldCauses hx⟩
    case held =>
      obtain ⟨w, hw, hwx⟩ := reanchorStepAll_of_untouched (k := o.shares) hlim
        (reanchorStep_held_within (s := v) (b := b) hb hs)
      rw [hcarry, h0] at hwx
      exact hwx.1.trans hw.1

end Sys2Proof.Machine
end

section
/-! SUPPORT. The readers of a scan as one list of steps (R4, R175): what holds of each step, whatever order
the readers act in, holds of the scan. -/

namespace Sys2Proof.Machine

/-! ### The steps of a scan -/

/-- One step of a scan, by its reader. -/
inductive ScanOp where
  | monitor (f : State → State)
  | accumulate
  | overcurrent (b : Index)
  | overvoltage (c : Index)
  | record (j : Nat)

def ScanOp.run (o : ScanOp) (s : State) : State :=
  match o with
  | .monitor f => f s
  | .accumulate => s.forAll Index.all (fun b u => u.accumulate b)
  | .overcurrent b => s.overcurrentScan b
  | .overvoltage c => s.overvoltageScan c
  | .record j => s.recorderShare j

def runOps (s : State) (l : List ScanOp) : State := l.foldl (fun t o => o.run t) s

theorem runOps_cons (s : State) (o : ScanOp) (l : List ScanOp) :
    runOps s (o :: l) = runOps (o.run s) l := rfl

theorem runOps_append (s : State) (l m : List ScanOp) : runOps s (l ++ m) = runOps (runOps s l) m :=
  List.foldl_append

/-- The steps of one reader. -/
def State.shareOps (s : State) (x : ScanShare) : List ScanOp :=
  match x with
  | .monitor => s.monitorSteps.map .monitor
  | .accumulators => [.accumulate]
  | .overcurrent => Index.all.map .overcurrent
  | .overvoltage => Index.all.map .overvoltage

theorem shareOps_run (s : State) (x : ScanShare) : (s.shareOps x).map ScanOp.run = s.shareSteps x := by
  cases x with
  | monitor =>
    change (s.monitorSteps.map ScanOp.monitor).map ScanOp.run = s.monitorSteps
    rw [List.map_map]
    exact List.map_id _
  | accumulators => rfl
  | overcurrent => rfl
  | overvoltage => rfl

theorem runSteps_map_run (s : State) (l : List ScanOp) : s.runSteps (l.map ScanOp.run) = runOps s l := by
  unfold State.runSteps runOps
  rw [List.foldl_map]

/-! ### One reader's steps among them -/

def ScanOp.monitor? : ScanOp → Option (State → State)
  | .monitor f => some f
  | .accumulate | .overcurrent _ | .overvoltage _ | .record _ => none

def ScanOp.accumulate? : ScanOp → Option Unit
  | .accumulate => some ()
  | .monitor _ | .overcurrent _ | .overvoltage _ | .record _ => none

def ScanOp.over? : ScanOp → Option Index
  | .overcurrent b => some b
  | .monitor _ | .accumulate | .overvoltage _ | .record _ => none

def ScanOp.volt? : ScanOp → Option Index
  | .overvoltage c => some c
  | .monitor _ | .accumulate | .overcurrent _ | .record _ => none

def ScanOp.record? : ScanOp → Option Nat
  | .record j => some j
  | .monitor _ | .accumulate | .overcurrent _ | .overvoltage _ => none

/-- The steps of a scan: each reader's own, in their order, and the recorder's one. -/
structure ScanOps (s : State) (l : List ScanOp) : Prop where
  monitors : l.filterMap ScanOp.monitor? = s.monitorSteps
  accumulates : l.filterMap ScanOp.accumulate? = [()]
  overs : l.filterMap ScanOp.over? = Index.all
  volts : l.filterMap ScanOp.volt? = Index.all
  records : ∃ j, l.filterMap ScanOp.record? = [j]

/-- Where one member alone of a list contributes, the others' order means nothing. -/
theorem filterMap_flatMap_of_single {α β γ : Type} (p : β → Option γ) (g : α → List β) (l : List α)
    (x : α) (hnd : l.Nodup) (hx : x ∈ l) (h : ∀ y, y ≠ x → (g y).filterMap p = []) :
    (l.flatMap g).filterMap p = (g x).filterMap p := by
  induction l with
  | nil => exact absurd hx (by simp)
  | cons y rest ih =>
    obtain ⟨hy, hrest⟩ := List.nodup_cons.mp hnd
    rw [List.flatMap_cons, List.filterMap_append]
    by_cases hxy : y = x
    · subst hxy
      have hnone : (rest.flatMap g).filterMap p = [] := by
        rw [List.filterMap_eq_nil_iff]
        intro z hz
        obtain ⟨w, hw, hzw⟩ := List.mem_flatMap.mp hz
        have hwy : w ≠ y := fun e => hy (e ▸ hw)
        exact List.filterMap_eq_nil_iff.mp (h w hwy) z hzw
      rw [hnone, List.append_nil]
    · rw [h y hxy, List.nil_append]
      exact ih hrest ((List.mem_cons.mp hx).resolve_left (Ne.symm hxy))

theorem scanShares_nodup (k : Nat) : (inOrder k scanShares).Nodup :=
  (inOrder_perm k _).nodup_iff.mpr (by decide)

theorem mem_scanShares (k : Nat) (x : ScanShare) : x ∈ inOrder k scanShares :=
  (inOrder_perm k _).mem_iff.mpr (by cases x <;> decide)

/-- The steps of the readers beside the recorder, in the order of the schedule. -/
def State.readerOps (s : State) (k : Nat) : List ScanOp := (inOrder k scanShares).flatMap s.shareOps

theorem readerOps_filterMap {γ : Type} (s : State) (k : Nat) (p : ScanOp → Option γ) (x : ScanShare)
    (h : ∀ y, y ≠ x → (s.shareOps y).filterMap p = []) :
    (s.readerOps k).filterMap p = (s.shareOps x).filterMap p :=
  filterMap_flatMap_of_single p s.shareOps _ x (scanShares_nodup k) (mem_scanShares k x) h

/-- A step of another reader than the monitor is none of the monitor's. -/
theorem monitorSteps_filterMap_none {γ : Type} (s : State) (p : ScanOp → Option γ)
    (h : ∀ f, p (.monitor f) = none) : (s.shareOps .monitor).filterMap p = [] := by
  rw [List.filterMap_eq_nil_iff]
  intro o ho
  obtain ⟨f, -, rfl⟩ := List.mem_map.mp ho
  exact h f

theorem readerOps_monitor (s : State) (k : Nat) :
    (s.readerOps k).filterMap ScanOp.monitor? = s.monitorSteps := by
  rw [readerOps_filterMap s k _ .monitor (fun y hy => by
    cases y
    · exact absurd rfl hy
    all_goals rfl)]
  change (s.monitorSteps.map ScanOp.monitor).filterMap ScanOp.monitor? = s.monitorSteps
  rw [List.filterMap_map]
  exact List.filterMap_some

theorem readerOps_accumulate (s : State) (k : Nat) :
    (s.readerOps k).filterMap ScanOp.accumulate? = [()] :=
  readerOps_filterMap s k _ .accumulators fun y hy => by
    cases y
    case monitor => exact monitorSteps_filterMap_none s _ fun _ => rfl
    case accumulators => exact absurd rfl hy
    all_goals rfl

theorem readerOps_over (s : State) (k : Nat) : (s.readerOps k).filterMap ScanOp.over? = Index.all :=
  readerOps_filterMap s k _ .overcurrent fun y hy => by
    cases y
    case monitor => exact monitorSteps_filterMap_none s _ fun _ => rfl
    case overcurrent => exact absurd rfl hy
    all_goals rfl

theorem readerOps_volt (s : State) (k : Nat) : (s.readerOps k).filterMap ScanOp.volt? = Index.all :=
  readerOps_filterMap s k _ .overvoltage fun y hy => by
    cases y
    case monitor => exact monitorSteps_filterMap_none s _ fun _ => rfl
    case overvoltage => exact absurd rfl hy
    all_goals rfl

theorem readerOps_record (s : State) (k : Nat) : (s.readerOps k).filterMap ScanOp.record? = [] := by
  rw [List.filterMap_eq_nil_iff]
  intro o ho
  obtain ⟨x, -, hx⟩ := List.mem_flatMap.mp ho
  cases x
  case accumulators =>
    obtain rfl := List.mem_singleton.mp hx
    rfl
  all_goals
    obtain ⟨_, -, rfl⟩ := List.mem_map.mp hx
    rfl

/-- A filtered list with one member more, where that one contributes nothing. -/
theorem filterMap_insert {β γ : Type} (p : β → Option γ) (l : List β) (n : Nat) (o : β) :
    (l.take n ++ o :: l.drop n).filterMap p =
      (l.take n).filterMap p ++ (p o).toList ++ (l.drop n).filterMap p := by
  rw [List.filterMap_append, List.filterMap_cons, List.append_assoc]
  cases p o <;> rfl

theorem filterMap_insert_none {β γ : Type} (p : β → Option γ) (l : List β) (n : Nat) (o : β)
    (h : p o = none) : (l.take n ++ o :: l.drop n).filterMap p = l.filterMap p := by
  rw [filterMap_insert, h, Option.toList_none, List.append_nil, ← List.filterMap_append,
    List.take_append_drop]

/-- The scan is one run of such steps. -/
theorem actOnScan_ops (s : State) (k : Nat) : ∃ l, s.actOnScan k = runOps s l ∧ ScanOps s l := by
  have hsteps : (inOrder k scanShares).flatMap s.shareSteps = (s.readerOps k).map ScanOp.run := by
    unfold State.readerOps
    rw [List.map_flatMap]
    congr 1
    funext x
    exact (shareOps_run s x).symm
  let n := ((s.readerOps k).map ScanOp.run).length
  let before := n - k / 24 % (n + 1)
  let o : ScanOp := .record (k / 24 / (n + 1))
  refine ⟨(s.readerOps k).take before ++ o :: (s.readerOps k).drop before, ?_, ?_⟩
  · unfold State.actOnScan
    rw [hsteps]
    dsimp only
    rw [← List.map_take, ← List.map_drop, runSteps_map_run, runSteps_map_run, runOps_append, runOps_cons]
    rfl
  · refine ⟨?_, ?_, ?_, ?_, k / 24 / (n + 1), ?_⟩
    · rw [filterMap_insert_none _ _ _ _ rfl, readerOps_monitor]
    · rw [filterMap_insert_none _ _ _ _ rfl, readerOps_accumulate]
    · rw [filterMap_insert_none _ _ _ _ rfl, readerOps_over]
    · rw [filterMap_insert_none _ _ _ _ rfl, readerOps_volt]
    · have hnone := readerOps_record s k
      have hsplit : ((s.readerOps k).take before).filterMap ScanOp.record? = [] ∧
          ((s.readerOps k).drop before).filterMap ScanOp.record? = [] := by
        rw [← List.append_eq_nil_iff, ← List.filterMap_append, List.take_append_drop]
        exact hnone
      rw [filterMap_insert, hsplit.1, hsplit.2]
      rfl

/-! ### What each step keeps, the scan keeps -/

/-- What holds of a state with some steps still to come, and stays so at each, holds at the end. -/
theorem runOps_keeps {P : List ScanOp → State → Prop}
    (hstep : ∀ o rest u, P (o :: rest) u → P rest (o.run u)) (l : List ScanOp) (u : State) (h : P l u) :
    P [] (runOps u l) := by
  induction l generalizing u with
  | nil => exact h
  | cons o rest ih => exact ih _ (hstep o rest u h)

/-! ### The scan of a state -/

theorem nextMultiple_spec (p n last : Nat) (hp : 0 < p) :
    p ∣ nextMultiple p n last ∧ n ≤ nextMultiple p n last ∧ nextMultiple p n last ≤ n + p := by
  unfold nextMultiple
  split_ifs with h
  · exact ⟨Nat.dvd_of_mod_eq_zero h.1, le_rfl, Nat.le_add_right n p⟩
  · refine ⟨Nat.dvd_mul_left p _, ?_, ?_⟩
    · exact (Nat.lt_mul_div_succ n hp).le.trans_eq (Nat.mul_comm _ _)
    · rw [Nat.add_mul, Nat.one_mul]
      exact Nat.add_le_add_right (Nat.div_mul_le_self n p) p

theorem runTo_elapsed (s : State) (n : Nat) (h : s.elapsed ≤ n) : (s.runTo n).elapsed = n := by
  unfold State.runTo
  exact Nat.max_eq_right h

theorem completeScan_elapsed (s : State) (x : Samples) :
    800 ∣ (s.completeScan x).elapsed ∧ s.elapsed ≤ (s.completeScan x).elapsed ∧
      (s.completeScan x).elapsed ≤ s.elapsed + 800 := by
  have hspec := nextMultiple_spec 800 s.elapsed s.scanner.scanAt (by decide)
  have helapsed : (s.completeScan x).elapsed = nextMultiple 800 s.elapsed s.scanner.scanAt :=
    runTo_elapsed s _ hspec.2.1
  rw [helapsed]
  exact hspec

end Sys2Proof.Machine
end

section
/-! PROOF. SCAN: the values it replaces, and a scan at which nothing comes about (R4, R7 to R12, R103,
R139, R148). -/

namespace Sys2Proof.Machine

/-! ### The values of a scan -/

theorem Three.get_map {α β : Type} (f : α → β) (q : Three α) (l : Line) :
    (q.map f).get l = f (q.get l) := by cases l <;> rfl

theorem atEnd_iff (x lo hi : Int) : atEnd x lo hi = true ↔ x = lo ∨ x = hi := by
  unfold atEnd
  rw [Bool.or_eq_true, beq_iff_eq, beq_iff_eq]

theorem joinWindow_eq (w : List Nat) (x : Int) :
    joinWindow w x = (w ++ [x.natAbs ^ 2]).drop (w.length + 1 - 125) := by
  have hsq : x.natAbs * x.natAbs = x.natAbs ^ 2 := (Nat.pow_two _).symm
  unfold joinWindow Config.rmsWindow
  dsimp only
  rw [hsq, List.length_append, List.length_singleton]

/-- The windows with the newest square joined (R9). -/
theorem scanned_squares (c : Scanner) (st : Settings) (x : Samples) (n : Nat) (l : Line) :
    (c.scanned st x n).squares.get l =
      (c.squares.get l ++ [((c.scanned st x n).u.get l).natAbs ^ 2]).drop
        ((c.squares.get l).length + 1 - 125) := by
  rw [← joinWindow_eq]
  unfold Scanner.scanned
  cases l
  all_goals simp only [Three.get]

theorem scanned_uSaturated (c : Scanner) (st : Settings) (x : Samples) (n : Nat) (l : Line) :
    (c.scanned st x n).uSaturated.get l = true ↔
      (c.scanned st x n).u.get l = -6000 ∨ (c.scanned st x n).u.get l = 6000 := by
  have h : (c.scanned st x n).uSaturated.get l =
      atEnd ((c.scanned st x n).u.get l) (-6000) 6000 := Three.get_map _ _ l
  rw [h, atEnd_iff]

theorem scanned_iSaturated (c : Scanner) (st : Settings) (x : Samples) (n : Nat) (b : Index) :
    (c.scanned st x n).iSaturated.get b = true ↔
      (c.scanned st x n).i.get b = -2000 ∨ (c.scanned st x n).i.get b = 48000 := by
  have h : (c.scanned st x n).iSaturated.get b =
      atEnd ((c.scanned st x n).i.get b) (-2000) 48000 := Four.get_map _ _ b
  rw [h, atEnd_iff]

theorem scanned_eSaturated (c : Scanner) (st : Settings) (x : Samples) (n : Nat) (b : Index) :
    (c.scanned st x n).eSaturated.get b = true ↔
      (c.scanned st x n).e.get b = 0 ∨ (c.scanned st x n).e.get b = 150000 := by
  have h : (c.scanned st x n).eSaturated.get b =
      atEnd ((c.scanned st x n).e.get b) 0 150000 := Four.get_map _ _ b
  rw [h, atEnd_iff]

theorem scanned_i (c : Scanner) (st : Settings) (x : Samples) (n : Nat) (b : Index) :
    (c.scanned st x n).i.get b = min (max (roundInt (x.i.get b) 1000) (-2000)) 48000 :=
  Four.get_map convertCurrent x.i b

theorem scanned_e (c : Scanner) (st : Settings) (x : Samples) (n : Nat) (b : Index) :
    (c.scanned st x n).e.get b = min (max (roundInt (x.e.get b) 1000) 0) 150000 :=
  Four.get_map convertStack x.e b

theorem scanned_vCell (c : Scanner) (st : Settings) (x : Samples) (n : Nat) (b : Index) :
    (c.scanned st x n).vCell.get b =
      roundInt ((c.scanned st x n).e.get b * 100) (st.cells.get b) := Four.get_tabulate _ b

/-! ### The checks of a scan -/

theorem scanCount_decide (n : Nat) (p : Prop) [Decidable p] :
    scanCount n (decide p) = if p then min (n + 1) 2 else 0 := by
  unfold scanCount countUp
  by_cases h : p
  · rw [if_pos h, if_pos (decide_eq_true h)]
  · rw [if_neg h, if_neg (by simp [h])]

/-- A count that does not stand at 1 moves, and raises nothing (R148). -/
theorem overcurrentScan_of_quiet (s : State) (b : Index) (h : s.trip.overcurrentScans.get b ≠ 1) :
    s.overcurrentScan b =
      s.mapTrip (fun x =>
        { x with
          overcurrentScans :=
            x.overcurrentScans.set b (scanCount (s.trip.overcurrentScans.get b) (s.overTrip b)) }) := by
  unfold State.overcurrentScan
  refine if_neg ?_
  simp [completesRun, h]

theorem overvoltageScan_of_quiet (s : State) (c : Index) (h : (s.channels.get c).overvoltageScans ≠ 1) :
    s.overvoltageScan c =
      s.mapChannel c (fun k =>
        { k with
          overvoltageScans := scanCount (s.channels.get c).overvoltageScans (s.overVoltage c) }) := by
  unfold State.overvoltageScan
  refine if_neg ?_
  simp [completesRun, h]

theorem overTrip_of_steady {s t : State} (h : Steady s t) (b : Index) : t.overTrip b = s.overTrip b := by
  unfold State.overTrip
  rw [h.settings, h.scanner]

theorem overVoltage_of_steady {s t : State} (h : Steady s t) (c : Index) :
    t.overVoltage c = s.overVoltage c := by
  unfold State.overVoltage
  rw [h.settings, h.scanner]

/-! ### The accumulators -/

/-- The regulator of bridge `b` with a scan joined to its interval (R103). -/
def State.accumulated (s : State) (b : Index) : Regulator :=
  match s.bridgeState b with
  | .deblocking | .running | .retarding =>
    { s.regulators.get b with
      sum := (s.regulators.get b).sum + s.scanner.i.get b
      count := (s.regulators.get b).count + 1 }
  | .blocked | .held | .lockout => s.regulators.get b

theorem accumulate_regulator (s : State) (b : Index) :
    (s.accumulate b).regulators.get b = s.accumulated b := by
  unfold State.accumulate State.accumulated
  cases s.bridgeState b
  case blocked | held | lockout => rfl
  all_goals exact Four.get_set_self _ _ _

theorem accumulate_bridges (s : State) (b : Index) : (s.accumulate b).bridges = s.bridges := by
  unfold State.accumulate
  split <;> rfl

theorem accumulate_outbox (s : State) (b : Index) : (s.accumulate b).outbox = s.outbox := by
  unfold State.accumulate
  split <;> rfl

theorem accumulated_congr {s v : State} {b : Index} (hb : v.bridges.get b = s.bridges.get b)
    (hr : v.regulators.get b = s.regulators.get b) (hs : v.scanner = s.scanner) :
    v.accumulated b = s.accumulated b := by
  unfold State.accumulated
  rw [show v.bridgeState b = s.bridgeState b from congrArg Bridge.state hb, hr, hs]

theorem local_accumulate : Local (fun b s => s.accumulate b) := by
  intro b s v hv
  refine ⟨?_, ?_⟩
  · rw [accumulate_bridges, accumulate_bridges]
    exact hv.bridge
  · rw [accumulate_regulator, accumulate_regulator]
    exact accumulated_congr hv.bridge hv.regulator hv.scanner

/-- Every accumulator after a scan. -/
def State.accumulateAll (s : State) : State := s.forAll Index.all (fun b u => u.accumulate b)

theorem onBridges_accumulateAll (s : State) : OnBridges s s.accumulateAll :=
  onBridges_forAll _ _ _ fun b t => onBridge_accumulate t b

theorem accumulateAll_bridges (s : State) : s.accumulateAll.bridges = s.bridges :=
  forAll_keeps State.bridges _ _ _ fun b t => accumulate_bridges t b

theorem accumulateAll_outbox (s : State) : s.accumulateAll.outbox = s.outbox :=
  forAll_keeps State.outbox _ _ _ fun b t => accumulate_outbox t b

theorem accumulateAll_regulator (s : State) (b : Index) :
    s.accumulateAll.regulators.get b = s.accumulated b :=
  ((forAll_local local_accumulate (fun b t => onBridge_accumulate t b) s _ b Index.all_nodup
    (Index.mem_all b)).2).trans (accumulate_regulator s b)

/-! ### A scan at which nothing comes about -/

/-- A scan under way from `v` at which no episode starts and no count completes its run: what its readers
have done so far, with the steps `rest` still to come. -/
structure QuietScan (v : State) (rest : List ScanOp) (u : State) : Prop extends Calm v u where
  bridges : u.bridges = v.bridges
  monitor : u.monitor = v.monitor
  latched : u.trip.latched = v.trip.latched
  causes : u.trip.causes = v.trip.causes
  monitors : rest.filterMap ScanOp.monitor? = []
  accumulates : (rest.filterMap ScanOp.accumulate?).Nodup
  oversOnce : (rest.filterMap ScanOp.over?).Nodup
  voltsOnce : (rest.filterMap ScanOp.volt?).Nodup
  regulator : ∀ b, u.regulators.get b =
    if () ∈ rest.filterMap ScanOp.accumulate? then v.regulators.get b else v.accumulated b
  overCount : ∀ b, u.trip.overcurrentScans.get b =
    if b ∈ rest.filterMap ScanOp.over? then v.trip.overcurrentScans.get b
    else scanCount (v.trip.overcurrentScans.get b) (v.overTrip b)
  channel : ∀ c, u.channels.get c =
    if c ∈ rest.filterMap ScanOp.volt? then v.channels.get c
    else
      { v.channels.get c with
        overvoltageScans := scanCount (v.channels.get c).overvoltageScans (v.overVoltage c) }

theorem quietScan_record {v u : State} {j : Nat} {rest : List ScanOp}
    (h : QuietScan v (.record j :: rest) u) : QuietScan v rest (u.recorderShare j) := by
  have hon := onRecorder_recorderShare u j
  exact
    { toCalm := h.toCalm.trans' hon.toCalm
      bridges := hon.bridges.trans h.bridges
      monitor := hon.monitor.trans h.monitor
      latched := (congrArg Trip.latched hon.trip).trans h.latched
      causes := (congrArg Trip.causes hon.trip).trans h.causes
      monitors := h.monitors
      accumulates := h.accumulates
      oversOnce := h.oversOnce
      voltsOnce := h.voltsOnce
      regulator := fun b => (by rw [hon.regulators]; exact h.regulator b)
      overCount := fun b => (by rw [hon.trip]; exact h.overCount b)
      channel := fun c => (by rw [hon.channels]; exact h.channel c) }

theorem quietScan_accumulate {v u : State} {rest : List ScanOp}
    (h : QuietScan v (.accumulate :: rest) u) : QuietScan v rest u.accumulateAll := by
  have hon := onBridges_accumulateAll u
  have hlast : () ∉ rest.filterMap ScanOp.accumulate? := (List.nodup_cons.mp h.accumulates).1
  have hreg : ∀ b, u.regulators.get b = v.regulators.get b := fun b =>
    (h.regulator b).trans (if_pos List.mem_cons_self)
  exact
    { toCalm := h.toCalm.trans' hon.toCalm
      bridges := (accumulateAll_bridges u).trans h.bridges
      monitor := hon.monitor.trans h.monitor
      latched := (congrArg Trip.latched hon.trip).trans h.latched
      causes := (congrArg Trip.causes hon.trip).trans h.causes
      monitors := h.monitors
      accumulates := (List.nodup_cons.mp h.accumulates).2
      oversOnce := h.oversOnce
      voltsOnce := h.voltsOnce
      regulator := fun b => by
        rw [if_neg hlast, accumulateAll_regulator]
        exact accumulated_congr (by rw [h.bridges]) (hreg b) h.scanner
      overCount := fun b => (by rw [hon.trip]; exact h.overCount b)
      channel := fun c => (by rw [hon.channels]; exact h.channel c) }

theorem quietScan_over {v u : State} {b : Index} {rest : List ScanOp}
    (hb : v.trip.overcurrentScans.get b ≠ 1) (h : QuietScan v (.overcurrent b :: rest) u) :
    QuietScan v rest (u.overcurrentScan b) := by
  have hlast : b ∉ rest.filterMap ScanOp.over? := (List.nodup_cons.mp h.oversOnce).1
  have hcount : u.trip.overcurrentScans.get b = v.trip.overcurrentScans.get b :=
    (h.overCount b).trans (if_pos List.mem_cons_self)
  rw [overcurrentScan_of_quiet u b (by rw [hcount]; exact hb)]
  exact
    { toCalm := h.toCalm.trans' (calm_mapTrip u _)
      bridges := h.bridges
      monitor := h.monitor
      latched := h.latched
      causes := h.causes
      monitors := h.monitors
      accumulates := h.accumulates
      oversOnce := (List.nodup_cons.mp h.oversOnce).2
      voltsOnce := h.voltsOnce
      regulator := h.regulator
      overCount := fun d => by
        rw [State.mapTrip_trip]
        dsimp only
        rw [Four.get_set]
        by_cases hd : b = d
        · subst hd
          rw [if_pos rfl, if_neg hlast, hcount, overTrip_of_steady h.toSteady]
        · have hmem : d ∈ (ScanOp.overcurrent b :: rest).filterMap ScanOp.over? ↔
              d ∈ rest.filterMap ScanOp.over? := by
            rw [List.filterMap_cons_some (show (ScanOp.overcurrent b).over? = some b from rfl), List.mem_cons]
            exact or_iff_right (Ne.symm hd)
          rw [if_neg hd, h.overCount d]
          simp only [hmem]
      channel := h.channel }

theorem quietScan_volt {v u : State} {c : Index} {rest : List ScanOp}
    (hc : (v.channels.get c).overvoltageScans ≠ 1) (h : QuietScan v (.overvoltage c :: rest) u) :
    QuietScan v rest (u.overvoltageScan c) := by
  have hlast : c ∉ rest.filterMap ScanOp.volt? := (List.nodup_cons.mp h.voltsOnce).1
  have hchan : u.channels.get c = v.channels.get c :=
    (h.channel c).trans (if_pos List.mem_cons_self)
  rw [overvoltageScan_of_quiet u c (by rw [hchan]; exact hc)]
  exact
    { toCalm := h.toCalm.trans' (calm_mapChannel u c _)
      bridges := h.bridges
      monitor := h.monitor
      latched := h.latched
      causes := h.causes
      monitors := h.monitors
      accumulates := h.accumulates
      oversOnce := h.oversOnce
      voltsOnce := (List.nodup_cons.mp h.voltsOnce).2
      regulator := h.regulator
      overCount := h.overCount
      channel := fun d => by
        unfold State.mapChannel
        dsimp only
        rw [Four.get_set]
        by_cases hd : c = d
        · subst hd
          rw [if_pos rfl, if_neg hlast, hchan, overVoltage_of_steady h.toSteady]
        · have hmem : d ∈ (ScanOp.overvoltage c :: rest).filterMap ScanOp.volt? ↔
              d ∈ rest.filterMap ScanOp.volt? := by
            rw [List.filterMap_cons_some (show (ScanOp.overvoltage c).volt? = some c from rfl), List.mem_cons]
            exact or_iff_right (Ne.symm hd)
          rw [if_neg hd, h.channel d]
          simp only [hmem] }

theorem quietScan_step {v : State} (hover : ∀ b, v.trip.overcurrentScans.get b ≠ 1)
    (hvolt : ∀ c, (v.channels.get c).overvoltageScans ≠ 1) (o : ScanOp) (rest : List ScanOp) (u : State)
    (h : QuietScan v (o :: rest) u) : QuietScan v rest (o.run u) := by
  cases o with
  | monitor f => exact absurd h.monitors (by simp [ScanOp.monitor?])
  | accumulate => exact quietScan_accumulate h
  | overcurrent b => exact quietScan_over (hover b) h
  | overvoltage c => exact quietScan_volt (hvolt c) h
  | record j => exact quietScan_record h

theorem quietScan_start {v : State} {l : List ScanOp} (hl : ScanOps v l) (hm : v.monitorSteps = []) :
    QuietScan v l v :=
  { toCalm := Calm.rfl' v
    bridges := rfl
    monitor := rfl
    latched := rfl
    causes := rfl
    monitors := hl.monitors.trans hm
    accumulates := by
      rw [hl.accumulates]
      exact List.nodup_singleton _
    oversOnce := by
      rw [hl.overs]
      exact Index.all_nodup
    voltsOnce := by
      rw [hl.volts]
      exact Index.all_nodup
    regulator := fun b => by
      rw [hl.accumulates, if_pos List.mem_cons_self]
    overCount := fun b => by
      rw [hl.overs, if_pos (Index.mem_all b)]
    channel := fun c => by
      rw [hl.volts, if_pos (Index.mem_all c)] }

/-- The scan of a part at which nothing comes about. -/
theorem actOnScan_quiet (v : State) (k : Nat) (hm : v.monitorSteps = [])
    (hover : ∀ b, v.trip.overcurrentScans.get b ≠ 1)
    (hvolt : ∀ c, (v.channels.get c).overvoltageScans ≠ 1) : QuietScan v [] (v.actOnScan k) := by
  obtain ⟨l, hrun, hl⟩ := actOnScan_ops v k
  rw [hrun]
  exact runOps_keeps (quietScan_step hover hvolt) l v (quietScan_start hl hm)

theorem episodeDue_of_level (s : State) (hdip : s.settings.dipStart ≤ s.scanner.g)
    (hswell : s.scanner.g ≤ s.settings.swellStart) : s.episodeDue = none := by
  unfold State.episodeDue
  rw [if_neg (not_lt.mpr hdip), if_neg (not_lt.mpr hswell)]

/-- In NORMAL a level within the start thresholds leaves the monitor nothing to do. -/
theorem monitorSteps_of_normal (s : State) (h : s.monitor.state = .normal)
    (hdip : s.settings.dipStart ≤ s.scanner.g) (hswell : s.scanner.g ≤ s.settings.swellStart) :
    s.monitorSteps = [] := by
  unfold State.monitorSteps
  rw [h]
  dsimp only
  rw [episodeDue_of_level s hdip hswell]

/-- The state that a scan leaves. -/
theorem taken_scan (s : State) (x : Samples) (o : Schedule) (h : s.inReset = false) :
    exec (.scan x o) s = .next (((s.completeScan x).actOnScan o.shares).settle o) := by
  rw [exec_scan, take_of_running s o _ h]
  rfl

/-- Settles O4: the values come before the readers, which do not touch the scanner. -/
theorem scanReplacesValues : Obligations.ScanReplacesValues := by
  intro x o s hrun
  let v := s.completeScan x
  let w := v.actOnScan o.shares
  have hcalm : Calm v w := calm_actOnScan v o.shares
  have ht := taken_settle w o
  have hscan : (w.settle o).scanner = v.scanner := ht.scanner.trans hcalm.scanner
  have hsettings : (w.settle o).settings = s.settings := ht.settings.trans hcalm.settings
  have helapsed : (w.settle o).elapsed = v.elapsed := ht.elapsed.trans hcalm.elapsed
  obtain ⟨hdvd, hlow, hhigh⟩ := completeScan_elapsed s x
  refine ⟨_, taken_scan s x o hrun, ?_⟩
  rw [hscan, helapsed]
  refine ⟨hdvd, hlow, hhigh, rfl, fun l => Three.get_map convertVoltage x.u l,
    fun b => scanned_i _ _ _ _ b, fun c => scanned_e _ _ _ _ c,
    fun l => scanned_uSaturated _ _ _ _ l, fun b => scanned_iSaturated _ _ _ _ b,
    fun c => scanned_eSaturated _ _ _ _ c, fun l => scanned_squares _ _ _ _ l,
    fun l => Three.get_map windowRms _ l, ?level, rfl, fun c => scanned_vCell _ _ _ _ c, rfl, rfl, rfl,
    rfl, ht.sync.trans hcalm.sync, frameKept_settle (s := v) hcalm.toSteady o,
    fun hnormal hdip hswell hover hvolt => ?quiet⟩
  case level =>
    change clampNat _ 0 1999 = _
    unfold clampNat
    rw [Nat.max_eq_left (Nat.zero_le _)]
    rfl
  case quiet =>
    have hset : v.settings = s.settings := rfl
    have hm : v.monitorSteps = [] :=
      monitorSteps_of_normal v hnormal (by rw [hset]; exact hdip) (by rw [hset]; exact hswell)
    have hq := actOnScan_quiet v o.shares hm hover hvolt
    refine ⟨ht.bridges.trans hq.bridges, ht.monitor.trans hq.monitor,
      (congrArg Trip.latched ht.trip).trans hq.latched,
      (congrArg Trip.causes ht.trip).trans hq.causes, fun b => ⟨fun hb => ?_, fun hb => ?_, ?_, ?_⟩⟩
    · have hreg : w.regulators.get b = v.accumulated b := hq.regulator b
      rw [ht.regulators, hreg]
      unfold State.accumulated
      obtain hb | hb | hb := hb
      all_goals
        rw [show v.bridgeState b = _ from hb]
        rfl
    · have hreg : w.regulators.get b = v.accumulated b := hq.regulator b
      rw [ht.regulators, hreg]
      unfold State.accumulated
      obtain hb | hb | hb := hb
      all_goals
        rw [show v.bridgeState b = _ from hb]
        rfl
    · rw [ht.trip]
      have hcount : w.trip.overcurrentScans.get b =
          scanCount (v.trip.overcurrentScans.get b) (v.overTrip b) := hq.overCount b
      rw [hcount]
      exact scanCount_decide _ _
    · rw [ht.channels]
      have hchan : w.channels.get b =
          { v.channels.get b with
            overvoltageScans :=
              scanCount (v.channels.get b).overvoltageScans (v.overVoltage b) } := hq.channel b
      have hcount : scanCount (v.channels.get b).overvoltageScans (v.overVoltage b) =
          if (s.settings.vcellTrip : Int) < v.scanner.vCell.get b then
            min ((s.channels.get b).overvoltageScans + 1) 2 else 0 := scanCount_decide _ _
      rw [hchan, hcount]
      rfl

end Sys2Proof.Machine
end

section
/-! SUPPORT. What a scan's steps do to a latched trip: they keep it, and one that they latch shows itself
(R94, R150). -/

namespace Sys2Proof.Machine

/-! ### A trip through a scan -/

/-- What the steps that the monitor takes, and the checks of a scan, do to the trip latch: a latched trip
stays with its causes and its bridges locked out, and one latched between shows its TRIP event. -/
structure TripMoves (s t : State) : Prop extends Calm s t where
  flags : FlagsKept s t
  latched : s.trip.latched = true → t.trip.latched = true
  causes : s.trip.latched = true → ∀ k, hasBit s.trip.causes k = true → hasBit t.trip.causes k = true
  kept : s.trip.latched = true →
    t.trip.breakerTrip = s.trip.breakerTrip ∧ t.trip.tick = s.trip.tick
  lockout : s.trip.latched = true → (∀ b, s.bridgeState b = .lockout) → ∀ b, t.bridgeState b = .lockout
  fresh : s.trip.latched = false → t.trip.latched = true →
    t.trip.breakerTrip = true ∧ t.trip.tick = s.counter ∧ (∀ b, t.bridgeState b = .lockout) ∧
      ∀ l, t.flagged l 5

theorem TripMoves.of_same {s t : State} (hc : Calm s t) (hf : FlagsKept s t)
    (hl : t.trip.latched = s.trip.latched) (hcauses : t.trip.causes = s.trip.causes)
    (hline : t.trip.breakerTrip = s.trip.breakerTrip) (htick : t.trip.tick = s.trip.tick)
    (hlock : (∀ b, s.bridgeState b = .lockout) → ∀ b, t.bridgeState b = .lockout) : TripMoves s t :=
  { toCalm := hc
    flags := hf
    latched := fun h => hl.trans h
    causes := fun _ k h => by rw [hcauses]; exact h
    kept := fun _ => ⟨hline, htick⟩
    lockout := fun _ => hlock
    fresh := fun h h' => absurd (hl.symm.trans h') (by rw [h]; exact Bool.false_ne_true) }

theorem TripMoves.refl (s : State) : TripMoves s s :=
  .of_same (Calm.rfl' s) (FlagsKept.refl s) rfl rfl rfl rfl id

theorem TripMoves.trans {s t u : State} (h : TripMoves s t) (k : TripMoves t u) : TripMoves s u where
  toCalm := h.toCalm.trans' k.toCalm
  flags := h.flags.trans k.flags
  latched := fun hs => k.latched (h.latched hs)
  causes := fun hs j hj => k.causes (h.latched hs) j (h.causes hs j hj)
  kept := fun hs => by
    obtain ⟨hline, htick⟩ := h.kept hs
    obtain ⟨kline, ktick⟩ := k.kept (h.latched hs)
    exact ⟨kline.trans hline, ktick.trans htick⟩
  lockout := fun hs hb => k.lockout (h.latched hs) (h.lockout hs hb)
  fresh := fun hs hu => by
    cases ht : t.trip.latched with
    | false =>
      rw [← h.toCalm.counter]
      exact k.fresh ht hu
    | true =>
      obtain ⟨hline, htick, hlock, hflag⟩ := h.fresh hs ht
      obtain ⟨kline, ktick⟩ := k.kept ht
      exact ⟨kline.trans hline, ktick.trans htick, k.lockout ht hlock, fun l => k.flags l 5 (hflag l)⟩

theorem OnRecorder.moves {s t : State} (h : OnRecorder s t) : TripMoves s t :=
  .of_same h.toCalm h.flags (by rw [h.trip]) (by rw [h.trip]) (by rw [h.trip]) (by rw [h.trip])
    fun hb b => by
      unfold State.bridgeState at hb ⊢
      rw [h.bridges]
      exact hb b

theorem OnChannels.moves {s t : State} (h : OnChannels s t) : TripMoves s t :=
  .of_same h.toCalm h.flags (by rw [h.trip]) (by rw [h.trip]) (by rw [h.trip]) (by rw [h.trip])
    fun hb b => by
      unfold State.bridgeState at hb ⊢
      rw [h.bridges]
      exact hb b

/-- An action on one bridge, which does not bring a locked-out bridge back. -/
theorem OnBridge.moves {b : Index} {s t : State} (h : OnBridge b s t)
    (hb : s.bridgeState b = .lockout → t.bridgeState b = .lockout) : TripMoves s t :=
  .of_same h.toCalm h.flags (by rw [h.trip]) (by rw [h.trip]) (by rw [h.trip]) (by rw [h.trip])
    fun hall j => by
      by_cases hj : j = b
      · subst hj
        exact hb (hall j)
      · exact (congrArg Bridge.state (h.bridges j hj)).trans (hall j)

theorem moves_forAll (s : State) (order : List Index) (f : Index → State → State)
    (h : ∀ i t, TripMoves t (f i t)) : TripMoves s (s.forAll order f) := by
  induction order generalizing s with
  | nil => exact TripMoves.refl s
  | cons i rest ih => exact (h i s).trans (ih (f i s))

theorem moves_mapMonitor (s : State) (f : Monitor → Monitor)
    (hlow : (f s.monitor).lowTable = s.monitor.lowTable)
    (hhigh : (f s.monitor).highTable = s.monitor.highTable) : TripMoves s (s.mapMonitor f) :=
  .of_same (calm_mapMonitor s f hlow hhigh) (fun _ _ h => h) rfl rfl rfl rfl id

theorem moves_raise (s : State) (e : Event) : TripMoves s (s.raise e) := (onRecorder_raise s e).moves

theorem moves_trigger (s : State) (x : TriggerSource) : TripMoves s (s.trigger x) :=
  (onRecorder_trigger s x).moves

theorem moves_latchTrip (s : State) (c : TripCause) (h : s.trip.latched = false) :
    TripMoves s (s.latchTrip c) where
  toCalm := calm_latchTrip s c
  flags := by
    obtain ⟨t, hb, hc⟩ := latchTrip_parts s c
    have hlatched : FlagsKept s (s.latched c) := by
      unfold State.latched
      exact fun l k h => (onRecorder_tripEvent _).flags l k h
    exact (hlatched.trans hb.flags).trans hc.flags
  latched := fun h' => absurd (h.symm.trans h') Bool.false_ne_true
  causes := fun h' => absurd (h.symm.trans h') Bool.false_ne_true
  kept := fun h' => absurd (h.symm.trans h') Bool.false_ne_true
  lockout := fun h' => absurd (h.symm.trans h') Bool.false_ne_true
  fresh := fun _ _ => by
    rw [latchTrip_trip]
    exact ⟨rfl, rfl, latchTrip_bridgeState s c, latchTrip_flagged s c⟩

theorem moves_raiseCause (s : State) (c : TripCause) : TripMoves s (s.raiseCause c) := by
  cases h : s.trip.latched with
  | false =>
    rw [raiseCause_of_unlatched s c h]
    exact moves_latchTrip s c h
  | true =>
    cases hc : hasBit s.trip.causes c.bit with
    | true =>
      rw [raiseCause_of_held s c h hc]
      exact TripMoves.refl s
    | false =>
      rw [raiseCause_of_joining s c h hc]
      refine TripMoves.trans ?_ (onRecorder_tripEvent _).moves
      exact
        { toCalm := calm_mapTrip s _
          flags := fun _ _ h => h
          latched := id
          causes := fun _ k hk => hasBit_addBit_of_hasBit _ _ _ hk
          kept := fun _ => ⟨rfl, rfl⟩
          lockout := fun _ => id
          fresh := fun h' => absurd (h'.symm.trans h) Bool.false_ne_true }

/-- A cause raised is in the set of a latched trip. -/
theorem raiseCause_shows (s : State) (c : TripCause) :
    (s.raiseCause c).trip.latched = true ∧ hasBit (s.raiseCause c).trip.causes c.bit = true := by
  cases h : s.trip.latched with
  | false =>
    rw [raiseCause_of_unlatched s c h, latchTrip_trip]
    exact ⟨rfl, hasBit_addBit_cause 0 c⟩
  | true =>
    cases hc : hasBit s.trip.causes c.bit with
    | true =>
      rw [raiseCause_of_held s c h hc]
      exact ⟨h, hc⟩
    | false =>
      rw [raiseCause_of_joining s c h hc, (onRecorder_tripEvent _).trip]
      exact ⟨h, hasBit_addBit_cause _ c⟩

/-! ### The scan counts -/

/-- The scan counts of both checks stand as they did. -/
def CountsKept (s t : State) : Prop :=
  t.trip.overcurrentScans = s.trip.overcurrentScans ∧
    ∀ c, (t.channels.get c).overvoltageScans = (s.channels.get c).overvoltageScans

theorem CountsKept.refl (s : State) : CountsKept s s := ⟨rfl, fun _ => rfl⟩

theorem CountsKept.trans {s t u : State} (h : CountsKept s t) (k : CountsKept t u) : CountsKept s u :=
  ⟨k.1.trans h.1, fun c => (k.2 c).trans (h.2 c)⟩

theorem CountsKept.of_eq {s t : State} (ht : t.trip = s.trip) (hc : t.channels = s.channels) :
    CountsKept s t := ⟨by rw [ht], fun c => by rw [hc]⟩

theorem raiseCause_counts (s : State) (c : TripCause) : CountsKept s (s.raiseCause c) := by
  cases h : s.trip.latched with
  | false =>
    rw [raiseCause_of_unlatched s c h]
    exact ⟨by rw [latchTrip_trip], fun d => by rw [latchTrip_channel]; rfl⟩
  | true =>
    cases hc : hasBit s.trip.causes c.bit with
    | true =>
      rw [raiseCause_of_held s c h hc]
      exact CountsKept.refl s
    | false =>
      rw [raiseCause_of_joining s c h hc]
      let t := s.mapTrip (fun x => { x with causes := addBit x.causes c.bit })
      have ht : CountsKept s t := ⟨rfl, fun _ => rfl⟩
      exact ht.trans (.of_eq (onRecorder_tripEvent _).trip (onRecorder_tripEvent _).channels)

theorem tripEvent_recorder (s : State) : s.tripEvent.recorder = s.recorder := by
  unfold State.tripEvent State.trigger
  split <;> rfl

theorem raiseCause_recorder (s : State) (c : TripCause) : (s.raiseCause c).recorder = s.recorder := by
  cases h : s.trip.latched with
  | false => rw [raiseCause_of_unlatched s c h, latchTrip_recorder]
  | true =>
    cases hc : hasBit s.trip.causes c.bit with
    | true => rw [raiseCause_of_held s c h hc]
    | false => exact (congrArg State.recorder (raiseCause_of_joining s c h hc)).trans (tripEvent_recorder _)

/-- What a step beside the checks and the recorder's own does to the trip unit. -/
structure Moves (s t : State) : Prop extends TripMoves s t where
  counts : CountsKept s t
  recorder : t.recorder = s.recorder

theorem Moves.refl (s : State) : Moves s s := ⟨TripMoves.refl s, CountsKept.refl s, rfl⟩

theorem Moves.trans {s t u : State} (h : Moves s t) (k : Moves t u) : Moves s u :=
  ⟨h.toTripMoves.trans k.toTripMoves, h.counts.trans k.counts, k.recorder.trans h.recorder⟩

theorem raise_moves (s : State) (e : Event) : Moves s (s.raise e) :=
  ⟨moves_raise s e, CountsKept.refl s, rfl⟩

theorem trigger_moves (s : State) (x : TriggerSource) : Moves s (s.trigger x) :=
  ⟨moves_trigger s x, .of_eq (onRecorder_trigger s x).trip (onRecorder_trigger s x).channels, by
    obtain ⟨l, hl⟩ := trigger_eq s x
    rw [hl]⟩

theorem mapMonitor_moves (s : State) (f : Monitor → Monitor)
    (hlow : (f s.monitor).lowTable = s.monitor.lowTable)
    (hhigh : (f s.monitor).highTable = s.monitor.highTable) : Moves s (s.mapMonitor f) :=
  ⟨moves_mapMonitor s f hlow hhigh, CountsKept.refl s, rfl⟩

theorem raiseCause_moves (s : State) (c : TripCause) : Moves s (s.raiseCause c) :=
  ⟨moves_raiseCause s c, raiseCause_counts s c, raiseCause_recorder s c⟩

/-- Actions on the bridges one by one that bring no locked-out bridge back. -/
theorem forAll_moves (s : State) (order : List Index) (f : Index → State → State)
    (hf : ∀ b t, OnBridge b t (f b t))
    (hb : ∀ b t, t.bridgeState b = .lockout → (f b t).bridgeState b = .lockout) :
    Moves s (s.forAll order f) := by
  have hon := onBridges_forAll s order f hf
  exact ⟨moves_forAll s order f fun b t => (hf b t).moves (hb b t), .of_eq hon.trip hon.channels,
    hon.recorder⟩

/-! ### The monitor's steps -/

theorem breach_moves (s : State) (c : TripCause) (x : Bool) : Moves s (s.breach c x) := by
  unfold State.breach
  split
  · exact Moves.refl s
  · split_ifs
    · exact (raiseCause_moves s c).trans (mapMonitor_moves _ _ rfl rfl)
    · exact Moves.refl s

theorem episodeEvent_moves (s : State) (x : Bool) : Moves s (s.episodeEvent x) := by
  unfold State.episodeEvent
  split
  · exact Moves.refl s
  · exact raise_moves s _

theorem holdRequestOn_of_lockout (s : State) (b : Index) (h : s.bridgeState b = .lockout) :
    s.holdRequestOn b = s := by
  unfold State.holdRequestOn
  rw [h]

theorem clearHeld_of_lockout (s : State) (b : Index) (c : HeldCause) (h : s.bridgeState b = .lockout) :
    s.clearHeld b c = s :=
  clearHeld_of_not_held s b c (by rw [h]; exact BridgeState.noConfusion)

theorem turnHoldOn_moves (s : State) : Moves s s.turnHoldOn :=
  (mapMonitor_moves s _ rfl rfl).trans
    (forAll_moves _ _ _ (fun b t => onBridge_holdRequestOn t b) fun b t h => by
      rw [holdRequestOn_of_lockout t b h]
      exact h)

theorem turnHoldOff_moves (s : State) : Moves s s.turnHoldOff := by
  unfold State.turnHoldOff
  split_ifs
  · exact (mapMonitor_moves s _ rfl rfl).trans
      (forAll_moves _ _ _ (fun b t => onBridge_clearHeld t b .dip) fun b t h => by
        rw [clearHeld_of_lockout t b .dip h]
        exact h)
  · exact Moves.refl s

theorem updateHold_moves (s : State) : Moves s s.updateHold := by
  unfold State.updateHold
  split_ifs
  · exact turnHoldOff_moves s
  · exact Moves.refl s
  · exact turnHoldOn_moves s
  · exact Moves.refl s

theorem listStart_moves (s : State) : Moves s s.listStart := by
  unfold State.listStart
  dsimp only
  split_ifs
  · exact (raiseCause_moves s _).trans (mapMonitor_moves _ _ rfl rfl)
  · exact mapMonitor_moves s _ rfl rfl

theorem startEpisode_moves (s : State) (k : EpisodeKind) (x : Bool) : Moves s (s.startEpisode k x) := by
  unfold State.startEpisode
  dsimp only
  have h := mapMonitor_moves s
    (fun m => { m with
      episode := some (s.newEpisode k x), elapsedTime := 0, recoveryTimer := 0, state := k.state }) rfl rfl
  cases k
  · exact ((h.trans (mapMonitor_moves _ _ rfl rfl)).trans (trigger_moves _ _)).trans
      (episodeEvent_moves _ _)
  · exact (h.trans (trigger_moves _ _)).trans (episodeEvent_moves _ _)

theorem endEpisode_moves (s : State) : Moves s s.endEpisode :=
  (mapMonitor_moves s _ rfl rfl).trans (episodeEvent_moves _ _)

theorem recoveryScan_moves (s : State) : Moves s s.recoveryScan := by
  unfold State.recoveryScan
  split_ifs
  · exact endEpisode_moves s
  · exact Moves.refl s
  · exact mapMonitor_moves s _ rfl rfl

theorem enterRecovering_moves (s : State) : Moves s s.enterRecovering :=
  (mapMonitor_moves s _ rfl rfl).trans (turnHoldOff_moves _)

theorem recoverFrom_moves (s : State) (k : EpisodeKind) : Moves s (s.recoverFrom k) := by
  unfold State.recoverFrom
  dsimp only
  split_ifs
  · exact enterRecovering_moves s
  · exact Moves.refl s

theorem recoveryAtEntry_moves (s : State) : Moves s s.recoveryAtEntry := by
  unfold State.recoveryAtEntry
  split_ifs
  · exact recoveryScan_moves s
  · exact Moves.refl s

theorem testLimit_moves (s : State) (k : EpisodeKind) : Moves s (s.testLimit k) := by
  cases k
  · exact breach_moves s _ _
  · exact breach_moves s _ _

theorem testLastLevel_moves (s : State) (k : EpisodeKind) : Moves s (s.testLastLevel k) := by
  cases k
  · exact breach_moves s _ _
  · exact breach_moves s _ _

theorem supersede_moves (s : State) : Moves s s.supersede :=
  (mapMonitor_moves s _ rfl rfl).trans (episodeEvent_moves _ _)

theorem noteLevel_moves (s : State) : Moves s s.noteLevel := mapMonitor_moves s _ rfl rfl

/-- Every step of a list moves the trip unit so. -/
def MovesAll (l : List (State → State)) : Prop := ∀ f ∈ l, ∀ t, Moves t (f t)

theorem movesAll_nil : MovesAll [] := fun _ h => absurd h List.not_mem_nil

theorem movesAll_cons {f : State → State} {l : List (State → State)} (hf : ∀ t, Moves t (f t))
    (hl : MovesAll l) : MovesAll (f :: l) := List.forall_mem_cons.mpr ⟨hf, hl⟩

theorem movesAll_scanSteps (k : EpisodeKind) : MovesAll (scanSteps k) := by
  cases k
  · exact movesAll_cons noteLevel_moves (movesAll_cons (testLimit_moves · _)
      (movesAll_cons updateHold_moves (movesAll_cons (recoverFrom_moves · _)
        (movesAll_cons recoveryAtEntry_moves movesAll_nil))))
  · exact movesAll_cons noteLevel_moves (movesAll_cons (testLimit_moves · _)
      (movesAll_cons (recoverFrom_moves · _) (movesAll_cons recoveryAtEntry_moves movesAll_nil)))

theorem movesAll_openingSteps (s : State) (k : EpisodeKind) : MovesAll (s.openingSteps k) :=
  movesAll_cons listStart_moves (movesAll_cons (startEpisode_moves · k _) (movesAll_scanSteps k))

theorem movesAll_monitorSteps (s : State) : MovesAll s.monitorSteps := by
  unfold State.monitorSteps
  split
  · split
    · exact movesAll_openingSteps s _
    · exact movesAll_nil
  · exact movesAll_scanSteps _
  · exact movesAll_scanSteps _
  · split
    · exact movesAll_cons supersede_moves (movesAll_openingSteps s _)
    · exact movesAll_cons recoveryScan_moves movesAll_nil
  · exact movesAll_cons noteLevel_moves (movesAll_cons (testLastLevel_moves · _)
      (movesAll_cons (testLastLevel_moves · _) (movesAll_cons recoveryScan_moves movesAll_nil)))

/-! ### The checks -/

theorem accumulateAll_moves (s : State) : Moves s s.accumulateAll :=
  forAll_moves s _ _ (fun b t => onBridge_accumulate t b) fun b t h => by
    unfold State.bridgeState
    rw [accumulate_bridges]
    exact h

theorem overcurrentScan_tripMoves (s : State) (b : Index) : TripMoves s (s.overcurrentScan b) := by
  unfold State.overcurrentScan
  dsimp only
  have h : ∀ f : Trip → Trip, (f s.trip).latched = s.trip.latched → (f s.trip).causes = s.trip.causes →
      (f s.trip).breakerTrip = s.trip.breakerTrip → (f s.trip).tick = s.trip.tick →
      TripMoves s (s.mapTrip f) := fun f hl hc hb ht =>
    .of_same (calm_mapTrip s f) (fun _ _ h => h) hl hc hb ht id
  split_ifs
  · exact (h _ rfl rfl rfl rfl).trans (moves_raiseCause _ _)
  · exact h _ rfl rfl rfl rfl

theorem overvoltageScan_tripMoves (s : State) (c : Index) : TripMoves s (s.overvoltageScan c) := by
  unfold State.overvoltageScan
  dsimp only
  split_ifs
  · exact (onChannel_mapChannel s c _).all.moves.trans (moves_raiseCause _ _)
  · exact (onChannel_mapChannel s c _).all.moves

/-- A check moves its own count alone. -/
theorem overcurrentScan_counts (s : State) (b : Index) :
    (s.overcurrentScan b).trip.overcurrentScans =
        s.trip.overcurrentScans.set b (scanCount (s.trip.overcurrentScans.get b) (s.overTrip b)) ∧
      ∀ c, ((s.overcurrentScan b).channels.get c).overvoltageScans =
        (s.channels.get c).overvoltageScans := by
  unfold State.overcurrentScan
  dsimp only
  split_ifs
  · obtain ⟨hover, hvolt⟩ := raiseCause_counts (s.mapTrip (fun x =>
      { x with
        overcurrentScans :=
          x.overcurrentScans.set b (scanCount (s.trip.overcurrentScans.get b) (s.overTrip b)) }))
      .overcurrent
    exact ⟨hover, hvolt⟩
  · exact ⟨rfl, fun _ => rfl⟩

theorem overvoltageScan_counts (s : State) (b : Index) :
    (s.overvoltageScan b).trip.overcurrentScans = s.trip.overcurrentScans ∧
      ∀ c, ((s.overvoltageScan b).channels.get c).overvoltageScans =
        if b = c then scanCount (s.channels.get b).overvoltageScans (s.overVoltage b)
        else (s.channels.get c).overvoltageScans := by
  have hmap : ∀ c, ((s.mapChannel b (fun k =>
      { k with
        overvoltageScans := scanCount (s.channels.get b).overvoltageScans (s.overVoltage b) })).channels.get
          c).overvoltageScans =
      if b = c then scanCount (s.channels.get b).overvoltageScans (s.overVoltage b)
      else (s.channels.get c).overvoltageScans := fun c => by
    unfold State.mapChannel
    dsimp only
    rw [Four.get_set]
    split_ifs
    · rfl
    · rfl
  unfold State.overvoltageScan
  dsimp only
  split_ifs
  · obtain ⟨hover, hvolt⟩ := raiseCause_counts (s.mapChannel b (fun k =>
      { k with
        overvoltageScans := scanCount (s.channels.get b).overvoltageScans (s.overVoltage b) }))
      .cellOvervoltage
    exact ⟨hover, fun c => (hvolt c).trans (hmap c)⟩
  · exact ⟨rfl, hmap⟩

/-- Every step of a scan moves the trip unit so. -/
theorem tripMoves_run {s : State} {l : List ScanOp} {o : ScanOp} (ho : o ∈ l)
    (hl : MovesAll (l.filterMap ScanOp.monitor?)) : TripMoves s (o.run s) := by
  cases o with
  | monitor f => exact (hl f (List.mem_filterMap.mpr ⟨_, ho, rfl⟩) s).toTripMoves
  | accumulate => exact (accumulateAll_moves s).toTripMoves
  | overcurrent b => exact overcurrentScan_tripMoves s b
  | overvoltage c => exact overvoltageScan_tripMoves s c
  | record j => exact (onRecorder_recorderShare s j).moves

theorem tripMoves_runOps {s : State} {l : List ScanOp} (hl : MovesAll (l.filterMap ScanOp.monitor?)) :
    TripMoves s (runOps s l) := by
  induction l generalizing s with
  | nil => exact TripMoves.refl s
  | cons o rest ih =>
    refine (tripMoves_run List.mem_cons_self hl).trans (ih ?_)
    intro f hf
    obtain ⟨p, hp, hfp⟩ := List.mem_filterMap.mp hf
    exact hl f (List.mem_filterMap.mpr ⟨p, List.mem_cons_of_mem o hp, hfp⟩)

end Sys2Proof.Machine
end

section
/-! PROOF. The second consecutive scan over a limit trips (R139, R148, R150). -/

namespace Sys2Proof.Machine

/-! ### A check's own count through the other steps -/

theorem movesAll_of_sub {l m : List ScanOp} (hl : MovesAll (l.filterMap ScanOp.monitor?))
    (hm : ∀ o ∈ m, o ∈ l) : MovesAll (m.filterMap ScanOp.monitor?) := by
  intro f hf
  obtain ⟨o, ho, hfo⟩ := List.mem_filterMap.mp hf
  exact hl f (List.mem_filterMap.mpr ⟨o, hm o ho, hfo⟩)

theorem run_keeps_over {s : State} {o : ScanOp} {b : Index} (ho : o.over? ≠ some b)
    (hm : ∀ f, o.monitor? = some f → Moves s (f s)) :
    (o.run s).trip.overcurrentScans.get b = s.trip.overcurrentScans.get b := by
  cases o with
  | monitor f => exact congrArg (·.get b) (hm f rfl).counts.1
  | accumulate => exact congrArg (·.get b) (accumulateAll_moves s).counts.1
  | overcurrent d =>
    have hne : d ≠ b := fun h => ho (congrArg some h)
    exact (congrArg (·.get b) (overcurrentScan_counts s d).1).trans (Four.get_set_of_ne _ _ _ _ hne)
  | overvoltage c => exact congrArg (·.get b) (overvoltageScan_counts s c).1
  | record j => exact congrArg (fun x : Trip => x.overcurrentScans.get b) (onRecorder_recorderShare s j).trip

theorem run_keeps_volt {s : State} {o : ScanOp} {c : Index} (ho : o.volt? ≠ some c)
    (hm : ∀ f, o.monitor? = some f → Moves s (f s)) :
    ((o.run s).channels.get c).overvoltageScans = (s.channels.get c).overvoltageScans := by
  cases o with
  | monitor f => exact (hm f rfl).counts.2 c
  | accumulate => exact (accumulateAll_moves s).counts.2 c
  | overcurrent d => exact (overcurrentScan_counts s d).2 c
  | overvoltage d =>
    have hne : d ≠ c := fun h => ho (congrArg some h)
    exact ((overvoltageScan_counts s d).2 c).trans (if_neg hne)
  | record j =>
    exact congrArg (fun x : Four Channel => (x.get c).overvoltageScans)
      (onRecorder_recorderShare s j).channels

/-- What every step of a run keeps, the run keeps. -/
theorem runOps_keeps_value {α : Type} (g : State → α) {l : List ScanOp}
    (h : ∀ o ∈ l, ∀ s, g (o.run s) = g s) (s : State) : g (runOps s l) = g s := by
  induction l generalizing s with
  | nil => rfl
  | cons o rest ih =>
    rw [runOps_cons, ih (fun p hp => h p (List.mem_cons_of_mem o hp))]
    exact h o List.mem_cons_self s

theorem moves_of_mem {l : List ScanOp} {o : ScanOp} (hl : MovesAll (l.filterMap ScanOp.monitor?))
    (ho : o ∈ l) (s : State) (f : State → State) (hf : o.monitor? = some f) : Moves s (f s) :=
  hl f (List.mem_filterMap.mpr ⟨o, ho, hf⟩) s

/-- A step that stands once among those of a scan, with those around it free of it. -/
theorem scan_around {γ : Type} {l : List ScanOp} (p : ScanOp → Option γ) (o : ScanOp) (b : γ)
    (ho : p o = some b) (hnd : (l.filterMap p).Nodup) (hmem : o ∈ l) :
    ∃ pre post, l = pre ++ o :: post ∧ (∀ q ∈ pre, p q ≠ some b) ∧ ∀ q ∈ post, p q ≠ some b := by
  obtain ⟨pre, post, rfl⟩ := List.append_of_mem hmem
  rw [List.filterMap_append, List.filterMap_cons_some ho, List.nodup_append] at hnd
  obtain ⟨-, hpost, hdisj⟩ := hnd
  refine ⟨pre, post, rfl, fun q hq hqb => ?_, fun q hq hqb => ?_⟩
  · exact hdisj b (List.mem_filterMap.mpr ⟨q, hq, hqb⟩) b List.mem_cons_self rfl
  · exact (List.nodup_cons.mp hpost).1 (List.mem_filterMap.mpr ⟨q, hq, hqb⟩)

theorem mem_of_over? {l : List ScanOp} {b : Index} (h : b ∈ l.filterMap ScanOp.over?) :
    ScanOp.overcurrent b ∈ l := by
  obtain ⟨o, ho, hb⟩ := List.mem_filterMap.mp h
  cases o
  case overcurrent d =>
    obtain rfl : d = b := Option.some.inj hb
    exact ho
  all_goals exact absurd hb (by simp [ScanOp.over?])

theorem mem_of_volt? {l : List ScanOp} {c : Index} (h : c ∈ l.filterMap ScanOp.volt?) :
    ScanOp.overvoltage c ∈ l := by
  obtain ⟨o, ho, hc⟩ := List.mem_filterMap.mp h
  cases o
  case overvoltage d =>
    obtain rfl : d = c := Option.some.inj hc
    exact ho
  all_goals exact absurd hc (by simp [ScanOp.volt?])

/-! ### The scan that completes a run -/

theorem completesRun_second {x : Bool} (h : x = true) : completesRun 1 x = true ∧ scanCount 1 x = 2 := by
  subst h
  exact ⟨rfl, rfl⟩

theorem overcurrentScan_second (s : State) (b : Index) (hc : s.trip.overcurrentScans.get b = 1)
    (hx : s.overTrip b = true) :
    (s.overcurrentScan b).trip.overcurrentScans.get b = 2 ∧
      (s.overcurrentScan b).trip.latched = true ∧
      hasBit (s.overcurrentScan b).trip.causes TripCause.overcurrent.bit = true := by
  obtain ⟨hruns, htwo⟩ := completesRun_second hx
  refine ⟨?_, ?_⟩
  · rw [(overcurrentScan_counts s b).1, Four.get_set_self, hc, htwo]
  · unfold State.overcurrentScan
    rw [hc]
    dsimp only
    rw [if_pos hruns]
    exact raiseCause_shows _ .overcurrent

theorem overvoltageScan_second (s : State) (c : Index) (hc : (s.channels.get c).overvoltageScans = 1)
    (hx : s.overVoltage c = true) :
    ((s.overvoltageScan c).channels.get c).overvoltageScans = 2 ∧
      (s.overvoltageScan c).trip.latched = true ∧
      hasBit (s.overvoltageScan c).trip.causes TripCause.cellOvervoltage.bit = true := by
  obtain ⟨hruns, htwo⟩ := completesRun_second hx
  refine ⟨?_, ?_⟩
  · rw [(overvoltageScan_counts s c).2 c, if_pos rfl, hc, htwo]
  · unfold State.overvoltageScan
    rw [hc]
    dsimp only
    rw [if_pos hruns]
    exact raiseCause_shows _ .cellOvervoltage

/-- A scan at which the current of `b` completes its run (R148). -/
theorem actOnScan_overcurrent (v : State) (k : Nat) (b : Index)
    (hc : v.trip.overcurrentScans.get b = 1) (hx : v.overTrip b = true) :
    TripMoves v (v.actOnScan k) ∧ (v.actOnScan k).trip.overcurrentScans.get b = 2 ∧
      (v.actOnScan k).trip.latched = true ∧
      hasBit (v.actOnScan k).trip.causes TripCause.overcurrent.bit = true := by
  obtain ⟨l, hrun, hl⟩ := actOnScan_ops v k
  have hm : MovesAll (l.filterMap ScanOp.monitor?) := hl.monitors ▸ movesAll_monitorSteps v
  have hmem : ScanOp.overcurrent b ∈ l := mem_of_over? (by rw [hl.overs]; exact Index.mem_all b)
  obtain ⟨pre, post, rfl, hpre, hpost⟩ := scan_around ScanOp.over? (.overcurrent b) b rfl
    (by rw [hl.overs]; exact Index.all_nodup) hmem
  have hmpre : MovesAll (pre.filterMap ScanOp.monitor?) :=
    movesAll_of_sub hm fun o ho => List.mem_append_left _ ho
  have hmpost : MovesAll (post.filterMap ScanOp.monitor?) :=
    movesAll_of_sub hm fun o ho => List.mem_append_right _ (List.mem_cons_of_mem _ ho)
  let w := runOps v pre
  have hvw : TripMoves v w := tripMoves_runOps hmpre
  have hcount : w.trip.overcurrentScans.get b = v.trip.overcurrentScans.get b :=
    runOps_keeps_value (fun u => u.trip.overcurrentScans.get b)
      (fun o ho s => run_keeps_over (hpre o ho) (moves_of_mem hmpre ho s)) v
  obtain ⟨htwo, hlat, hbit⟩ := overcurrentScan_second w b (hcount.trans hc)
    ((overTrip_of_steady hvw.toSteady b).trans hx)
  have hafter : TripMoves (w.overcurrentScan b) (runOps (w.overcurrentScan b) post) :=
    tripMoves_runOps hmpost
  have hlast : (runOps (w.overcurrentScan b) post).trip.overcurrentScans.get b =
      (w.overcurrentScan b).trip.overcurrentScans.get b :=
    runOps_keeps_value (fun u => u.trip.overcurrentScans.get b)
      (fun o ho s => run_keeps_over (hpost o ho) (moves_of_mem hmpost ho s)) _
  have hw : v.actOnScan k = runOps (w.overcurrentScan b) post := by
    rw [hrun, runOps_append, runOps_cons]
    rfl
  rw [hw]
  exact ⟨(hvw.trans (overcurrentScan_tripMoves w b)).trans hafter, hlast.trans htwo,
    hafter.latched hlat, hafter.causes hlat _ hbit⟩

/-- A scan at which the cell voltage of `c` completes its run (R139). -/
theorem actOnScan_overvoltage (v : State) (k : Nat) (c : Index)
    (hc : (v.channels.get c).overvoltageScans = 1) (hx : v.overVoltage c = true) :
    TripMoves v (v.actOnScan k) ∧ ((v.actOnScan k).channels.get c).overvoltageScans = 2 ∧
      (v.actOnScan k).trip.latched = true ∧
      hasBit (v.actOnScan k).trip.causes TripCause.cellOvervoltage.bit = true := by
  obtain ⟨l, hrun, hl⟩ := actOnScan_ops v k
  have hm : MovesAll (l.filterMap ScanOp.monitor?) := hl.monitors ▸ movesAll_monitorSteps v
  have hmem : ScanOp.overvoltage c ∈ l := mem_of_volt? (by rw [hl.volts]; exact Index.mem_all c)
  obtain ⟨pre, post, rfl, hpre, hpost⟩ := scan_around ScanOp.volt? (.overvoltage c) c rfl
    (by rw [hl.volts]; exact Index.all_nodup) hmem
  have hmpre : MovesAll (pre.filterMap ScanOp.monitor?) :=
    movesAll_of_sub hm fun o ho => List.mem_append_left _ ho
  have hmpost : MovesAll (post.filterMap ScanOp.monitor?) :=
    movesAll_of_sub hm fun o ho => List.mem_append_right _ (List.mem_cons_of_mem _ ho)
  let w := runOps v pre
  have hvw : TripMoves v w := tripMoves_runOps hmpre
  have hcount : (w.channels.get c).overvoltageScans = (v.channels.get c).overvoltageScans :=
    runOps_keeps_value (fun u => (u.channels.get c).overvoltageScans)
      (fun o ho s => run_keeps_volt (hpre o ho) (moves_of_mem hmpre ho s)) v
  obtain ⟨htwo, hlat, hbit⟩ := overvoltageScan_second w c (hcount.trans hc)
    ((overVoltage_of_steady hvw.toSteady c).trans hx)
  have hafter : TripMoves (w.overvoltageScan c) (runOps (w.overvoltageScan c) post) :=
    tripMoves_runOps hmpost
  have hlast : ((runOps (w.overvoltageScan c) post).channels.get c).overvoltageScans =
      ((w.overvoltageScan c).channels.get c).overvoltageScans :=
    runOps_keeps_value (fun u => (u.channels.get c).overvoltageScans)
      (fun o ho s => run_keeps_volt (hpost o ho) (moves_of_mem hmpost ho s)) _
  have hw : v.actOnScan k = runOps (w.overvoltageScan c) post := by
    rw [hrun, runOps_append, runOps_cons]
    rfl
  rw [hw]
  exact ⟨(hvw.trans (overvoltageScan_tripMoves w c)).trans hafter, hlast.trans htwo,
    hafter.latched hlat, hafter.causes hlat _ hbit⟩

/-- What a scan that latches from `v` shows of the trip. -/
theorem tripMoves_shown {v w t : State} (h : TripMoves v w) (ht : Taken w t)
    (hlat : w.trip.latched = true) (hv : v.trip.latched = false) :
    t.trip.breakerTrip = true ∧ t.trip.tick = t.counter ∧ (∀ d, t.bridgeState d = .lockout) ∧
      ∀ l, t.flagged l 5 := by
  obtain ⟨hline, htick, hlock, hflag⟩ := h.fresh hv hlat
  refine ⟨?_, ?_, fun d => ?_, fun l => ht.flags l 5 (hflag l)⟩
  · rw [ht.trip]
    exact hline
  · rw [ht.trip, ht.counter, h.toCalm.counter]
    exact htick
  · unfold State.bridgeState at hlock ⊢
    rw [ht.bridges]
    exact hlock d

/-- Settles O32: the check that completes its run stands once among the scan's steps, and the others leave
its count and keep the latch. -/
theorem secondScansTrip : Obligations.SecondScansTrip := by
  intro x o s b hrun trips
  let v := s.completeScan x
  let w := v.actOnScan o.shares
  have ht := taken_settle w o
  have hscan := taken_scan s x o hrun
  have hshows : ∀ cause : TripCause, TripMoves v w → w.trip.latched = true →
      hasBit w.trip.causes cause.bit = true → trips (w.settle o) cause := fun cause hmoves hlat hbit =>
    ⟨(congrArg Trip.latched ht.trip).trans hlat, by rw [ht.trip]; exact hbit,
      fun hs => tripMoves_shown hmoves ht hlat hs, ht.sync.trans hmoves.sync,
      frameKept_settle (s := v) hmoves.toSteady o⟩
  refine ⟨fun hcount hlimit => ?_, fun hcount hlimit => ?_⟩
  · have hx : v.overTrip b = true := decide_eq_true (by
      rw [show v.scanner.i.get b = _ from scanned_i s.scanner _ x _ b]
      exact hlimit)
    obtain ⟨hmoves, htwo, hlat, hbit⟩ := actOnScan_overcurrent v o.shares b hcount hx
    refine ⟨_, ?_, hscan, ?_, hshows .overcurrent hmoves hlat hbit⟩
    · rw [exec_overcurrent, take_of_running s o _ hrun, takenIf_of_happened]
      · rfl
      · rw [hcount]
        change (true && (w.trip.overcurrentScans.get b == 2)) = true
        rw [htwo]
        rfl
    · rw [ht.trip]
      exact htwo
  · have hx : v.overVoltage b = true := decide_eq_true (by
      rw [show v.scanner.vCell.get b = _ from scanned_vCell s.scanner _ x _ b, scanned_e]
      exact hlimit)
    obtain ⟨hmoves, htwo, hlat, hbit⟩ := actOnScan_overvoltage v o.shares b hcount hx
    refine ⟨_, ?_, hscan, ?_, hshows .cellOvervoltage hmoves hlat hbit⟩
    · rw [exec_cellOvervoltage, take_of_running s o _ hrun, takenIf_of_happened]
      · rfl
      · rw [hcount]
        change (true && ((w.channels.get b).overvoltageScans == 2)) = true
        rw [htwo]
        rfl
    · rw [ht.channels]
      exact htwo

end Sys2Proof.Machine
end

section
/-! PROOF. The recorder's share of a scan (R162 to R164, R167). -/

namespace Sys2Proof.Machine

/-! ### Triggers leave the record's snapshots -/

theorem takeTrigger_record (s : State) (x : Trigger) :
    (s.takeTrigger x).recorder.ring = s.recorder.ring ∧
      (s.takeTrigger x).recorder.decimation = s.recorder.decimation := by
  unfold State.takeTrigger
  split
  · exact ⟨rfl, rfl⟩
  · exact ⟨rfl, rfl⟩

theorem takeTrigger_begun (s : State) (x : Trigger) (h : s.recorder.state ≠ .armed) :
    (s.takeTrigger x).recorder.state = s.recorder.state ∧
      (s.takeTrigger x).recorder.header = s.recorder.header := by
  rw [takeTrigger_of_not_armed s x h]
  exact ⟨rfl, rfl⟩

theorem takeTriggers_record (s : State) (k : Nat) :
    (s.takeTriggers k).recorder.ring = s.recorder.ring ∧
      (s.takeTriggers k).recorder.decimation = s.recorder.decimation := by
  have hfold : ∀ (l : List Trigger) (u : State),
      (l.foldl State.takeTrigger u).recorder.ring = u.recorder.ring ∧
        (l.foldl State.takeTrigger u).recorder.decimation = u.recorder.decimation := fun l => by
    induction l with
    | nil => exact fun _ => ⟨rfl, rfl⟩
    | cons x rest ih =>
      intro u
      obtain ⟨hring, hdec⟩ := takeTrigger_record u x
      obtain ⟨iring, idec⟩ := ih (u.takeTrigger x)
      exact ⟨iring.trans hring, idec.trans hdec⟩
  exact hfold _ { s with triggers := [] }

/-- Triggers taken by a recorder that is not ARMED leave its state and its header (R168). -/
theorem takeTriggers_begun (s : State) (k : Nat) (h : s.recorder.state ≠ .armed) :
    (s.takeTriggers k).recorder.state = s.recorder.state ∧
      (s.takeTriggers k).recorder.header = s.recorder.header := by
  have hfold : ∀ (l : List Trigger) (u : State), u.recorder.state ≠ .armed →
      (l.foldl State.takeTrigger u).recorder.state = u.recorder.state ∧
        (l.foldl State.takeTrigger u).recorder.header = u.recorder.header := fun l => by
    induction l with
    | nil => exact fun _ _ => ⟨rfl, rfl⟩
    | cons x rest ih =>
      intro u hu
      obtain ⟨hstate, hheader⟩ := takeTrigger_begun u x hu
      obtain ⟨istate, iheader⟩ := ih (u.takeTrigger x) (by rw [hstate]; exact hu)
      exact ⟨istate.trans hstate, iheader.trans hheader⟩
  exact hfold _ { s with triggers := [] } h

theorem takeTriggers_not_frozen (s : State) (k : Nat) (h : s.recorder.state ≠ .frozen) :
    (s.takeTriggers k).recorder.state ≠ .frozen := by
  have hfold : ∀ (l : List Trigger) (u : State), u.recorder.state ≠ .frozen →
      (l.foldl State.takeTrigger u).recorder.state ≠ .frozen := fun l => by
    induction l with
    | nil => exact fun _ h => h
    | cons x rest ih =>
      intro u hu
      refine ih _ ?_
      rw [takeTrigger_capturing u x hu]
      exact RecorderState.noConfusion
  exact hfold _ { s with triggers := [] } h

/-! ### The snapshot -/

theorem recorderScan_of_due (s : State) (hs : s.recorder.state ≠ .frozen)
    (hd : s.recorder.decimation + 1 = s.settings.recDecim) :
    s.recorderScan =
      (s.mapRecorder (fun r => { r with decimation := 0 })).keepSnapshot s.snapshotNow := by
  have hdue : s.snapshotDue = true := by simp [State.snapshotDue, hs, hd]
  unfold State.recorderScan
  split
  · rename_i h
    exact absurd h hs
  · rw [if_pos hdue]

theorem joinRing_last (n : Nat) (ring : List Snapshot) (x : Snapshot) (h : 0 < n) :
    (joinRing n ring x).getLast? = some x := by
  unfold joinRing
  dsimp only
  rw [List.length_append, List.length_singleton, List.drop_append_of_le_length (by omega)]
  exact List.getLast?_concat

/-- The snapshot of a scan is the newest of the ring or of the record. -/
theorem keepSnapshot_last (s : State) (x : Snapshot) (hs : s.recorder.state ≠ .frozen)
    (hd : s.recorder.decimation = 0) (hp : s.recorder.state = .capturing ∨ 0 < s.settings.recPre) :
    (s.keepSnapshot x).recorder.ring.getLast? = some x ∧
      (s.keepSnapshot x).recorder.decimation = 0 := by
  unfold State.keepSnapshot
  cases hstate : s.recorder.state with
  | frozen => exact absurd hstate hs
  | armed =>
    have hpre : 0 < s.settings.recPre :=
      hp.resolve_left (by rw [hstate]; exact RecorderState.noConfusion)
    exact ⟨joinRing_last _ _ x hpre, hd⟩
  | capturing =>
    dsimp only
    split
    · exact ⟨List.getLast?_concat, hd⟩
    · split_ifs
      · exact ⟨List.getLast?_concat, rfl⟩
      · exact ⟨List.getLast?_concat, hd⟩

theorem keepSnapshot_completes (s : State) (x : Snapshot) (h : RecordHeader)
    (hs : s.recorder.state = .capturing) (hh : s.recorder.header = some h)
    (hl : s.recorder.ring.length + 1 = h.plannedLength) :
    (s.keepSnapshot x).recorder.state = .frozen ∧
      (s.keepSnapshot x).recorder.ring.length = h.plannedLength ∧
      (s.keepSnapshot x).recorder.header = some h ∧ (s.keepSnapshot x).recorder.decimation = 0 ∧
      ∀ l, (s.keepSnapshot x).flagged l 6 := by
  have hlen : (s.recorder.ring ++ [x]).length = h.plannedLength := by
    rw [List.length_append, List.length_singleton, hl]
  have hkeep : s.keepSnapshot x =
      ((s.mapRecorder (fun r => { r with ring := r.ring ++ [x] })).mapRecorder
        (fun r => { r with state := .frozen, decimation := 0 })).raise (.record true h.cause) := by
    unfold State.keepSnapshot
    rw [hs, hh]
    exact if_pos hlen
  rw [hkeep]
  exact ⟨rfl, hlen, hh, rfl, fun l => raise_flagged _ _ l⟩

/-! ### The recorder's share among the others -/

theorem run_keeps_recorder {s : State} {o : ScanOp} (ho : o.record? = none)
    (hm : ∀ f, o.monitor? = some f → Moves s (f s)) : (o.run s).recorder = s.recorder := by
  cases o with
  | monitor f => exact (hm f rfl).recorder
  | accumulate => exact (accumulateAll_moves s).recorder
  | overcurrent b =>
    change (s.overcurrentScan b).recorder = s.recorder
    unfold State.overcurrentScan
    dsimp only
    split_ifs
    · exact raiseCause_recorder _ _
    · rfl
  | overvoltage c =>
    change (s.overvoltageScan c).recorder = s.recorder
    unfold State.overvoltageScan
    dsimp only
    split_ifs
    · exact raiseCause_recorder _ _
    · rfl
  | record j => exact absurd ho (by simp [ScanOp.record?])

/-- The scan about the recorder's share of it: the others come before or after, and leave the record. -/
theorem actOnScan_recorder (v : State) (k : Nat) :
    ∃ (w : State) (j : Nat), TripMoves v w ∧ w.recorder = v.recorder ∧
      TripMoves (w.recorderShare j) (v.actOnScan k) ∧
      (v.actOnScan k).recorder = (w.recorderShare j).recorder := by
  obtain ⟨l, hrun, hl⟩ := actOnScan_ops v k
  have hm : MovesAll (l.filterMap ScanOp.monitor?) := hl.monitors ▸ movesAll_monitorSteps v
  obtain ⟨j, hj⟩ := hl.records
  obtain ⟨o, ho, hoj⟩ := List.mem_filterMap.mp
    (show j ∈ l.filterMap ScanOp.record? by rw [hj]; exact List.mem_cons_self)
  obtain ⟨pre, post, rfl⟩ := List.append_of_mem ho
  have hmpre : MovesAll (pre.filterMap ScanOp.monitor?) :=
    movesAll_of_sub hm fun o ho => List.mem_append_left _ ho
  have hmpost : MovesAll (post.filterMap ScanOp.monitor?) :=
    movesAll_of_sub hm fun o ho => List.mem_append_right _ (List.mem_cons_of_mem _ ho)
  rw [List.filterMap_append, List.filterMap_cons_some hoj] at hj
  obtain ⟨hpre, hpost⟩ : pre.filterMap ScanOp.record? = [] ∧ post.filterMap ScanOp.record? = [] := by
    have hlen := congrArg List.length hj
    rw [List.length_append, List.length_cons, List.length_singleton] at hlen
    exact ⟨List.length_eq_zero_iff.mp (by omega), List.length_eq_zero_iff.mp (by omega)⟩
  have hrec : o = .record j := by
    cases o
    case record i => exact congrArg ScanOp.record (Option.some.inj hoj)
    all_goals exact absurd hoj (by simp [ScanOp.record?])
  subst hrec
  let w := runOps v pre
  have hw : v.actOnScan k = runOps (w.recorderShare j) post := by
    rw [hrun, runOps_append, runOps_cons]
    rfl
  refine ⟨w, j, tripMoves_runOps hmpre, ?_, ?_, ?_⟩
  · exact runOps_keeps_value State.recorder (fun o ho s =>
      run_keeps_recorder (List.filterMap_eq_nil_iff.mp hpre o ho) (moves_of_mem hmpre ho s)) v
  · rw [hw]
    exact tripMoves_runOps hmpost
  · rw [hw]
    exact runOps_keeps_value State.recorder (fun o ho s =>
      run_keeps_recorder (List.filterMap_eq_nil_iff.mp hpost o ho) (moves_of_mem hmpost ho s)) _

/-- Settles O37: the snapshot reads what no reader of the scan changes, and what follows leaves it. -/
theorem snapshotsJoinTheRecord : Obligations.SnapshotsJoinTheRecord := by
  intro x o s hrun hstate hdecim
  let v := s.completeScan x
  obtain ⟨w, j, hvw, hwr, hafter, hrec⟩ := actOnScan_recorder v o.shares
  let z := v.actOnScan o.shares
  let q := w.takeTriggers j
  have hqon : OnRecorder w q := onRecorder_takeTriggers w j
  obtain ⟨hqring, hqdec⟩ := takeTriggers_record w j
  have hqs : q.recorder.state ≠ .frozen := takeTriggers_not_frozen w j (by rw [hwr]; exact hstate)
  have hvq : Calm v q := hvw.toCalm.trans' hqon.toCalm
  have hshare : w.recorderShare j =
      (q.mapRecorder (fun r => { r with decimation := 0 })).keepSnapshot q.snapshotNow :=
    recorderScan_of_due q hqs (by
      rw [hqdec, hwr, hvq.settings]
      exact hdecim)
  have ht := taken_settle z o
  have hcalm : Calm v z := calm_actOnScan v o.shares
  have hscan := taken_scan s x o hrun
  have hring : (z.settle o).recorder.ring = z.recorder.ring :=
    (congrArg Recorder.ring (settle_recorder z o)).trans (takeTriggers_record z o.triggers).1
  have hdec : (z.settle o).recorder.decimation = z.recorder.decimation :=
    (congrArg Recorder.decimation (settle_recorder z o)).trans (takeTriggers_record z o.triggers).2
  have hframe := frameKept_settle (s := v) hcalm.toSteady o
  refine ⟨fun hpre => ?snapshot, fun h hcap hheader hlen => ?complete⟩
  case snapshot =>
    have hqp : q.recorder.state = .capturing ∨ 0 < q.settings.recPre := by
      obtain hc | hp := hpre
      · have hw' : w.recorder.state = .capturing := by rw [hwr]; exact hc
        exact .inl ((takeTriggers_begun w j (by rw [hw']; exact RecorderState.noConfusion)).1.trans hw')
      · exact .inr (by rw [hvq.settings]; exact hp)
    obtain ⟨hlast, hzero⟩ := keepSnapshot_last
      (q.mapRecorder (fun r => { r with decimation := 0 })) q.snapshotNow hqs rfl hqp
    rw [← hshare, ← hrec] at hlast hzero
    have htscan : (z.settle o).scanner = q.scanner :=
      ht.scanner.trans (hcalm.scanner.trans hvq.scanner.symm)
    have htsync : (z.settle o).sync = q.sync := ht.sync.trans (hcalm.sync.trans hvq.sync.symm)
    have htick : q.scanner.scanTick = (z.settle o).counter := by
      rw [hvq.scanner, ht.counter, hcalm.counter]
      rfl
    refine ⟨_, q.snapshotNow, ?_, hscan, by rw [hring]; exact hlast, hdec.trans hzero, htick,
      (congrArg Scanner.u htscan).symm, (congrArg Scanner.i htscan).symm,
      (congrArg Scanner.e htscan).symm, (congrArg Scanner.g htscan).symm, ?_,
      (congrArg Sync.state htsync).symm, ht.sync.trans hcalm.sync, hframe⟩
    · rw [exec_snapshot, take_of_running s o _ hrun, takenIf_of_happened]
      · rfl
      · simp [State.snapshotDue, hstate, hdecim]
    · change q.sync.phaseAt q.scanner.scanTick = (z.settle o).phase
      unfold State.phase
      rw [htsync, htick]
  case complete =>
    have hw' : w.recorder.state = .capturing := by rw [hwr]; exact hcap
    obtain ⟨hqcap, hqheader⟩ := takeTriggers_begun w j (by rw [hw']; exact RecorderState.noConfusion)
    obtain ⟨hfrozen, hlast, hhead, hzero, hflag⟩ := keepSnapshot_completes
      (q.mapRecorder (fun r => { r with decimation := 0 })) q.snapshotNow h (hqcap.trans hw')
      (by rw [State.mapRecorder_recorder, hqheader, hwr]; exact hheader)
      (by rw [State.mapRecorder_recorder, hqring, hwr]; exact hlen)
    rw [← hshare] at hflag
    rw [← hshare, ← hrec] at hfrozen hlast hhead hzero
    obtain ⟨htstate, htheader⟩ := takeTriggers_begun z o.triggers (by
      rw [hfrozen]
      exact RecorderState.noConfusion)
    refine ⟨_, ?_, hscan, ?_, by rw [hring]; exact hlast, ?_, hdec.trans hzero,
      fun l => ht.flags l 6 (hafter.flags l 6 (hflag l)), ht.sync.trans hcalm.sync, hframe⟩
    · rw [exec_captureComplete, take_of_running s o _ hrun, takenIf_of_happened]
      · rfl
      · rw [hcap]
        change (true && (z.recorder.state == .frozen)) = true
        rw [hfrozen]
        rfl
    · rw [settle_recorder]
      exact htstate.trans hfrozen
    · rw [settle_recorder]
      exact htheader.trans hhead

end Sys2Proof.Machine
end

section
/-! PROOF. MILLISECOND_TICK: its shares in every order, and what each counts (R5, R51, R57, R62, R64, R67,
R68, R190). -/

namespace Sys2Proof.Machine

/-! ### What a share leaves alone -/

/-- The state apart from authority and its watchdog, which the watchdog's share alone changes. -/
def State.unwatched (s : State) : State := { s with holder := .p, watchdog := 0 }

/-- What every share of a millisecond tick leaves alone. -/
def Ticks (s t : State) : Prop := Calm s.unwatched t.unwatched

theorem Calm.ticks {s t : State} (h : Calm s t) : Ticks s t :=
  ⟨⟨h.elapsed, h.millisecondAt, h.inReset, h.rate, h.breakerClosed, h.settings, h.scanner, h.lowTable,
    h.highTable, rfl, rfl, h.pending, h.links⟩, h.sync⟩

theorem Ticks.calm {s t : State} (h : Ticks s t) : Calm s.unwatched t.unwatched := h

theorem Ticks.refl (s : State) : Ticks s s := Calm.rfl' _

theorem Ticks.trans {s t u : State} (h : Ticks s t) (k : Ticks t u) : Ticks s u := Calm.trans' h k

theorem Ticks.settings {s t : State} (h : Ticks s t) : t.settings = s.settings :=
  h.calm.settings

theorem Ticks.scanner {s t : State} (h : Ticks s t) : t.scanner = s.scanner :=
  h.calm.scanner

theorem Ticks.sync {s t : State} (h : Ticks s t) : t.sync = s.sync := h.calm.sync

theorem Ticks.elapsed {s t : State} (h : Ticks s t) : t.elapsed = s.elapsed :=
  h.calm.elapsed

theorem Ticks.millisecondAt {s t : State} (h : Ticks s t) : t.millisecondAt = s.millisecondAt :=
  h.calm.millisecondAt

theorem Ticks.counter {s t : State} (h : Ticks s t) : t.counter = s.counter := by
  unfold State.counter
  rw [h.elapsed]

theorem coreKept_of_ticks {s t : State} (h : Ticks s t) (o : Schedule) : s.coreKept (t.settle o) := by
  have hc := h.calm
  refine ⟨?_, ?_, ?_, ?_, ?_, ?_, ?_, settle_settled t o, fun l => ?_⟩
  · exact (settle_inReset t o).trans hc.inReset
  · exact (settle_rate t o).trans hc.rate
  · exact (settle_breakerClosed t o).trans hc.breakerClosed
  · exact (settle_settings t o).trans hc.settings
  · rw [settle_monitor]
    exact hc.lowTable
  · rw [settle_monitor]
    exact hc.highTable
  · exact (settle_pending t o).trans hc.pending
  · exact LinkState.lineKept_trans (lineKept_of_unsummed (hc.links l)) (settle_lineKept t o l)

theorem ticks_authority (s : State) (l : Link) (n : Nat) :
    Ticks s { s with holder := l, watchdog := n } := Calm.rfl' _

theorem onChannels_supervise (s : State) :
    OnChannels s (s.forAll Index.all (fun c t => t.superviseChannel c)) :=
  onChannels_forAll _ _ _ fun c t => onChannel_superviseChannel t c

/-- The watchdog's share, by what it does (R190, R191). -/
theorem watchdogTick_of_unused (s : State) (h : s.settings.authTimeout = 0) :
    s.watchdogTick = { s with watchdog := 0 } := if_pos h

theorem watchdogTick_of_counting (s : State) (h : s.settings.authTimeout ≠ 0)
    (hd : s.watchdogDue = false) : s.watchdogTick = { s with watchdog := s.watchdog + 1 } :=
  (if_neg h).trans (if_neg (by rw [hd]; exact Bool.false_ne_true))

theorem watchdogTick_of_due (s : State) (hd : s.watchdogDue = true) :
    s.watchdogTick = s.expireWatchdog := by
  have h : s.settings.authTimeout ≠ 0 := fun h0 => by
    simp [State.watchdogDue, h0] at hd
  exact (if_neg h).trans (if_pos hd)

theorem expireWatchdog_of_s (s : State) (h : s.holder = .s) :
    s.expireWatchdog = ({ s with holder := .p, watchdog := 0 } : State).raise (.authority .p) := by
  unfold State.expireWatchdog
  rw [h]
  rfl

theorem expireWatchdog_of_p (s : State) (h : s.holder = .p) :
    s.expireWatchdog =
      (({ s with watchdog := 0 } : State).raise .supervision).forAll Index.all
        (fun c t => t.superviseChannel c) := by
  unfold State.expireWatchdog
  rw [h]

/-- What the watchdog's share touches besides authority: channels, at a supervision loss. -/
structure OnWatchdog (s t : State) : Prop where
  ticks : Ticks s t
  monitor : t.monitor = s.monitor
  bridges : t.bridges = s.bridges
  regulators : t.regulators = s.regulators
  trip : t.trip = s.trip
  recorder : t.recorder = s.recorder
  triggers : t.triggers = s.triggers
  flags : FlagsKept s t
  channels : (∀ c, s.bridgeState c ≠ .running) ∨ s.watchdogDue = false → t.channels = s.channels

theorem superviseChannel_of_idle (s : State) (c : Index) (h : s.bridgeState c ≠ .running) :
    s.superviseChannel c = s := if_neg h

theorem onWatchdog_tick (s : State) : OnWatchdog s s.watchdogTick := by
  by_cases h0 : s.settings.authTimeout = 0
  · rw [watchdogTick_of_unused s h0]
    exact ⟨ticks_authority s _ _, rfl, rfl, rfl, rfl, rfl, rfl, fun _ _ h => h, fun _ => rfl⟩
  · cases hd : s.watchdogDue with
    | false =>
      rw [watchdogTick_of_counting s h0 hd]
      exact ⟨ticks_authority s _ _, rfl, rfl, rfl, rfl, rfl, rfl, fun _ _ h => h, fun _ => rfl⟩
    | true =>
      rw [watchdogTick_of_due s hd]
      cases hh : s.holder with
      | s =>
        rw [expireWatchdog_of_s s hh]
        exact ⟨(ticks_authority s .p 0).trans (calm_raise _ _).ticks, rfl, rfl, rfl, rfl, rfl, rfl,
          flagsKept_raise _ _, fun _ => rfl⟩
      | p =>
        rw [expireWatchdog_of_p s hh]
        let u := ({ s with watchdog := 0 } : State).raise .supervision
        have hon := onChannels_supervise u
        refine ⟨((ticks_authority s s.holder 0).trans (calm_raise _ _).ticks).trans hon.toCalm.ticks,
          hon.monitor, hon.bridges, hon.regulators, hon.trip, hon.recorder, hon.triggers,
          (flagsKept_raise { s with watchdog := 0 } _).trans hon.flags, fun h => ?_⟩
        have hidle : ∀ c, s.bridgeState c ≠ .running :=
          h.resolve_right (by rw [hd]; exact Bool.noConfusion)
        have hfix : u.forAll Index.all (fun c t => t.superviseChannel c) = u :=
          forAll_of_fixed u Index.all _ fun c => superviseChannel_of_idle u c (hidle c)
        have hchannels := congrArg State.channels hfix
        exact hchannels

theorem ticks_share (s : State) (x : TickShare) : Ticks s (s.tickShare x) := by
  cases x
  · exact (calm_episodeTick s).ticks
  · exact (calm_frequencyTick s).ticks
  · exact (calm_channelsTick s).ticks
  · exact (onWatchdog_tick s).ticks

/-! ### The shares in order -/

/-- The shares of a tick taken in an order. -/
def tickRun (s : State) (l : List TickShare) : State := l.foldl State.tickShare s

theorem tickRun_append (s : State) (l m : List TickShare) :
    tickRun s (l ++ m) = tickRun (tickRun s l) m := List.foldl_append

/-- What every share of a list keeps, the list keeps. -/
theorem tickRun_keeps {P : State → Prop} {l : List TickShare}
    (h : ∀ x ∈ l, ∀ t, P t → P (t.tickShare x)) {s : State} (hs : P s) : P (tickRun s l) := by
  induction l generalizing s with
  | nil => exact hs
  | cons x rest ih =>
    exact ih (fun y hy => h y (List.mem_cons_of_mem x hy)) (h x List.mem_cons_self s hs)

theorem tickShares_nodup (k : Nat) : (inOrder k tickShares).Nodup :=
  (inOrder_perm k _).nodup_iff.mpr (by decide)

theorem mem_tickShares (k : Nat) (x : TickShare) : x ∈ inOrder k tickShares :=
  (inOrder_perm k _).mem_iff.mpr (by cases x <;> decide)

/-- A share stands once in the order of a tick. -/
theorem tick_around (k : Nat) (x : TickShare) :
    ∃ pre post, inOrder k tickShares = pre ++ x :: post ∧ x ∉ pre ∧ x ∉ post := by
  obtain ⟨pre, post, h⟩ := List.append_of_mem (mem_tickShares k x)
  have hnd := tickShares_nodup k
  rw [h, List.nodup_append] at hnd
  obtain ⟨-, hpost, hdisj⟩ := hnd
  exact ⟨pre, post, h, fun hx => hdisj x hx x List.mem_cons_self rfl, (List.nodup_cons.mp hpost).1⟩

theorem takeMillisecond_around (s : State) (k : Nat) (x : TickShare) :
    ∃ pre post, x ∉ pre ∧ x ∉ post ∧
      s.takeMillisecond k = tickRun ((tickRun s.reachMillisecond pre).tickShare x) post := by
  obtain ⟨pre, post, h, hpre, hpost⟩ := tick_around k x
  refine ⟨pre, post, hpre, hpost, ?_⟩
  unfold State.takeMillisecond
  rw [h]
  exact tickRun_append _ pre (x :: post)

theorem ticks_tickRun (s : State) (l : List TickShare) : Ticks s (tickRun s l) :=
  tickRun_keeps (P := Ticks s) (fun x _ t ht => ht.trans (ticks_share t x)) (Ticks.refl s)

theorem ticks_takeMillisecond (s : State) (k : Nat) :
    Ticks s.reachMillisecond (s.takeMillisecond k) := ticks_tickRun _ _

/-- A relation that one share passes on, and the others keep, a tick passes on. -/
theorem takeMillisecond_follows (s : State) (k : Nat) (x : TickShare) {R : State → State → Prop}
    (hother : ∀ y, y ≠ x → ∀ t u, R t u → R t (u.tickShare y))
    (hown : ∀ u, R s.reachMillisecond u → R (s.reachMillisecond.tickShare x) (u.tickShare x))
    (h : R s.reachMillisecond s.reachMillisecond) :
    R (s.reachMillisecond.tickShare x) (s.takeMillisecond k) := by
  obtain ⟨pre, post, hpre, hpost, heq⟩ := takeMillisecond_around s k x
  rw [heq]
  refine tickRun_keeps (P := R _) (fun y hy t ht => hother y (fun e => hpost (e ▸ hy)) _ t ht)
    (hown _ ?_)
  exact tickRun_keeps (P := R _) (fun y hy t ht => hother y (fun e => hpre (e ▸ hy)) _ t ht) h

/-! ### The monitor's share -/

/-- The monitor at the entry to LONG, to RECOVERING, and at the end of an episode (R56, R57, R59). -/
def Monitor.longed (m : Monitor) : Monitor :=
  { (m.rampCaps.mapEpisode (fun e => { e with outcome := .sustained })) with
    state := .long, recoveryTimer := 0, holdRequest := false }

def Monitor.recoveringNow (m : Monitor) : Monitor :=
  { m.rampCaps with state := .recovering, recoveryTimer := 0, holdRequest := false }

def Monitor.ended (m : Monitor) : Monitor :=
  { (m.mapEpisode (fun e =>
      { e with outcome := if m.state = .long then .sustained else .recovered })) with
    state := .normal, recoveryTimer := 0 }

theorem turnHoldOff_monitor (s : State) :
    s.turnHoldOff.monitor = { s.monitor with holdRequest := false } := by
  unfold State.turnHoldOff
  split_ifs with h
  · exact (onBridges_forAll _ _ _ fun b t => onBridge_clearHeld t b .dip).monitor
  · have hoff : s.monitor.holdRequest = false := by simpa using h
    rw [← hoff]

theorem turnHoldOn_monitor (s : State) :
    s.turnHoldOn.monitor = { s.monitor with holdRequest := true } :=
  (onBridges_forAll _ _ _ fun b t => onBridge_holdRequestOn t b).monitor

theorem episodeEvent_monitor (s : State) (x : Bool) : (s.episodeEvent x).monitor = s.monitor := by
  unfold State.episodeEvent
  split <;> rfl

theorem enterLong_monitor (s : State) : s.enterLong.monitor = s.monitor.longed :=
  turnHoldOff_monitor _

theorem enterRecovering_monitor (s : State) : s.enterRecovering.monitor = s.monitor.recoveringNow :=
  turnHoldOff_monitor _

theorem endEpisode_monitor (s : State) : s.endEpisode.monitor = s.monitor.ended :=
  episodeEvent_monitor _ true

/-- The monitor after a millisecond tick's ages and caps (R62, R67, R68). -/
def Monitor.aged (m : Monitor) (st : Settings) (sc : Scanner) : Monitor :=
  { m.agesTick with
    cap := Four.tabulate (fun c =>
      (m.cap.get c).bind (capTick (m.state == .low) sc.g st.capFloor st.recoveryRate
        (m.refStart.get c))) }

/-- A grid level in the recovery band (R57). -/
def Settings.band (st : Settings) (g : Nat) : Bool := decide (st.dipEnd ≤ g) && decide (g ≤ st.swellEnd)

/-- The monitor after its episode share of a millisecond tick. -/
def Monitor.ticked (m : Monitor) (st : Settings) (sc : Scanner) : Monitor :=
  let n := m.aged st sc
  match m.state with
  | .normal => n
  | .low | .high =>
    if st.episodeMax ≤ m.elapsedTime + 1 then { n with elapsedTime := m.elapsedTime + 1 }.longed
    else { n with elapsedTime := m.elapsedTime + 1 }
  | .recovering | .long =>
    if st.band sc.g then
      if 0 < st.recoverTime ∧ st.recoverTime ≤ m.recoveryTimer + 1 then
        { n with recoveryTimer := m.recoveryTimer + 1 }.ended
      else { n with recoveryTimer := m.recoveryTimer + 1 }
    else n

theorem elapsedTick_monitor (s : State) :
    s.elapsedTick.monitor =
      if s.settings.episodeMax ≤ s.monitor.elapsedTime + 1 then
        { s.monitor with elapsedTime := s.monitor.elapsedTime + 1 }.longed
      else { s.monitor with elapsedTime := s.monitor.elapsedTime + 1 } := by
  by_cases h : s.settings.episodeMax ≤ s.monitor.elapsedTime + 1
  · rw [if_pos h]
    exact (congrArg State.monitor (if_pos (by exact h))).trans (enterLong_monitor _)
  · rw [if_neg h]
    exact congrArg State.monitor (if_neg (by exact h))

theorem recoveryTick_monitor (s : State) :
    s.recoveryTick.monitor =
      if s.settings.band s.scanner.g then
        if 0 < s.settings.recoverTime ∧ s.settings.recoverTime ≤ s.monitor.recoveryTimer + 1 then
          { s.monitor with recoveryTimer := s.monitor.recoveryTimer + 1 }.ended
        else { s.monitor with recoveryTimer := s.monitor.recoveryTimer + 1 }
      else s.monitor := by
  have hband : s.inBand = s.settings.band s.scanner.g := rfl
  unfold State.recoveryTick
  rw [hband]
  by_cases hb : s.settings.band s.scanner.g = true
  · rw [if_pos hb, if_pos hb]
    by_cases h : 0 < s.settings.recoverTime ∧ s.settings.recoverTime ≤ s.monitor.recoveryTimer + 1
    · rw [if_pos h]
      exact (congrArg State.monitor (if_pos (by exact h))).trans (endEpisode_monitor _)
    · rw [if_neg h]
      exact congrArg State.monitor (if_neg (by exact h))
  · rw [if_neg hb, if_neg hb]

theorem episodeTick_monitor (s : State) :
    s.episodeTick.monitor = s.monitor.ticked s.settings s.scanner := by
  have haged : ((s.mapMonitor Monitor.agesTick).capsTick).monitor =
      s.monitor.aged s.settings s.scanner := rfl
  unfold State.episodeTick Monitor.ticked
  dsimp only
  cases s.monitor.state
  case normal => exact haged
  case low | high =>
    dsimp only
    rw [elapsedTick_monitor, haged]
    rfl
  all_goals
    dsimp only
    rw [recoveryTick_monitor, haged]
    rfl

/-- The monitor's episode share does not read the excursion's items. -/
theorem ticked_excursionCleared (m : Monitor) (st : Settings) (sc : Scanner) :
    (m.ticked st sc).excursionCleared = (m.excursionCleared.ticked st sc).excursionCleared := by
  have hstate : m.excursionCleared.state = m.state := rfl
  have helapsed : m.excursionCleared.elapsedTime = m.elapsedTime := rfl
  have htimer : m.excursionCleared.recoveryTimer = m.recoveryTimer := rfl
  unfold Monitor.ticked
  rw [hstate, helapsed, htimer]
  cases m.state
  case normal => rfl
  case low | high =>
    dsimp only
    split_ifs
    · rfl
    · rfl
  all_goals
    dsimp only
    split_ifs
    · rfl
    · rfl
    · rfl

/-! ### The other shares leave the episode's items -/

theorem frequencyTick_monitor (s : State) :
    s.frequencyTick.monitor.excursionCleared = s.monitor.excursionCleared := by
  unfold State.frequencyTick
  dsimp only
  split
  · rfl
  · split_ifs
    · rfl
    · rw [State.mapMonitor_monitor, raiseCause_monitor]
      rfl
    · rfl
    · rfl

theorem channelsTick_monitor (s : State) : s.channelsTick.monitor = s.monitor := by
  have hpark : ∀ (t : State) (c : Index), (t.park c).monitor = t.monitor := fun t c => by
    unfold State.park
    rw [State.mapChannel_monitor, (onBridge_stopBridge _ c).monitor,
      (onChannel_setChannelState _ c _).monitor, State.mapChannel_monitor]
  unfold State.channelsTick
  dsimp only
  rw [forAll_keeps State.monitor _ _ _ fun c t => by
    unfold State.lowLoadTick
    dsimp only
    split_ifs
    · exact hpark t c
    · rfl
    · rfl]
  unfold State.barrierTest
  dsimp only
  rw [forAll_keeps State.monitor _ _ _ fun c t => by
    split_ifs
    · exact (onChannel_completeHead t c).monitor
    · rfl]
  exact forAll_keeps State.monitor _ _ _ fun c t => (onChannel_channelTick t _ c).monitor

/-- The monitor after a tick, its excursion apart. -/
theorem takeMillisecond_monitor (s : State) (k : Nat) :
    (s.takeMillisecond k).monitor.excursionCleared =
      (s.monitor.ticked s.settings s.scanner).excursionCleared := by
  let v := s.reachMillisecond
  let R : State → State → Prop := fun t u =>
    Ticks v u ∧ u.monitor.excursionCleared = t.monitor.excursionCleared
  have h : R (v.tickShare .episode) (s.takeMillisecond k) := by
    refine takeMillisecond_follows s k .episode (R := R) (fun y hy t u ⟨ht, hm⟩ => ?_) (fun u ⟨hu, hm⟩ => ?_)
      ⟨Ticks.refl v, rfl⟩
    · refine ⟨ht.trans (ticks_share u y), ?_⟩
      cases y
      case episode => exact absurd rfl hy
      case frequency => exact (frequencyTick_monitor u).trans hm
      case channels => exact (congrArg Monitor.excursionCleared (channelsTick_monitor u)).trans hm
      case watchdog => exact (congrArg Monitor.excursionCleared (onWatchdog_tick u).monitor).trans hm
    · refine ⟨hu.trans (ticks_share u .episode), ?_⟩
      change u.episodeTick.monitor.excursionCleared = v.episodeTick.monitor.excursionCleared
      rw [episodeTick_monitor, episodeTick_monitor, hu.settings, hu.scanner, ticked_excursionCleared,
        hm, ← ticked_excursionCleared]
  refine h.2.trans (congrArg Monitor.excursionCleared ?_)
  exact episodeTick_monitor v

/-! ### The watchdog and authority -/

theorem holder_of_calm {s t : State} (h : Calm s t) : t.holder = s.holder ∧ t.watchdog = s.watchdog :=
  ⟨h.holder, h.watchdog⟩

/-- Authority after a tick is as the watchdog's own share leaves it. -/
theorem takeMillisecond_authority (s : State) (k : Nat) :
    (s.takeMillisecond k).holder = s.watchdogTick.holder ∧
      (s.takeMillisecond k).watchdog = s.watchdogTick.watchdog := by
  have hcalm : ∀ y, y ≠ TickShare.watchdog → ∀ u : State, Calm u (u.tickShare y) := fun y hy u => by
    cases y
    case episode => exact calm_episodeTick u
    case frequency => exact calm_frequencyTick u
    case channels => exact calm_channelsTick u
    case watchdog => exact absurd rfl hy
  have hown : ∀ u w : State, u.settings = w.settings → u.holder = w.holder → u.watchdog = w.watchdog →
      u.watchdogTick.holder = w.watchdogTick.holder ∧
        u.watchdogTick.watchdog = w.watchdogTick.watchdog := fun u w hs hh hw => by
    have hdue : u.watchdogDue = w.watchdogDue := by
      unfold State.watchdogDue
      rw [hs, hw]
    by_cases h0 : w.settings.authTimeout = 0
    · rw [watchdogTick_of_unused w h0, watchdogTick_of_unused u (by rw [hs]; exact h0)]
      exact ⟨hh, rfl⟩
    · cases hd : w.watchdogDue with
      | false =>
        rw [watchdogTick_of_counting w h0 hd,
          watchdogTick_of_counting u (by rw [hs]; exact h0) (hdue.trans hd)]
        exact ⟨hh, by rw [hw]⟩
      | true =>
        rw [watchdogTick_of_due w hd, watchdogTick_of_due u (hdue.trans hd)]
        have hpart : ∀ z : State, z.expireWatchdog.holder = .p ∧ z.expireWatchdog.watchdog = 0 :=
          fun z => by
            cases hz : z.holder with
            | s =>
              rw [expireWatchdog_of_s z hz]
              exact ⟨rfl, rfl⟩
            | p =>
              rw [expireWatchdog_of_p z hz]
              have hon := onChannels_supervise (({ z with watchdog := 0 } : State).raise .supervision)
              exact ⟨hon.holder.trans hz, hon.watchdog⟩
        exact ⟨(hpart u).1.trans (hpart w).1.symm, (hpart u).2.trans (hpart w).2.symm⟩
  let v := s.reachMillisecond
  let R : State → State → Prop := fun t u =>
    Ticks v u ∧ u.holder = t.holder ∧ u.watchdog = t.watchdog
  have h : R (v.tickShare .watchdog) (s.takeMillisecond k) := by
    refine takeMillisecond_follows s k .watchdog (R := R) (fun y hy t u ⟨ht, hh, hw⟩ => ?_)
      (fun u ⟨hu, hh, hw⟩ => ?_) ⟨Ticks.refl v, rfl, rfl⟩
    · obtain ⟨hh', hw'⟩ := holder_of_calm (hcalm y hy u)
      exact ⟨ht.trans (ticks_share u y), hh'.trans hh, hw'.trans hw⟩
    · exact ⟨hu.trans (ticks_share u .watchdog), hown u v hu.settings hh hw⟩
  obtain ⟨-, hh, hw⟩ := h
  obtain ⟨hh', hw'⟩ := hown v s rfl rfl rfl
  exact ⟨hh.trans hh', hw.trans hw'⟩

/-! ### The tick as a command -/

theorem reachMillisecond_elapsed (s : State) :
    10000 ∣ s.reachMillisecond.elapsed ∧ s.elapsed ≤ s.reachMillisecond.elapsed ∧
      s.reachMillisecond.elapsed ≤ s.elapsed + 10000 := by
  have hspec := nextMultiple_spec 10000 s.elapsed s.millisecondAt (by decide)
  have helapsed : s.reachMillisecond.elapsed = nextMultiple 10000 s.elapsed s.millisecondAt :=
    runTo_elapsed s _ hspec.2.1
  rw [helapsed]
  exact hspec

theorem exec_tick (s : State) (o : Schedule) (h : s.inReset = false) :
    exec (.millisecondTick o) s = .next ((s.takeMillisecond o.shares).settle o) := by
  rw [exec_millisecondTick, take_of_running s o _ h]

theorem coreKept_tick (s : State) (o : Schedule) : s.coreKept ((s.takeMillisecond o.shares).settle o) :=
  coreKept_of_ticks (s := s.reachMillisecond) (ticks_takeMillisecond s o.shares) o

/-- The cap of a channel after a tick (R67, R68). -/
theorem aged_cap (m : Monitor) (st : Settings) (sc : Scanner) (c : Index) :
    (m.aged st sc).cap.get c =
      (m.cap.get c).bind (capTick (m.state == .low) sc.g st.capFloor st.recoveryRate (m.refStart.get c)) :=
  Four.get_tabulate _ c

theorem rampCaps_cap (m : Monitor) (c : Index) :
    m.rampCaps.cap.get c = (m.cap.get c).map RideCap.toRamp := Four.get_map _ _ c

/-- A ticked monitor keeps the ages and the caps of the tick, but for the ramps of an entry to LONG. -/
theorem ticked_parts (m : Monitor) (st : Settings) (sc : Scanner) :
    (m.ticked st sc).recent = (m.aged st sc).recent ∧ (m.ticked st sc).refStart = m.refStart ∧
      ((m.ticked st sc).cap = (m.aged st sc).cap ∨
        (m.ticked st sc).cap = (m.aged st sc).rampCaps.cap ∧ (m.state = .low ∨ m.state = .high) ∧
          st.episodeMax ≤ m.elapsedTime + 1) := by
  unfold Monitor.ticked
  cases hs : m.state
  case normal => exact ⟨rfl, rfl, .inl rfl⟩
  case low =>
    dsimp only
    split_ifs with h
    · exact ⟨rfl, rfl, .inr ⟨rfl, .inl rfl, h⟩⟩
    · exact ⟨rfl, rfl, .inl rfl⟩
  case high =>
    dsimp only
    split_ifs with h
    · exact ⟨rfl, rfl, .inr ⟨rfl, .inr rfl, h⟩⟩
    · exact ⟨rfl, rfl, .inl rfl⟩
  all_goals
    dsimp only
    split_ifs
    · exact ⟨rfl, rfl, .inl rfl⟩
    · exact ⟨rfl, rfl, .inl rfl⟩
    · exact ⟨rfl, rfl, .inl rfl⟩

theorem ticked_elapsedTime (m : Monitor) (st : Settings) (sc : Scanner) :
    (m.ticked st sc).elapsedTime =
      if m.state = .low ∨ m.state = .high then m.elapsedTime + 1 else m.elapsedTime := by
  unfold Monitor.ticked
  cases hs : m.state
  case normal => exact (if_neg (by simp)).symm
  case low | high =>
    rw [if_pos (by simp)]
    dsimp only
    split_ifs
    · rfl
    · rfl
  all_goals
    rw [if_neg (by simp)]
    dsimp only
    split_ifs
    · rfl
    · rfl
    · rfl

theorem ticked_recovering (m : Monitor) (st : Settings) (sc : Scanner)
    (h : m.state = .recovering ∨ m.state = .long) :
    (st.dipEnd ≤ sc.g → sc.g ≤ st.swellEnd → st.recoverTime = 0 ∨ m.recoveryTimer + 1 < st.recoverTime →
        (m.ticked st sc).recoveryTimer = m.recoveryTimer + 1 ∧ (m.ticked st sc).state = m.state) ∧
      (sc.g < st.dipEnd ∨ st.swellEnd < sc.g →
        (m.ticked st sc).recoveryTimer = m.recoveryTimer ∧ (m.ticked st sc).state = m.state) := by
  have hticked : m.ticked st sc =
      if st.band sc.g then
        if 0 < st.recoverTime ∧ st.recoverTime ≤ m.recoveryTimer + 1 then
          { m.aged st sc with recoveryTimer := m.recoveryTimer + 1 }.ended
        else { m.aged st sc with recoveryTimer := m.recoveryTimer + 1 }
      else m.aged st sc := by
    unfold Monitor.ticked
    obtain h | h := h
    all_goals rw [h]
  refine ⟨fun hlow hhigh hshort => ?_, fun hout => ?_⟩
  · have hband : st.band sc.g = true := by simp [Settings.band, hlow, hhigh]
    rw [hticked, if_pos hband, if_neg (by omega)]
    exact ⟨rfl, rfl⟩
  · have hband : ¬ st.band sc.g = true := by
      unfold Settings.band
      rw [Bool.and_eq_true, decide_eq_true_iff, decide_eq_true_iff]
      omega
    rw [hticked, if_neg hband]
    exact ⟨rfl, rfl⟩

/-- Settles O5: each item is counted by one share, and the others leave it. -/
theorem millisecondTickCounts : Obligations.MillisecondTickCounts := by
  intro o s hrun
  let w := s.takeMillisecond o.shares
  have ht := taken_settle w o
  have hticks : Ticks s.reachMillisecond w := ticks_takeMillisecond s o.shares
  have hmon := takeMillisecond_monitor s o.shares
  obtain ⟨hholder, hdog⟩ := takeMillisecond_authority s o.shares
  obtain ⟨hdvd, hlow, hhigh⟩ := reachMillisecond_elapsed s
  have helapsed : (w.settle o).elapsed = s.reachMillisecond.elapsed := ht.elapsed.trans hticks.elapsed
  obtain ⟨hrecent, hrefs, hcaps⟩ := ticked_parts s.monitor s.settings s.scanner
  have hcap : ∀ c, (w.settle o).monitor.cap.get c =
      (s.monitor.ticked s.settings s.scanner).cap.get c := fun c => by
    have hget := congrArg (fun m : Monitor => m.cap.get c) hmon
    rw [ht.monitor]
    exact hget
  have hwatch : (w.settle o).watchdog = s.watchdogTick.watchdog ∧
      (w.settle o).holder = s.watchdogTick.holder := by
    rw [settle_watchdog, settle_holder]
    exact ⟨hdog, hholder⟩
  refine ⟨_, exec_tick s o hrun, helapsed ▸ hdvd, helapsed ▸ hlow, helapsed ▸ hhigh, ?tickAt, ?recent,
    ?elapsed, fun hs => ?recovering, ?refs, fun c hc => ?nocap,
    fun c k hk => ⟨fun hmode => ?ramp, fun hmode hs he => ?dip, fun hmode hl hh => ?stands⟩,
    fun h0 => ?unused, fun hshort => ?counting, ht.scanner.trans hticks.scanner,
    ht.sync.trans hticks.sync, coreKept_tick s o⟩
  case tickAt =>
    rw [settle_millisecondAt, hticks.millisecondAt, helapsed]
    rfl
  case recent =>
    rw [ht.monitor]
    exact (congrArg Monitor.recent hmon).trans hrecent
  case elapsed =>
    rw [ht.monitor]
    exact (congrArg Monitor.elapsedTime hmon).trans (ticked_elapsedTime _ _ _)
  case recovering =>
    have htimer : (w.settle o).monitor.recoveryTimer =
        (s.monitor.ticked s.settings s.scanner).recoveryTimer := by
      have htimer := congrArg Monitor.recoveryTimer hmon
      rw [ht.monitor]
      exact htimer
    have hstate : (w.settle o).monitor.state = (s.monitor.ticked s.settings s.scanner).state := by
      have hstate := congrArg Monitor.state hmon
      rw [ht.monitor]
      exact hstate
    rw [htimer, hstate]
    exact ticked_recovering _ _ _ hs
  case refs =>
    rw [ht.monitor]
    exact (congrArg Monitor.refStart hmon).trans hrefs
  case nocap =>
    rw [hcap]
    have haged : (s.monitor.aged s.settings s.scanner).cap.get c = none := by
      rw [aged_cap, hc]
      rfl
    obtain h | ⟨h, -, -⟩ := hcaps
    · rw [h, haged]
    · rw [h, rampCaps_cap, haged]
      rfl
  case ramp =>
    have haged : (s.monitor.aged s.settings s.scanner).cap.get c =
        if s.monitor.refStart.get c ≤ k.value + s.settings.recoveryRate then none
        else some ⟨.ramp, k.value + s.settings.recoveryRate⟩ := by
      rw [aged_cap, hk, Option.bind_some]
      unfold capTick
      rw [hmode]
    rw [hcap]
    obtain h | ⟨h, -, -⟩ := hcaps
    · rw [h, haged]
    · rw [h, rampCaps_cap, haged]
      split_ifs
      · rfl
      · rfl
  case dip =>
    have h : (s.monitor.ticked s.settings s.scanner).cap =
        (s.monitor.aged s.settings s.scanner).cap := by
      obtain h | ⟨-, -, h⟩ := hcaps
      · exact h
      · omega
    rw [hcap, h, aged_cap, hk, Option.bind_some, hs]
    unfold capTick dipCap
    rw [hmode]
    dsimp only
    rw [← hmode]
    rfl
  case stands =>
    have h : (s.monitor.ticked s.settings s.scanner).cap =
        (s.monitor.aged s.settings s.scanner).cap := by
      obtain h | ⟨-, h, -⟩ := hcaps
      · exact h
      · exact absurd h (by simp [hl, hh])
    have hnot : (s.monitor.state == .low) = false := by simpa using hl
    rw [hcap, h, aged_cap, hk, Option.bind_some, hnot]
    unfold capTick
    rw [hmode]
    rfl
  case unused =>
    rw [hwatch.1, hwatch.2, watchdogTick_of_unused s h0]
    exact ⟨rfl, rfl⟩
  case counting =>
    have hd : s.watchdogDue = false := by
      unfold State.watchdogDue
      rw [Bool.and_eq_false_iff]
      exact .inr (decide_eq_false (by omega))
    rw [hwatch.1, hwatch.2, watchdogTick_of_counting s (by omega) hd]
    exact ⟨rfl, rfl⟩

end Sys2Proof.Machine
end

section
/-! PROOF. FREQUENCY at a millisecond tick (R64, R150): the shares before it leave the trip unit alone, and
those after it find every bridge locked out and every channel flushed. -/

namespace Sys2Proof.Machine

/-! ### The shares and the trip latch -/

theorem enterLong_moves (s : State) : Moves s s.enterLong :=
  (mapMonitor_moves s _ rfl rfl).trans (turnHoldOff_moves _)

theorem elapsedTick_moves (s : State) : Moves s s.elapsedTick := by
  unfold State.elapsedTick
  dsimp only
  split_ifs
  · exact (mapMonitor_moves s _ rfl rfl).trans (enterLong_moves _)
  · exact mapMonitor_moves s _ rfl rfl

theorem recoveryTick_moves (s : State) : Moves s s.recoveryTick := by
  unfold State.recoveryTick
  dsimp only
  split_ifs
  · exact (mapMonitor_moves s _ rfl rfl).trans (endEpisode_moves _)
  · exact mapMonitor_moves s _ rfl rfl
  · exact Moves.refl s

theorem agesCaps_moves (s : State) : Moves s ((s.mapMonitor Monitor.agesTick).capsTick) :=
  (mapMonitor_moves s Monitor.agesTick rfl rfl).trans (mapMonitor_moves _ _ rfl rfl)

theorem episodeTick_moves (s : State) : Moves s s.episodeTick := by
  have h := agesCaps_moves s
  unfold State.episodeTick
  dsimp only
  split
  · exact h
  · exact h.trans (elapsedTick_moves _)
  · exact h.trans (elapsedTick_moves _)
  · exact h.trans (recoveryTick_moves _)
  · exact h.trans (recoveryTick_moves _)

theorem frequencyTick_moves (s : State) : Moves s s.frequencyTick := by
  unfold State.frequencyTick
  dsimp only
  split
  · exact mapMonitor_moves s _ rfl rfl
  · split_ifs
    · exact Moves.refl s
    · exact ((mapMonitor_moves s _ rfl rfl).trans (raiseCause_moves _ _)).trans
        (mapMonitor_moves _ _ rfl rfl)
    · exact mapMonitor_moves s _ rfl rfl
    · exact mapMonitor_moves s _ rfl rfl

theorem stopBridge_of_lockout (s : State) (b : Index) (h : s.bridgeState b = .lockout) :
    s.stopBridge b = s := by
  unfold State.stopBridge
  rw [h]

/-- What the channel unit's share does besides its channels: it stops a parked channel's bridge. -/
theorem park_moves (s : State) (c : Index) : TripMoves s (s.park c) :=
  (((onChannel_mapChannel s c Channel.emptied).all.moves.trans
    (onChannel_setChannelState _ c .standby).all.moves).trans
    ((onBridge_stopBridge _ c).moves fun h => by
      rw [stopBridge_of_lockout _ c h]
      exact h)).trans (onChannel_mapChannel _ c _).all.moves

theorem lowLoadTick_moves (s : State) (c : Index) : TripMoves s (s.lowLoadTick c) := by
  unfold State.lowLoadTick
  dsimp only
  split_ifs
  · exact park_moves s c
  · exact (onChannel_mapChannel s c _).all.moves
  · exact (onChannel_mapChannel s c _).all.moves

theorem barrierTest_onChannels (s : State) (adv : Index → Bool) : OnChannels s (s.barrierTest adv) := by
  refine onChannels_forAll _ _ _ fun c t => ?_
  split_ifs
  · exact onChannel_completeHead t c
  · exact OnChannel.refl c t

/-- The channels' own steps of a tick, up to the barrier test. -/
def State.channelsStepped (s : State) : State :=
  (s.forAll Index.all (fun c t => t.channelTick s.advancing c)).barrierTest s.advancing

theorem channelsTick_eq (s : State) :
    s.channelsTick = s.channelsStepped.forAll Index.all (fun c t => t.lowLoadTick c) := rfl

theorem onChannels_stepped (s : State) : OnChannels s s.channelsStepped :=
  (onChannels_forAll _ _ _ fun c t => onChannel_channelTick t _ c).trans (barrierTest_onChannels _ _)

theorem channelsTick_moves (s : State) : TripMoves s s.channelsTick :=
  (onChannels_stepped s).moves.trans (moves_forAll _ _ _ fun c t => lowLoadTick_moves t c)

theorem tickShare_flags (s : State) (x : TickShare) : FlagsKept s (s.tickShare x) := by
  cases x
  · exact (episodeTick_moves s).flags
  · exact (frequencyTick_moves s).flags
  · exact (channelsTick_moves s).flags
  · exact (onWatchdog_tick s).flags

theorem tickRun_flags (s : State) (l : List TickShare) : FlagsKept s (tickRun s l) :=
  tickRun_keeps (P := FlagsKept s) (fun x _ t ht => ht.trans (tickShare_flags t x)) (FlagsKept.refl s)

/-! ### The other shares leave the trip unit -/

theorem turnHoldOff_trip (s : State) : s.turnHoldOff.trip = s.trip ∧ s.turnHoldOff.channels = s.channels := by
  unfold State.turnHoldOff
  split_ifs
  · have hon := onBridges_forAll (s.mapMonitor (fun m => { m with holdRequest := false })) Index.all
      (fun b t => t.clearHeld b .dip) fun b t => onBridge_clearHeld t b .dip
    exact ⟨hon.trip, hon.channels⟩
  · exact ⟨rfl, rfl⟩

theorem turnHoldOff_bridges_of_lockout (s : State) (h : ∀ b, s.bridgeState b = .lockout) :
    s.turnHoldOff.bridges = s.bridges := by
  unfold State.turnHoldOff
  split_ifs
  · have hfix : (s.mapMonitor (fun m => { m with holdRequest := false })).forAll Index.all
        (fun b t => t.clearHeld b .dip) = s.mapMonitor (fun m => { m with holdRequest := false }) :=
      forAll_of_fixed _ _ _ fun b => clearHeld_of_lockout _ b .dip (h b)
    have hb := congrArg State.bridges hfix
    exact hb
  · rfl

theorem episodeEvent_parts (s : State) (x : Bool) :
    (s.episodeEvent x).trip = s.trip ∧ (s.episodeEvent x).channels = s.channels ∧
      (s.episodeEvent x).bridges = s.bridges := by
  unfold State.episodeEvent
  split
  · exact ⟨rfl, rfl, rfl⟩
  · exact ⟨rfl, rfl, rfl⟩

theorem episodeTick_trip (s : State) :
    s.episodeTick.trip = s.trip ∧ s.episodeTick.channels = s.channels := by
  have helapsed : ∀ t : State, t.elapsedTick.trip = t.trip ∧ t.elapsedTick.channels = t.channels :=
    fun t => by
      unfold State.elapsedTick
      dsimp only
      split_ifs
      · exact turnHoldOff_trip _
      · exact ⟨rfl, rfl⟩
  have hrecovery : ∀ t : State, t.recoveryTick.trip = t.trip ∧ t.recoveryTick.channels = t.channels :=
    fun t => by
      unfold State.recoveryTick
      dsimp only
      split_ifs
      · obtain ⟨htrip, hchan, -⟩ := episodeEvent_parts
          ((t.mapMonitor (fun m => { m with recoveryTimer := m.recoveryTimer + 1 })).mapMonitor
            Monitor.ended) true
        exact ⟨htrip, hchan⟩
      · exact ⟨rfl, rfl⟩
      · exact ⟨rfl, rfl⟩
  unfold State.episodeTick
  dsimp only
  split
  · exact ⟨rfl, rfl⟩
  · exact helapsed _
  · exact helapsed _
  · exact hrecovery _
  · exact hrecovery _

theorem episodeTick_bridges_of_lockout (s : State) (h : ∀ b, s.bridgeState b = .lockout) :
    s.episodeTick.bridges = s.bridges := by
  have helapsed : ∀ t : State, (∀ b, t.bridgeState b = .lockout) → t.elapsedTick.bridges = t.bridges :=
    fun t ht => by
      unfold State.elapsedTick
      dsimp only
      split_ifs
      · exact turnHoldOff_bridges_of_lockout _ ht
      · rfl
  have hrecovery : ∀ t : State, t.recoveryTick.bridges = t.bridges := fun t => by
    unfold State.recoveryTick
    dsimp only
    split_ifs
    · exact (episodeEvent_parts _ true).2.2
    · rfl
    · rfl
  unfold State.episodeTick
  dsimp only
  split
  · rfl
  · exact helapsed _ h
  · exact helapsed _ h
  · exact hrecovery _
  · exact hrecovery _

theorem ticked_excursion (m : Monitor) (st : Settings) (sc : Scanner) :
    (m.ticked st sc).excursionTimer = m.excursionTimer ∧
      (m.ticked st sc).excursionTripped = m.excursionTripped := by
  unfold Monitor.ticked
  cases m.state
  case normal => exact ⟨rfl, rfl⟩
  case low | high =>
    dsimp only
    split_ifs
    · exact ⟨rfl, rfl⟩
    · exact ⟨rfl, rfl⟩
  all_goals
    dsimp only
    split_ifs
    · exact ⟨rfl, rfl⟩
    · exact ⟨rfl, rfl⟩
    · exact ⟨rfl, rfl⟩

theorem lowLoadTick_trip (s : State) (c : Index) : (s.lowLoadTick c).trip = s.trip := by
  unfold State.lowLoadTick State.park
  dsimp only
  split_ifs
  · rw [State.mapChannel_trip, (onBridge_stopBridge _ c).trip, (onChannel_setChannelState _ c _).trip,
      State.mapChannel_trip]
  · rfl
  · rfl

theorem channelsTick_trip (s : State) : s.channelsTick.trip = s.trip :=
  (forAll_keeps State.trip _ _ _ fun c t => lowLoadTick_trip t c).trans (onChannels_stepped s).trip

/-- A share other than the frequency's leaves the excursion and the trip unit. -/
theorem tickShare_excursion (s : State) (x : TickShare) (h : x ≠ .frequency) :
    (s.tickShare x).trip = s.trip ∧
      (s.tickShare x).monitor.excursionTimer = s.monitor.excursionTimer ∧
      (s.tickShare x).monitor.excursionTripped = s.monitor.excursionTripped := by
  cases x
  case frequency => exact absurd rfl h
  case episode =>
    have hmon : s.episodeTick.monitor = s.monitor.ticked s.settings s.scanner := episodeTick_monitor s
    refine ⟨(episodeTick_trip s).1, ?_⟩
    change s.episodeTick.monitor.excursionTimer = _ ∧ s.episodeTick.monitor.excursionTripped = _
    rw [hmon]
    exact ticked_excursion _ _ _
  case channels =>
    have hmon := channelsTick_monitor s
    exact ⟨channelsTick_trip s, congrArg Monitor.excursionTimer hmon,
      congrArg Monitor.excursionTripped hmon⟩
  case watchdog =>
    have hon := onWatchdog_tick s
    exact ⟨hon.trip, congrArg Monitor.excursionTimer hon.monitor,
      congrArg Monitor.excursionTripped hon.monitor⟩

/-! ### A flushed channel -/

/-- A channel as a trip leaves it (R143). -/
def Channel.flushed (k : Channel) : Prop :=
  k.queue = [] ∧ k.headPhase = none ∧ k.remainingHold = none ∧ k.course = 0 ∧ k.lowLoadTimer = 0 ∧
    (k.state = .idle ∨ k.state = .standby)

/-- Every bridge locked out and every channel flushed, as a trip leaves them in `s`. -/
structure Flushed (s t : State) : Prop where
  trip : t.trip = s.trip
  bridges : t.bridges = s.bridges
  channel : ∀ c, (t.channels.get c).flushed

theorem forAll_keeps_prop {P : State → Prop} (s : State) (order : List Index)
    (f : Index → State → State) (h : ∀ i t, P t → P (f i t)) (hs : P s) : P (s.forAll order f) := by
  induction order generalizing s with
  | nil => exact hs
  | cons i rest ih => exact ih (f i s) (h i s hs)

theorem flushed_mapChannel {s t : State} (h : Flushed s t) (c : Index) (f : Channel → Channel)
    (hf : ∀ k : Channel, k.flushed → (f k).flushed) : Flushed s (t.mapChannel c f) where
  trip := h.trip
  bridges := h.bridges
  channel := fun d => by
    unfold State.mapChannel
    dsimp only
    rw [Four.get_set]
    split_ifs with hd
    · exact hf _ (h.channel c)
    · exact h.channel d

theorem flushed_channelTick {s t : State} (h : Flushed s t) (adv : Index → Bool) (c : Index)
    (hadv : adv c = false) : Flushed s (t.channelTick adv c) := by
  have hfold : Flushed s (t.foldTick c) := by
    unfold State.foldTick
    exact flushed_mapChannel h c _ fun k hk => hk
  obtain ⟨-, -, -, -, -, hstate⟩ := h.channel c
  unfold State.channelTick
  dsimp only
  split
  · rename_i hp
    rw [hp] at hstate
    obtain hs | hs := hstate
    · exact ChannelState.noConfusion hs
    · exact ChannelState.noConfusion hs
  · rw [hadv]
    exact hfold

theorem releasedBy_of_flushed {t : State} (adv : Index → Bool) (c : Index)
    (h : (t.channels.get c).flushed) : t.releasedBy adv c = 0 := by
  obtain ⟨-, hphase, -⟩ := h
  unfold State.releasedBy
  dsimp only
  rw [hphase]

theorem flushed_barrierTest {s t : State} (h : Flushed s t) (adv : Index → Bool) :
    Flushed s (t.barrierTest adv) := by
  have hnone : t.released adv = 0 := by
    unfold State.released
    have hfold : ∀ l : List Index, l.foldl (fun m c => m ||| t.releasedBy adv c) (0 : BitVec 4) = 0 :=
      fun l => by
        induction l with
        | nil => rfl
        | cons c rest ih =>
          rw [List.foldl_cons, releasedBy_of_flushed adv c (h.channel c)]
          exact ih
    exact hfold _
  unfold State.barrierTest
  rw [hnone]
  have hfix : t.forAll Index.all
      (fun c u => if hasBit (0 : BitVec 4) c.val then u.completeHead c else u) = t :=
    forAll_of_fixed _ _ _ fun c => if_neg (by simp [hasBit])
  exact hfix.symm ▸ h

theorem flushed_lowLoadTick {s t : State} (h : Flushed s t) (hlock : ∀ b, s.bridgeState b = .lockout)
    (c : Index) : Flushed s (t.lowLoadTick c) := by
  have hlow : t.lowLoad c = false := by
    have hb : t.bridgeState c = .lockout := by
      unfold State.bridgeState at hlock ⊢
      rw [h.bridges]
      exact hlock c
    unfold State.lowLoad
    rw [hb]
    simp
  unfold State.lowLoadTick
  rw [hlow, if_neg Bool.false_ne_true]
  refine flushed_mapChannel h c _ fun k hk => ?_
  obtain ⟨hq, hp, hr, hc, -, hs⟩ := hk
  exact ⟨hq, hp, hr, hc, rfl, hs⟩

theorem flushed_channelsTick {s t : State} (h : Flushed s t) (hlock : ∀ b, s.bridgeState b = .lockout) :
    Flushed s t.channelsTick := by
  have hadv : ∀ c, t.advancing c = false := fun c => by
    obtain ⟨-, -, -, -, -, hstate⟩ := h.channel c
    unfold State.advancing
    obtain hs | hs := hstate
    all_goals
      rw [hs]
      rfl
  refine forAll_keeps_prop _ _ _ (fun c u hu => flushed_lowLoadTick hu hlock c) ?_
  refine flushed_barrierTest ?_ _
  exact forAll_keeps_prop _ _ _ (fun c u hu => flushed_channelTick hu _ c (hadv c)) h

theorem flushed_episodeTick {s t : State} (h : Flushed s t) (hlock : ∀ b, s.bridgeState b = .lockout) :
    Flushed s t.episodeTick := by
  obtain ⟨htrip, hchan⟩ := episodeTick_trip t
  have hb : ∀ b, t.bridgeState b = .lockout := fun b => by
    unfold State.bridgeState at hlock ⊢
    rw [h.bridges]
    exact hlock b
  exact ⟨htrip.trans h.trip, (episodeTick_bridges_of_lockout t hb).trans h.bridges, fun c => by
    rw [hchan]
    exact h.channel c⟩

theorem flushed_watchdogTick {s t : State} (h : Flushed s t) (hlock : ∀ b, s.bridgeState b = .lockout) :
    Flushed s t.watchdogTick := by
  have hon := onWatchdog_tick t
  have hidle : ∀ c, t.bridgeState c ≠ .running := fun c => by
    have hb : t.bridgeState c = .lockout := by
      unfold State.bridgeState at hlock ⊢
      rw [h.bridges]
      exact hlock c
    rw [hb]
    exact BridgeState.noConfusion
  exact ⟨hon.trip.trans h.trip, hon.bridges.trans h.bridges, fun c => by
    rw [hon.channels (.inl hidle)]
    exact h.channel c⟩

/-- The shares after the frequency's leave a trip's state as it is. -/
theorem flushed_tickShare {s t : State} (h : Flushed s t) (hlock : ∀ b, s.bridgeState b = .lockout)
    (x : TickShare) (hx : x ≠ .frequency) : Flushed s (t.tickShare x) := by
  cases x
  case frequency => exact absurd rfl hx
  case episode => exact flushed_episodeTick h hlock
  case channels => exact flushed_channelsTick h hlock
  case watchdog => exact flushed_watchdogTick h hlock

theorem showsTrip_of_flushed {s t : State} {c : TripCause} (hs : s.showsTrip c) (h : Flushed s t) :
    t.showsTrip c := by
  obtain ⟨hl, hf, hc, hb, hbridges, -⟩ := hs
  unfold State.showsTrip State.bridgeState
  rw [h.trip, h.bridges]
  exact ⟨hl, hf, hc, hb, hbridges, h.channel⟩

/-! ### The frequency's share -/

theorem frequencyTick_trips (s : State) (f : Nat) (hf : s.sync.frequency = some f)
    (hout : s.frequencyOutside f = true) (hnot : s.monitor.excursionTripped = false)
    (hdelay : s.settings.fDelay ≤ s.monitor.excursionTimer + 1) (hlatch : s.trip.latched = false) :
    s.frequencyTick =
      ((s.mapMonitor (fun m => { m with excursionTimer := s.monitor.excursionTimer + 1 })).latchTrip
        .frequency).mapMonitor (fun m => { m with excursionTripped := true }) := by
  let w := s.mapMonitor (fun m => { m with excursionTimer := s.monitor.excursionTimer + 1 })
  have hraise : w.raiseCause .frequency = w.latchTrip .frequency := raiseCause_of_unlatched w _ hlatch
  unfold State.frequencyTick
  rw [hf]
  dsimp only
  rw [if_pos hout, if_neg (by rw [hnot]; exact Bool.false_ne_true), if_pos hdelay]
  exact congrArg (fun u : State => u.mapMonitor (fun m => { m with excursionTripped := true })) hraise

/-- The state the frequency's share leaves where it trips, with the other shares still to come. -/
structure FrequencyTripped (u z : State) : Prop where
  shows : z.showsTrip .frequency
  timer : z.monitor.excursionTimer = u.monitor.excursionTimer + 1
  tripped : z.monitor.excursionTripped = true
  tick : z.trip.tick = u.counter
  flag : ∀ l, z.flagged l 5

theorem frequencyTripped_tick (u : State) (f : Nat) (hf : u.sync.frequency = some f)
    (hout : u.frequencyOutside f = true) (hnot : u.monitor.excursionTripped = false)
    (hdelay : u.settings.fDelay ≤ u.monitor.excursionTimer + 1) (hlatch : u.trip.latched = false) :
    FrequencyTripped u u.frequencyTick := by
  rw [frequencyTick_trips u f hf hout hnot hdelay hlatch]
  generalize hv : u.mapMonitor (fun m => { m with excursionTimer := u.monitor.excursionTimer + 1 }) = v
  have hvmon : v.monitor.excursionTimer = u.monitor.excursionTimer + 1 := by rw [← hv]; rfl
  have hvcount : v.counter = u.counter := by rw [← hv]; rfl
  have hmon := latchTrip_monitor v .frequency
  have hshows := latchTrip_showsTrip v .frequency
  have htick : (v.latchTrip .frequency).trip.tick = v.counter :=
    congrArg Trip.tick (latchTrip_trip v .frequency)
  have hflag := latchTrip_flagged v .frequency
  generalize v.latchTrip .frequency = w at hmon hshows htick hflag
  exact ⟨showsTrip_of_eq hshows rfl rfl rfl, (congrArg Monitor.excursionTimer hmon).trans hvmon, rfl,
    htick.trans hvcount, hflag⟩

theorem FrequencyTripped.run {u z : State} (h : FrequencyTripped u z) (l : List TickShare)
    (hl : .frequency ∉ l) : FrequencyTripped u (tickRun z l) := by
  have hshows := h.shows
  obtain ⟨-, -, -, -, hbridges, hchan⟩ := hshows
  have hlock : ∀ b, z.bridgeState b = .lockout := fun b => (hbridges b).1
  have hflushed : Flushed z (tickRun z l) ∧
      (tickRun z l).monitor.excursionTimer = z.monitor.excursionTimer ∧
      (tickRun z l).monitor.excursionTripped = z.monitor.excursionTripped := by
    refine tickRun_keeps (P := fun q => Flushed z q ∧
      q.monitor.excursionTimer = z.monitor.excursionTimer ∧
      q.monitor.excursionTripped = z.monitor.excursionTripped) (fun x hx q ⟨h1, h2, h3⟩ => ?_)
      ⟨⟨rfl, rfl, hchan⟩, rfl, rfl⟩
    have hx' : x ≠ .frequency := fun e => hl (e ▸ hx)
    obtain ⟨-, k2, k3⟩ := tickShare_excursion q x hx'
    exact ⟨flushed_tickShare h1 hlock x hx', k2.trans h2, k3.trans h3⟩
  obtain ⟨hflush, htimer, htripped⟩ := hflushed
  exact ⟨showsTrip_of_flushed h.shows hflush, htimer.trans h.timer, htripped.trans h.tripped,
    (congrArg Trip.tick hflush.trip).trans h.tick, fun k => tickRun_flags z l k 5 (h.flag k)⟩

/-- Before the frequency's share no trip is latched, and after it none of the others undoes one. -/
theorem frequencyTripped_takeMillisecond (s : State) (shares : Nat) (f : Nat)
    (hf : s.sync.frequency = some f) (hout : s.frequencyOutside f = true)
    (hnot : s.monitor.excursionTripped = false)
    (hdelay : s.settings.fDelay ≤ s.monitor.excursionTimer + 1) (hlatch : s.trip.latched = false) :
    ∃ u : State, Ticks s.reachMillisecond u ∧
      u.monitor.excursionTimer = s.monitor.excursionTimer ∧
      FrequencyTripped u (s.takeMillisecond shares) := by
  obtain ⟨pre, post, hpre, hpost, heq⟩ := takeMillisecond_around s shares .frequency
  rw [heq]
  have hticks : Ticks s.reachMillisecond (tickRun s.reachMillisecond pre) := ticks_tickRun _ pre
  have hkept : (tickRun s.reachMillisecond pre).trip = s.trip ∧
      (tickRun s.reachMillisecond pre).monitor.excursionTimer = s.monitor.excursionTimer ∧
      (tickRun s.reachMillisecond pre).monitor.excursionTripped = s.monitor.excursionTripped := by
    refine tickRun_keeps (P := fun t => t.trip = s.trip ∧
      t.monitor.excursionTimer = s.monitor.excursionTimer ∧
      t.monitor.excursionTripped = s.monitor.excursionTripped) (fun x hx t ⟨h1, h2, h3⟩ => ?_)
      ⟨rfl, rfl, rfl⟩
    obtain ⟨k1, k2, k3⟩ := tickShare_excursion t x fun e => hpre (e ▸ hx)
    exact ⟨k1.trans h1, k2.trans h2, k3.trans h3⟩
  generalize tickRun s.reachMillisecond pre = u at hticks hkept ⊢
  obtain ⟨htrip, htimer, htripped⟩ := hkept
  have hset : u.settings = s.settings := hticks.settings
  have hsync : u.sync = s.sync := hticks.sync
  refine ⟨u, hticks, htimer, FrequencyTripped.run ?_ post hpost⟩
  refine frequencyTripped_tick u f ?_ ?_ (htripped.trans hnot) ?_ ?_
  · rw [hsync]
    exact hf
  · unfold State.frequencyOutside at hout ⊢
    rw [hset]
    exact hout
  · rw [hset, htimer]
    exact hdelay
  · rw [htrip]
    exact hlatch

/-- Settles O25, by the frequency's share as the other shares leave it. -/
theorem frequencyTrips : Obligations.FrequencyTrips := by
  intro o s f hrun hf hout hnot hdelay hlatch
  have hout' : s.frequencyOutside f = true := by
    unfold State.frequencyOutside
    rw [Bool.or_eq_true, decide_eq_true_iff, decide_eq_true_iff]
    exact hout
  obtain ⟨u, hticks, htimer, htr⟩ :=
    frequencyTripped_takeMillisecond s o.shares f hf hout' hnot hdelay hlatch
  have hzt := ticks_takeMillisecond s o.shares
  have hcore := coreKept_tick s o
  have hrow : exec (.frequency o) s = .next ((s.takeMillisecond o.shares).settle o) := by
    rw [exec_frequency, take_of_running s o _ hrun, takenIf_of_happened]
    rw [hnot, htr.tripped]
    rfl
  have htickrow := exec_tick s o hrun
  generalize s.takeMillisecond o.shares = t at hzt htr hrow htickrow hcore
  have hst := taken_settle t o
  refine ⟨_, hrow, htickrow, ?tripped, ?timer,
    showsTrip_of_eq htr.shows hst.trip hst.bridges hst.channels, ?tick,
    fun l => hst.flags l 5 (htr.flag l), hst.scanner.trans hzt.scanner, hst.sync.trans hzt.sync,
    hcore⟩
  case tripped =>
    rw [hst.monitor]
    exact htr.tripped
  case timer =>
    rw [hst.monitor, htr.timer, htimer]
  case tick =>
    rw [hst.trip, htr.tick, hst.counter, hzt.counter, hticks.counter]

end Sys2Proof.Machine
end

section
/-! SUPPORT. The monitor's steps among a scan's others (R52 to R60, R70): what each makes of the monitor, and
the run of a scan as those steps with the other readers' between them. -/

namespace Sys2Proof.Machine

/-! ### The monitor's steps with others between them -/

/-- Steps `l` taken in order from `v` to `w`, with moves of `Q` before, between and after them. -/
inductive Woven (Q : State → State → Prop) : List (State → State) → State → State → Prop
  | done {v w : State} : Q v w → Woven Q [] v w
  | step {f : State → State} {rest : List (State → State)} {v u w : State} :
      Q v u → Woven Q rest (f u) w → Woven Q (f :: rest) v w

section
variable {Q : State → State → Prop}

theorem Woven.of_move (htrans : ∀ a b c, Q a b → Q b c → Q a c) {l : List (State → State)}
    {v u w : State} (h : Q v u) (hw : Woven Q l u w) : Woven Q l v w := by
  cases hw with
  | done hq => exact .done (htrans _ _ _ h hq)
  | step hq hrest => exact .step (htrans _ _ _ h hq) hrest

theorem Woven.uncons {f : State → State} {rest : List (State → State)} {v w : State}
    (h : Woven Q (f :: rest) v w) : ∃ u : State, Q v u ∧ Woven Q rest (f u) w := by
  cases h with
  | step hq hrest => exact ⟨_, hq, hrest⟩

theorem Woven.nil {v w : State} (h : Woven Q [] v w) : Q v w := by
  cases h with
  | done hq => exact hq

theorem Woven.split {f : State → State} (pre post : List (State → State)) {v w : State}
    (h : Woven Q (pre ++ f :: post) v w) : ∃ u : State, Woven Q pre v u ∧ Woven Q post (f u) w := by
  induction pre generalizing v with
  | nil =>
    obtain ⟨u, hq, hrest⟩ := h.uncons
    exact ⟨u, .done hq, hrest⟩
  | cons g rest ih =>
    obtain ⟨z, hq, hrest⟩ := Woven.uncons h
    obtain ⟨u, hpre, hpost⟩ := ih hrest
    exact ⟨u, .step hq hpre, hpost⟩

/-- A run of a scan is the monitor's steps woven with the others', where `I` tells what the others find. -/
theorem runOps_woven {I : List ScanOp → State → Prop} (hrefl : ∀ s, Q s s)
    (htrans : ∀ a b c, Q a b → Q b c → Q a c)
    (hother : ∀ o rest u, o.monitor? = none → I (o :: rest) u → Q u (o.run u) ∧ I rest (o.run u))
    (l : List ScanOp)
    (hmonitor : ∀ f ∈ l.filterMap ScanOp.monitor?, ∀ rest u, I (.monitor f :: rest) u → I rest (f u))
    (u : State) (h : I l u) : Woven Q (l.filterMap ScanOp.monitor?) u (runOps u l) := by
  induction l generalizing u with
  | nil => exact .done (hrefl u)
  | cons o rest ih =>
    rw [runOps_cons]
    cases ho : o.monitor? with
    | none =>
      rw [List.filterMap_cons_none ho] at hmonitor ⊢
      obtain ⟨hq, hi⟩ := hother o rest u ho h
      exact (ih hmonitor _ hi).of_move htrans hq
    | some f =>
      rw [List.filterMap_cons_some ho] at hmonitor ⊢
      cases o
      case monitor g =>
        obtain rfl : g = f := Option.some.inj ho
        have hi := hmonitor g List.mem_cons_self rest u h
        exact .step (hrefl u) (ih (fun k hk => hmonitor k (List.mem_cons_of_mem _ hk)) _ hi)
      all_goals exact absurd ho (by simp [ScanOp.monitor?])

end

/-! ### What the other readers leave -/

/-- A move of the other readers: the monitor stands. -/
structure Others (s t : State) : Prop extends TripMoves s t where
  monitor : t.monitor = s.monitor

theorem Others.refl (s : State) : Others s s := ⟨TripMoves.refl s, rfl⟩

theorem Others.trans {s t u : State} (h : Others s t) (k : Others t u) : Others s u :=
  ⟨h.toTripMoves.trans k.toTripMoves, k.monitor.trans h.monitor⟩

theorem overcurrentScan_monitor (s : State) (b : Index) : (s.overcurrentScan b).monitor = s.monitor := by
  unfold State.overcurrentScan
  dsimp only
  split_ifs
  · exact raiseCause_monitor _ _
  · rfl

theorem overvoltageScan_monitor (s : State) (c : Index) : (s.overvoltageScan c).monitor = s.monitor := by
  unfold State.overvoltageScan
  dsimp only
  split_ifs
  · exact raiseCause_monitor _ _
  · rfl

theorem others_run {o : ScanOp} (h : o.monitor? = none) (s : State) : Others s (o.run s) := by
  cases o with
  | monitor f => exact absurd h (by simp [ScanOp.monitor?])
  | accumulate => exact ⟨(accumulateAll_moves s).toTripMoves, (onBridges_accumulateAll s).monitor⟩
  | overcurrent b => exact ⟨overcurrentScan_tripMoves s b, overcurrentScan_monitor s b⟩
  | overvoltage c => exact ⟨overvoltageScan_tripMoves s c, overvoltageScan_monitor s c⟩
  | record j => exact ⟨(onRecorder_recorderShare s j).moves, (onRecorder_recorderShare s j).monitor⟩

/-- A scan is the monitor's steps woven with the other readers'. -/
theorem actOnScan_woven (v : State) (k : Nat) : Woven Others v.monitorSteps v (v.actOnScan k) := by
  obtain ⟨l, hrun, hl⟩ := actOnScan_ops v k
  rw [hrun, ← hl.monitors]
  exact runOps_woven (I := fun _ _ => True) Others.refl (fun _ _ _ h k => h.trans k)
    (fun o _ u ho _ => ⟨others_run ho u, trivial⟩) l (fun _ _ _ _ _ => trivial) v trivial

theorem Woven.moves {l : List (State → State)} {v w : State} (h : Woven Others l v w)
    (hl : MovesAll l) : TripMoves v w := by
  induction h with
  | done hq => exact hq.toTripMoves
  | step hq _ ih =>
    exact (hq.toTripMoves.trans (hl _ List.mem_cons_self _).toTripMoves).trans
      (ih fun f hf => hl f (List.mem_cons_of_mem _ hf))

/-! ### What each step makes of the monitor -/

/-- A step does to the monitor what `φ` does, read from the settings and the grid level. -/
def Reads (f : State → State) (φ : Settings → Nat → Monitor → Monitor) : Prop :=
  ∀ u : State, (f u).monitor = φ u.settings u.scanner.g u.monitor

/-- The monitor after a woven run is as its own steps leave it. -/
theorem Woven.monitor {l : List (State → State)} {φs : List (Settings → Nat → Monitor → Monitor)}
    {v w : State} (h : Woven Others l v w) (hl : MovesAll l) (hr : List.Forall₂ Reads l φs) :
    w.monitor = φs.foldl (fun m φ => φ v.settings v.scanner.g m) v.monitor := by
  induction h generalizing φs with
  | done hq =>
    cases hr
    exact hq.monitor
  | step hq _ ih =>
    rename_i f rest v u w hrest
    cases hr with
    | cons hf hrs =>
      rename_i φ φs
      have hfu : TripMoves u (f u) := (hl f List.mem_cons_self u).toTripMoves
      rw [List.foldl_cons, ih (fun g hg => hl g (List.mem_cons_of_mem _ hg)) hrs,
        hfu.toCalm.settings, hfu.toCalm.scanner, hq.toCalm.settings, hq.toCalm.scanner, hf u,
        hq.toCalm.settings, hq.toCalm.scanner, hq.monitor]

/-- The extreme of the episode with a scan's level noted (R54, R55). -/
def Monitor.leveled (m : Monitor) (g : Nat) : Monitor := m.mapEpisode (fun e => e.noteLevel g)

/-- An envelope cause joined to the episode, once (R54, R55, R60). -/
def Episode.breachedBy (e : Episode) (c : TripCause) (x : Bool) : Episode :=
  if x && !hasBit e.causes c.bit then e.withCause c else e

def Monitor.breached (m : Monitor) (c : TripCause) (x : Bool) : Monitor :=
  m.mapEpisode (fun e => e.breachedBy c x)

/-- The level beyond the limit of LOW or of HIGH at the elapsed time (R54, R55). -/
def Monitor.overLimit (m : Monitor) (k : EpisodeKind) (g : Nat) : Bool :=
  match k with
  | .low => decide (g < limitAt m.lowTable m.elapsedTime)
  | .high => decide (limitAt m.highTable m.elapsedTime < g)

/-- The level beyond a table's last (R60). -/
def Monitor.overLast (m : Monitor) (k : EpisodeKind) (g : Nat) : Bool :=
  match k with
  | .low => decide (g < lastLevel m.lowTable)
  | .high => decide (lastLevel m.highTable < g)

def EpisodeKind.cause (k : EpisodeKind) : TripCause :=
  match k with
  | .low => .envelopeLow
  | .high => .envelopeHigh

/-- The hold request at a scan in LOW (R70). -/
def Monitor.holdUpdated (m : Monitor) (st : Settings) (g : Nat) : Monitor :=
  if m.holdRequest then
    if st.holdLevel + Config.holdHysteresis ≤ g then { m with holdRequest := false } else m
  else if 0 < st.holdLevel ∧ g < st.holdLevel then { m with holdRequest := true }
  else m

/-- The level back past the end threshold (R54, R55). -/
def Settings.pastEnd (st : Settings) (k : EpisodeKind) (g : Nat) : Bool :=
  match k with
  | .low => decide (st.dipEnd ≤ g)
  | .high => decide (g ≤ st.swellEnd)

def Monitor.recoveredFrom (m : Monitor) (st : Settings) (k : EpisodeKind) (g : Nat) : Monitor :=
  if st.pastEnd k g then m.recoveringNow else m

/-- The recovery timer at a scan (R57, R59). -/
def Monitor.recoveryScanned (m : Monitor) (st : Settings) (g : Nat) : Monitor :=
  if st.band g then if st.recoverTime = 0 then m.ended else m else { m with recoveryTimer := 0 }

def Monitor.entryScanned (m : Monitor) (st : Settings) (g : Nat) : Monitor :=
  if m.state = .recovering then m.recoveryScanned st g else m

theorem breach_monitor (s : State) (c : TripCause) (x : Bool) :
    (s.breach c x).monitor = s.monitor.breached c x := by
  unfold State.breach Monitor.breached Monitor.mapEpisode Episode.breachedBy
  split
  · rename_i h
    rw [h]
    exact congrArg (fun e => { s.monitor with episode := e }) h
  · rename_i e h
    rw [h, Option.map_some]
    split_ifs with hx
    · rw [State.mapMonitor_monitor, raiseCause_monitor]
      rw [h]
      rfl
    · rw [← h]

theorem noteLevel_reads : Reads State.noteLevel (fun _ g m => m.leveled g) := fun _ => rfl

theorem testLimit_reads (k : EpisodeKind) :
    Reads (fun s => s.testLimit k) (fun _ g m => m.breached k.cause (m.overLimit k g)) := fun u => by
  cases k
  · exact breach_monitor u _ _
  · exact breach_monitor u _ _

theorem testLastLevel_reads (k : EpisodeKind) :
    Reads (fun s => s.testLastLevel k) (fun _ g m => m.breached k.cause (m.overLast k g)) := fun u => by
  cases k
  · exact breach_monitor u _ _
  · exact breach_monitor u _ _

theorem updateHold_reads : Reads State.updateHold (fun st g m => m.holdUpdated st g) := fun u => by
  change u.updateHold.monitor = u.monitor.holdUpdated u.settings u.scanner.g
  unfold State.updateHold Monitor.holdUpdated
  split_ifs
  · exact turnHoldOff_monitor u
  · rfl
  · exact turnHoldOn_monitor u
  · rfl

theorem recoverFrom_eq (s : State) (k : EpisodeKind) :
    s.recoverFrom k = if s.settings.pastEnd k s.scanner.g then s.enterRecovering else s := by
  cases k
  · rfl
  · rfl

theorem recoverFrom_reads (k : EpisodeKind) :
    Reads (fun s => s.recoverFrom k) (fun st g m => m.recoveredFrom st k g) := fun u => by
  change (u.recoverFrom k).monitor = u.monitor.recoveredFrom u.settings k u.scanner.g
  rw [recoverFrom_eq]
  unfold Monitor.recoveredFrom
  split_ifs
  · exact enterRecovering_monitor u
  · rfl

theorem recoveryScan_reads : Reads State.recoveryScan (fun st g m => m.recoveryScanned st g) := fun u => by
  have hband : u.inBand = u.settings.band u.scanner.g := rfl
  change u.recoveryScan.monitor = u.monitor.recoveryScanned u.settings u.scanner.g
  unfold State.recoveryScan Monitor.recoveryScanned
  rw [hband]
  split_ifs
  · exact endEpisode_monitor u
  · rfl
  · rfl

theorem recoveryAtEntry_reads : Reads State.recoveryAtEntry (fun st g m => m.entryScanned st g) :=
  fun u => by
    change u.recoveryAtEntry.monitor = u.monitor.entryScanned u.settings u.scanner.g
    unfold State.recoveryAtEntry Monitor.entryScanned
    split_ifs
    · exact recoveryScan_reads u
    · rfl

/-- The steps of a scan in LOW or in HIGH, as they read. -/
def scanReads (k : EpisodeKind) : List (Settings → Nat → Monitor → Monitor) :=
  match k with
  | .low =>
    [fun _ g m => m.leveled g, fun _ g m => m.breached EpisodeKind.low.cause (m.overLimit .low g),
      fun st g m => m.holdUpdated st g, fun st g m => m.recoveredFrom st .low g,
      fun st g m => m.entryScanned st g]
  | .high =>
    [fun _ g m => m.leveled g, fun _ g m => m.breached EpisodeKind.high.cause (m.overLimit .high g),
      fun st g m => m.recoveredFrom st .high g, fun st g m => m.entryScanned st g]

theorem scanSteps_reads (k : EpisodeKind) : List.Forall₂ Reads (scanSteps k) (scanReads k) := by
  cases k
  · exact .cons noteLevel_reads (.cons (testLimit_reads .low) (.cons updateHold_reads
      (.cons (recoverFrom_reads .low) (.cons recoveryAtEntry_reads .nil))))
  · exact .cons noteLevel_reads (.cons (testLimit_reads .high) (.cons (recoverFrom_reads .high)
      (.cons recoveryAtEntry_reads .nil)))

/-! ### Breaches -/

theorem mapEpisode_of_some (m : Monitor) (f : Episode → Episode) (e : Episode) (h : m.episode = some e) :
    (m.mapEpisode f).episode = some (f e) := by
  unfold Monitor.mapEpisode
  rw [h]
  rfl

theorem breached_of_none (m : Monitor) (c : TripCause) : m.breached c false = m := by
  have hid : m.episode.map (fun e => e.breachedBy c false) = m.episode := by
    cases m.episode
    · rfl
    · rfl
  unfold Monitor.breached Monitor.mapEpisode
  rw [hid]

/-- A breach that the episode has not raised yet shows its cause (R54, R150). -/
theorem breach_shows (s : State) (c : TripCause) (x : Bool) (e : Episode) (h : s.monitor.episode = some e)
    (hx : (x && !hasBit e.causes c.bit) = true) :
    (s.breach c x).trip.latched = true ∧ hasBit (s.breach c x).trip.causes c.bit = true := by
  unfold State.breach
  rw [h]
  dsimp only
  rw [if_pos hx]
  exact raiseCause_shows s c

theorem breach_of_none (s : State) (c : TripCause) : s.breach c false = s := by
  unfold State.breach
  split
  · rfl
  · exact if_neg Bool.false_ne_true

end Sys2Proof.Machine
end

section
/-! SUPPORT. A scan at which no check completes its run: what the other readers leave between the monitor's
steps. -/

namespace Sys2Proof.Machine

/-! ### What the recorder raises -/

/-- The records the recorder can still announce without a release: a capture begun and one completed. -/
def State.recordsLeft (s : State) : Nat :=
  match s.recorder.state with
  | .armed => 2
  | .capturing => 1
  | .frozen => 0

/-- Nothing raised but records, as many as the recorder's state has to give. -/
def RecordsOnly (s t : State) : Prop :=
  ∃ l : List Event, t.outbox = s.outbox ++ l ∧ (∀ e ∈ l, e.source = 11) ∧
    l.length + t.recordsLeft ≤ s.recordsLeft

theorem RecordsOnly.of_eq {s t : State} (ho : t.outbox = s.outbox) (hr : t.recorder = s.recorder) :
    RecordsOnly s t :=
  ⟨[], by rw [ho, List.append_nil], fun _ h => absurd h List.not_mem_nil, by
    unfold State.recordsLeft
    rw [hr, List.length_nil, Nat.zero_add]⟩

theorem RecordsOnly.trans {s t u : State} (h : RecordsOnly s t) (k : RecordsOnly t u) :
    RecordsOnly s u := by
  obtain ⟨l, hl, hsource, hlen⟩ := h
  obtain ⟨m, hm, msource, mlen⟩ := k
  refine ⟨l ++ m, by rw [hm, hl, List.append_assoc], fun e he => ?_, ?_⟩
  · exact (List.mem_append.mp he).elim (hsource e) (msource e)
  · rw [List.length_append]
    omega

theorem recordsOnly_raise (s t : State) (frozen : Bool) (x : TriggerSource) (ho : t.outbox = s.outbox)
    (hr : t.recordsLeft + 1 ≤ s.recordsLeft) : RecordsOnly s (t.raise (.record frozen x)) :=
  ⟨[.record frozen x], by rw [← ho]; rfl, fun e he => by rw [List.mem_singleton.mp he]; rfl, by
    have hleft : (t.raise (.record frozen x)).recordsLeft = t.recordsLeft := rfl
    rw [hleft, List.length_singleton, Nat.add_comm]
    exact hr⟩

theorem recordsOnly_takeTrigger (s : State) (x : Trigger) : RecordsOnly s (s.takeTrigger x) := by
  by_cases h : s.recorder.state = .armed
  · rw [takeTrigger_of_armed s x h]
    refine recordsOnly_raise s _ false x.source rfl ?_
    unfold State.recordsLeft
    rw [h]
    exact le_rfl
  · rw [takeTrigger_of_not_armed s x h]
    exact ⟨[], (List.append_nil _).symm, fun _ h => absurd h List.not_mem_nil, by
      rw [List.length_nil, Nat.zero_add]
      exact le_rfl⟩

theorem recordsOnly_takeTriggers (s : State) (k : Nat) : RecordsOnly s (s.takeTriggers k) := by
  have hfold : ∀ (l : List Trigger) (u : State), RecordsOnly u (l.foldl State.takeTrigger u) := fun l => by
    induction l with
    | nil => exact fun u => .of_eq rfl rfl
    | cons x rest ih => exact fun u => (recordsOnly_takeTrigger u x).trans (ih _)
  exact RecordsOnly.trans (t := { s with triggers := [] }) (.of_eq rfl rfl) (hfold _ _)

theorem recordsOnly_keepSnapshot (s : State) (x : Snapshot) : RecordsOnly s (s.keepSnapshot x) := by
  have hsame : ∀ f : Recorder → Recorder, (f s.recorder).state = s.recorder.state →
      RecordsOnly s (s.mapRecorder f) := fun f hf =>
    ⟨[], (List.append_nil _).symm, fun _ h => absurd h List.not_mem_nil, by
      unfold State.recordsLeft
      rw [State.mapRecorder_recorder, hf, List.length_nil, Nat.zero_add]⟩
  unfold State.keepSnapshot
  cases hs : s.recorder.state with
  | frozen => exact .of_eq rfl rfl
  | armed => exact hsame _ rfl
  | capturing =>
    dsimp only
    split
    · exact hsame _ rfl
    · split_ifs
      · refine recordsOnly_raise s _ true _ rfl ?_
        unfold State.recordsLeft
        rw [hs]
        exact le_rfl
      · exact hsame _ rfl

theorem recordsOnly_recorderShare (s : State) (j : Nat) : RecordsOnly s (s.recorderShare j) := by
  refine (recordsOnly_takeTriggers s j).trans ?_
  have hcount : ∀ (u : State) (n : Nat),
      RecordsOnly u (u.mapRecorder (fun r => { r with decimation := n })) := fun u n =>
    ⟨[], (List.append_nil _).symm, fun _ h => absurd h List.not_mem_nil, by
      rw [List.length_nil, Nat.zero_add]
      exact le_rfl⟩
  unfold State.recorderShare State.recorderScan
  split
  · exact .of_eq rfl rfl
  · split_ifs
    · exact (hcount _ 0).trans (recordsOnly_keepSnapshot _ _)
    · exact hcount _ _

/-! ### The other readers at such a scan -/

/-- A move of the other readers at a scan at which no check completes its run. -/
structure QuietOthers (s t : State) : Prop extends Others s t where
  bridges : t.bridges = s.bridges
  latch : t.trip.latched = s.trip.latched
  channel : ∀ c, (t.channels.get c).course = (s.channels.get c).course ∧
    (t.channels.get c).foldCap = (s.channels.get c).foldCap
  records : RecordsOnly s t

theorem QuietOthers.refl (s : State) : QuietOthers s s :=
  ⟨Others.refl s, rfl, rfl, fun _ => ⟨rfl, rfl⟩, .of_eq rfl rfl⟩

theorem QuietOthers.trans {s t u : State} (h : QuietOthers s t) (k : QuietOthers t u) :
    QuietOthers s u :=
  ⟨h.toOthers.trans k.toOthers, k.bridges.trans h.bridges, k.latch.trans h.latch,
    fun c => ⟨(k.channel c).1.trans (h.channel c).1, (k.channel c).2.trans (h.channel c).2⟩,
    h.records.trans k.records⟩

/-- The checks still to come stand once each, with counts other than 1. -/
structure ChecksQuiet (rest : List ScanOp) (u : State) : Prop where
  oversOnce : (rest.filterMap ScanOp.over?).Nodup
  voltsOnce : (rest.filterMap ScanOp.volt?).Nodup
  currents : ∀ b ∈ rest.filterMap ScanOp.over?, u.trip.overcurrentScans.get b ≠ 1
  voltages : ∀ c ∈ rest.filterMap ScanOp.volt?, (u.channels.get c).overvoltageScans ≠ 1

theorem ChecksQuiet.of_counts {o : ScanOp} {rest : List ScanOp} {u w : State}
    (h : ChecksQuiet (o :: rest) u) (hover : o.over? = none) (hvolt : o.volt? = none)
    (hc : CountsKept u w) : ChecksQuiet rest w := by
  obtain ⟨ho, hv, hover', hvolt'⟩ := h
  rw [List.filterMap_cons_none hover] at ho hover'
  rw [List.filterMap_cons_none hvolt] at hv hvolt'
  obtain ⟨hcount, hvcount⟩ := hc
  exact ⟨ho, hv, fun b hb => by rw [hcount]; exact hover' b hb, fun c hb => by
    rw [hvcount]
    exact hvolt' c hb⟩

theorem checksQuiet_over {b : Index} {rest : List ScanOp} {u : State}
    (h : ChecksQuiet (.overcurrent b :: rest) u) : ChecksQuiet rest (u.overcurrentScan b) := by
  obtain ⟨ho, hv, hover, hvolt⟩ := h
  obtain ⟨hcount, hvcount⟩ := overcurrentScan_counts u b
  obtain ⟨hb, hrest⟩ := List.nodup_cons.mp ho
  refine ⟨hrest, hv, fun d hd => ?_, fun c hc => ?_⟩
  · have hne : b ≠ d := fun e => hb (e ▸ hd)
    rw [hcount, Four.get_set_of_ne _ _ _ _ hne]
    exact hover d (List.mem_cons_of_mem _ hd)
  · rw [hvcount]
    exact hvolt c hc

theorem checksQuiet_volt {c : Index} {rest : List ScanOp} {u : State}
    (h : ChecksQuiet (.overvoltage c :: rest) u) : ChecksQuiet rest (u.overvoltageScan c) := by
  obtain ⟨ho, hv, hover, hvolt⟩ := h
  obtain ⟨hcount, hvcount⟩ := overvoltageScan_counts u c
  obtain ⟨hc, hrest⟩ := List.nodup_cons.mp hv
  refine ⟨ho, hrest, fun b hb => ?_, fun d hd => ?_⟩
  · rw [hcount]
    exact hover b hb
  · have hne : c ≠ d := fun e => hc (e ▸ hd)
    rw [hvcount, if_neg hne]
    exact hvolt d (List.mem_cons_of_mem _ hd)

theorem quietOthers_run {o : ScanOp} {rest : List ScanOp} {u : State} (ho : o.monitor? = none)
    (h : ChecksQuiet (o :: rest) u) : QuietOthers u (o.run u) ∧ ChecksQuiet rest (o.run u) := by
  have hothers := others_run ho u
  cases o with
  | monitor f => exact absurd ho (by simp [ScanOp.monitor?])
  | accumulate =>
    have hm := accumulateAll_moves u
    have hon := onBridges_accumulateAll u
    refine ⟨⟨hothers, accumulateAll_bridges u, congrArg Trip.latched hon.trip, fun c => ?_,
      .of_eq (accumulateAll_outbox u) hm.recorder⟩, h.of_counts rfl rfl hm.counts⟩
    have hc : (State.accumulateAll u).channels = u.channels := hon.channels
    change ((State.accumulateAll u).channels.get c).course = _ ∧
      ((State.accumulateAll u).channels.get c).foldCap = _
    rw [hc]
    exact ⟨rfl, rfl⟩
  | overcurrent b =>
    refine ⟨?_, checksQuiet_over h⟩
    have hq := overcurrentScan_of_quiet u b (h.currents b List.mem_cons_self)
    change QuietOthers u (u.overcurrentScan b)
    exact ⟨hothers, by rw [hq]; rfl, by rw [hq]; rfl, fun c => by rw [hq]; exact ⟨rfl, rfl⟩,
      .of_eq (by rw [hq]; rfl) (by rw [hq]; rfl)⟩
  | overvoltage c =>
    refine ⟨?_, checksQuiet_volt h⟩
    have hq := overvoltageScan_of_quiet u c (h.voltages c List.mem_cons_self)
    change QuietOthers u (u.overvoltageScan c)
    refine ⟨hothers, by rw [hq]; rfl, by rw [hq]; rfl, fun d => ?_,
      .of_eq (by rw [hq]; rfl) (by rw [hq]; rfl)⟩
    rw [hq]
    unfold State.mapChannel
    dsimp only
    rw [Four.get_set]
    split_ifs with hd
    · subst hd
      exact ⟨rfl, rfl⟩
    · exact ⟨rfl, rfl⟩
  | record j =>
    have hon := onRecorder_recorderShare u j
    refine ⟨⟨hothers, hon.bridges, congrArg Trip.latched hon.trip, fun c => ?_,
      recordsOnly_recorderShare u j⟩, h.of_counts rfl rfl (.of_eq hon.trip hon.channels)⟩
    change ((u.recorderShare j).channels.get c).course = _ ∧
      ((u.recorderShare j).channels.get c).foldCap = _
    rw [hon.channels]
    exact ⟨rfl, rfl⟩

/-- A scan with no count at 1 is the monitor's steps woven with such moves. -/
theorem actOnScan_woven_quiet (v : State) (k : Nat) (hover : ∀ b, v.trip.overcurrentScans.get b ≠ 1)
    (hvolt : ∀ c, (v.channels.get c).overvoltageScans ≠ 1) :
    Woven QuietOthers v.monitorSteps v (v.actOnScan k) := by
  obtain ⟨l, hrun, hl⟩ := actOnScan_ops v k
  rw [hrun, ← hl.monitors]
  refine runOps_woven (I := ChecksQuiet) QuietOthers.refl (fun _ _ _ h k => h.trans k)
    (fun o rest u ho h => quietOthers_run ho h) l (fun f hf rest u h => ?_) v
    ⟨by rw [hl.overs]; exact Index.all_nodup, by rw [hl.volts]; exact Index.all_nodup,
      fun b _ => hover b, fun c _ => hvolt c⟩
  rw [hl.monitors] at hf
  exact h.of_counts rfl rfl (movesAll_monitorSteps v f hf u).counts

theorem Woven.mono {Q R : State → State → Prop} (h : ∀ s t, Q s t → R s t)
    {l : List (State → State)} {v w : State} (hw : Woven Q l v w) : Woven R l v w := by
  induction hw with
  | done hq => exact .done (h _ _ hq)
  | step hq _ ih => exact .step (h _ _ hq) ih

theorem Woven.others {l : List (State → State)} {v w : State} (h : Woven QuietOthers l v w) :
    Woven Others l v w := h.mono fun _ _ h => h.toOthers

end Sys2Proof.Machine
end

section
/-! PROOF. EPISODE_LONG, EPISODE_END and the scans that end, recover or keep an episode (R54 to R60, R68,
R70, R90, R91). -/

namespace Sys2Proof.Machine

/-! ### At a millisecond tick -/

theorem ticked_long (m : Monitor) (st : Settings) (sc : Scanner) (h : m.state = .low ∨ m.state = .high)
    (he : st.episodeMax ≤ m.elapsedTime + 1) :
    m.ticked st sc = { m.aged st sc with elapsedTime := m.elapsedTime + 1 }.longed := by
  unfold Monitor.ticked
  obtain h | h := h
  all_goals
    rw [h]
    exact if_pos he

theorem ticked_ended (m : Monitor) (st : Settings) (sc : Scanner)
    (h : m.state = .recovering ∨ m.state = .long) (hb : st.band sc.g = true) (h0 : 0 < st.recoverTime)
    (ht : st.recoverTime ≤ m.recoveryTimer + 1) :
    m.ticked st sc = { m.aged st sc with recoveryTimer := m.recoveryTimer + 1 }.ended := by
  unfold Monitor.ticked
  obtain h | h := h
  all_goals
    rw [h]
    exact (if_pos hb).trans (if_pos ⟨h0, ht⟩)

theorem band_iff (st : Settings) (g : Nat) : st.band g = true ↔ st.dipEnd ≤ g ∧ g ≤ st.swellEnd := by
  unfold Settings.band
  rw [Bool.and_eq_true, decide_eq_true_iff, decide_eq_true_iff]

theorem endEpisode_flagged (s : State) (e : Episode) (h : s.monitor.episode = some e) (l : Link) :
    s.endEpisode.flagged l 4 := by
  unfold State.endEpisode State.episodeEvent
  rw [State.mapMonitor_monitor]
  dsimp only
  rw [mapEpisode_of_some _ _ e h]
  exact raise_flagged _ _ l

/-- The shares before the episode's leave what it reads. -/
theorem tickRun_before (v : State) (l : List TickShare) (h : .episode ∉ l) :
    (tickRun v l).monitor.excursionCleared = v.monitor.excursionCleared := by
  refine tickRun_keeps (P := fun t => t.monitor.excursionCleared = v.monitor.excursionCleared)
    (fun x hx t ht => ?_) rfl
  cases x
  case episode => exact absurd hx h
  case frequency => exact (frequencyTick_monitor t).trans ht
  case channels => exact (congrArg Monitor.excursionCleared (channelsTick_monitor t)).trans ht
  case watchdog => exact (congrArg Monitor.excursionCleared (onWatchdog_tick t).monitor).trans ht

theorem recoveryTick_flagged (s : State) (e : Episode) (he : s.monitor.episode = some e)
    (hb : s.settings.band s.scanner.g = true) (h0 : 0 < s.settings.recoverTime)
    (ht : s.settings.recoverTime ≤ s.monitor.recoveryTimer + 1) (l : Link) :
    s.recoveryTick.flagged l 4 := by
  have hband : s.inBand = true := hb
  unfold State.recoveryTick
  rw [hband, if_pos rfl]
  dsimp only
  rw [if_pos (by exact ⟨h0, ht⟩)]
  exact endEpisode_flagged _ e he l

theorem episodeTick_flagged (s : State) (e : Episode) (he : s.monitor.episode = some e)
    (hs : s.monitor.state = .recovering ∨ s.monitor.state = .long)
    (hb : s.settings.band s.scanner.g = true) (h0 : 0 < s.settings.recoverTime)
    (ht : s.settings.recoverTime ≤ s.monitor.recoveryTimer + 1) (l : Link) :
    s.episodeTick.flagged l 4 := by
  unfold State.episodeTick
  obtain hs | hs := hs
  all_goals
    rw [hs]
    exact recoveryTick_flagged ((s.mapMonitor Monitor.agesTick).capsTick) e he hb h0 ht l

/-- The tick that ends an episode announces it, wherever its share comes in the tick (R59). -/
theorem takeMillisecond_ends_flagged (s : State) (k : Nat) (e : Episode)
    (he : s.monitor.episode = some e) (hs : s.monitor.state = .recovering ∨ s.monitor.state = .long)
    (hb : s.settings.band s.scanner.g = true) (h0 : 0 < s.settings.recoverTime)
    (ht : s.settings.recoverTime ≤ s.monitor.recoveryTimer + 1) (l : Link) :
    (s.takeMillisecond k).flagged l 4 := by
  obtain ⟨pre, post, hpre, -, heq⟩ := takeMillisecond_around s k .episode
  rw [heq]
  have hticks := ticks_tickRun s.reachMillisecond pre
  have hmon := tickRun_before s.reachMillisecond pre hpre
  generalize tickRun s.reachMillisecond pre = u at hticks hmon
  have hset : u.settings = s.settings := hticks.settings
  have hscan : u.scanner = s.scanner := hticks.scanner
  have hepisode : u.monitor.episode = s.monitor.episode := by
    have h := congrArg Monitor.episode hmon
    exact h
  have hstate : u.monitor.state = s.monitor.state := by
    have h := congrArg Monitor.state hmon
    exact h
  have htimer : u.monitor.recoveryTimer = s.monitor.recoveryTimer := by
    have h := congrArg Monitor.recoveryTimer hmon
    exact h
  refine tickRun_flags _ post l 4 (episodeTick_flagged u e (hepisode.trans he) ?_ ?_ ?_ ?_ l)
  · rw [hstate]
    exact hs
  · rw [hset, hscan]
    exact hb
  · rw [hset]
    exact h0
  · rw [hset, htimer]
    exact ht

theorem episodeLong_tick (o : Schedule) (s : State) (hrun : s.inReset = false)
    (hs : s.monitor.state = .low ∨ s.monitor.state = .high)
    (he : s.settings.episodeMax ≤ s.monitor.elapsedTime + 1) :
    ∃ t, exec (.episodeLong o) s = .next t ∧ exec (.millisecondTick o) s = .next t ∧
      t.monitor.state = .long ∧ t.monitor.elapsedTime = s.monitor.elapsedTime + 1 ∧
      t.monitor.recoveryTimer = 0 ∧ t.monitor.holdRequest = false ∧
      t.monitor.episode = s.monitor.episode.map (fun e => { e with outcome := .sustained }) ∧
      (∀ c k, t.monitor.cap.get c = some k → k.mode = .ramp) ∧
      t.scanner = s.scanner ∧ t.sync = s.sync ∧ s.coreKept t := by
  have hmon := takeMillisecond_monitor s o.shares
  rw [ticked_long _ _ _ hs he] at hmon
  have hticks := ticks_takeMillisecond s o.shares
  have hcore := coreKept_tick s o
  have htick := exec_tick s o hrun
  have hrow : (s.takeMillisecond o.shares).monitor.state = .long →
      exec (.episodeLong o) s = .next ((s.takeMillisecond o.shares).settle o) := fun hlong => by
    rw [exec_episodeLong, take_of_running s o _ hrun, takenIf_of_happened]
    rw [hlong]
    obtain h | h := hs
    all_goals
      rw [h]
      rfl
  generalize s.takeMillisecond o.shares = w at hmon hticks hcore htick hrow
  have ht := taken_settle w o
  have hpart : ∀ {α : Type} (f : Monitor → α), (∀ m : Monitor, f m.excursionCleared = f m) →
      f (w.settle o).monitor =
        f { s.monitor.aged s.settings s.scanner with
            elapsedTime := s.monitor.elapsedTime + 1 }.longed := fun f hf => by
    rw [ht.monitor, ← hf, hmon, hf]
  have hstate := hpart Monitor.state fun _ => rfl
  have hcap := hpart Monitor.cap fun _ => rfl
  refine ⟨_, hrow ((congrArg Monitor.state ht.monitor).symm.trans hstate), htick, hstate,
    hpart Monitor.elapsedTime fun _ => rfl, hpart Monitor.recoveryTimer fun _ => rfl,
    hpart Monitor.holdRequest fun _ => rfl, hpart Monitor.episode fun _ => rfl, fun c k hk => ?_,
    ht.scanner.trans hticks.scanner, ht.sync.trans hticks.sync, hcore⟩
  have hramp := rampCaps_cap
    { s.monitor.aged s.settings s.scanner with elapsedTime := s.monitor.elapsedTime + 1 } c
  rw [hcap] at hk
  obtain ⟨j, -, rfl⟩ := Option.map_eq_some_iff.mp (hramp.symm.trans hk)
  rfl

theorem episodeEnd_tick (o : Schedule) (s : State) (e : Episode) (hrun : s.inReset = false)
    (hs : s.monitor.state = .recovering ∨ s.monitor.state = .long) (he : s.monitor.episode = some e)
    (hlow : s.settings.dipEnd ≤ s.scanner.g) (hhigh : s.scanner.g ≤ s.settings.swellEnd)
    (h0 : 0 < s.settings.recoverTime) (hdue : s.settings.recoverTime ≤ s.monitor.recoveryTimer + 1) :
    ∃ t, exec (.episodeEnd none o) s = .next t ∧ exec (.millisecondTick o) s = .next t ∧
      t.monitor.state = .normal ∧ t.monitor.recoveryTimer = 0 ∧
      t.monitor.episode =
        some { e with
          outcome := if s.monitor.state = .long then .sustained else .recovered } ∧
      (∀ l, t.flagged l 4) ∧ t.scanner = s.scanner ∧ t.sync = s.sync ∧ s.coreKept t := by
  have hband : s.settings.band s.scanner.g = true := (band_iff _ _).mpr ⟨hlow, hhigh⟩
  have hmon := takeMillisecond_monitor s o.shares
  rw [ticked_ended _ _ _ hs hband h0 hdue] at hmon
  have hticks := ticks_takeMillisecond s o.shares
  have hcore := coreKept_tick s o
  have htick := exec_tick s o hrun
  have hflag := takeMillisecond_ends_flagged s o.shares e he hs hband h0 hdue
  have hrow : (s.takeMillisecond o.shares).monitor.state = .normal →
      exec (.episodeEnd none o) s = .next ((s.takeMillisecond o.shares).settle o) := fun hnormal => by
    rw [exec_episodeEnd_tick, take_of_running s o _ hrun, takenIf_of_happened]
    unfold returnsToNormal
    rw [hnormal]
    obtain h | h := hs
    all_goals
      rw [h]
      rfl
  generalize s.takeMillisecond o.shares = w at hmon hticks hcore htick hrow hflag
  have ht := taken_settle w o
  have hpart : ∀ {α : Type} (f : Monitor → α), (∀ m : Monitor, f m.excursionCleared = f m) →
      f (w.settle o).monitor =
        f { s.monitor.aged s.settings s.scanner with
            recoveryTimer := s.monitor.recoveryTimer + 1 }.ended := fun f hf => by
    rw [ht.monitor, ← hf, hmon, hf]
  have hstate := hpart Monitor.state fun _ => rfl
  refine ⟨_, hrow ((congrArg Monitor.state ht.monitor).symm.trans hstate), htick, hstate,
    hpart Monitor.recoveryTimer fun _ => rfl, ?_, fun l => ht.flags l 4 (hflag l),
    ht.scanner.trans hticks.scanner, ht.sync.trans hticks.sync, hcore⟩
  exact (hpart Monitor.episode fun _ => rfl).trans (mapEpisode_of_some
    { s.monitor.aged s.settings s.scanner with recoveryTimer := s.monitor.recoveryTimer + 1 } _ e he)

end Sys2Proof.Machine
end

section
/-! PROOF. Scans that end, recover or keep an episode (R54, R55, R57, R59, R60, R68, R70, R90, R91). -/

namespace Sys2Proof.Machine

/-! ### The scan back past the end threshold -/

theorem monitorSteps_of_kind (v : State) (k : EpisodeKind) (h : v.monitor.state = k.state) :
    v.monitorSteps = scanSteps k := by
  unfold State.monitorSteps
  rw [h]
  cases k
  · rfl
  · rfl

theorem monitorSteps_of_long (v : State) (h : v.monitor.state = .long) :
    v.monitorSteps =
      [State.noteLevel, (State.testLastLevel · .low), (State.testLastLevel · .high),
        State.recoveryScan] := by
  unfold State.monitorSteps
  rw [h]

theorem monitorSteps_of_recovering (v : State) (h : v.monitor.state = .recovering)
    (hdip : v.settings.dipStart ≤ v.scanner.g) (hswell : v.scanner.g ≤ v.settings.swellStart) :
    v.monitorSteps = [State.recoveryScan] := by
  unfold State.monitorSteps
  rw [h]
  dsimp only
  rw [episodeDue_of_level v hdip hswell]

/-- The entry to RECOVERING drops the hold request, however the scan left it. -/
theorem holdUpdated_recoveringNow (m : Monitor) (st : Settings) (g : Nat) :
    (m.holdUpdated st g).recoveringNow = m.recoveringNow := by
  unfold Monitor.holdUpdated
  split_ifs
  · rfl
  · rfl
  · rfl
  · rfl

/-- The monitor before the recovery timer's rule, at a scan back past the end threshold. -/
theorem scanReads_back (m : Monitor) (st : Settings) (g : Nat) (k : EpisodeKind)
    (hback : st.pastEnd k g = true) (hlimit : m.overLimit k g = false) :
    (scanReads k).dropLast.foldl (fun m φ => φ st g m) m = (m.leveled g).recoveringNow := by
  have hquiet : ∀ c, (m.leveled g).breached c ((m.leveled g).overLimit k g) = m.leveled g := fun c => by
    rw [show (m.leveled g).overLimit k g = m.overLimit k g by cases k <;> rfl, hlimit]
    exact breached_of_none _ _
  cases k
  · change Monitor.recoveredFrom (Monitor.holdUpdated ((m.leveled g).breached _
      ((m.leveled g).overLimit .low g)) st g) st .low g = _
    rw [hquiet]
    unfold Monitor.recoveredFrom
    rw [if_pos hback]
    exact holdUpdated_recoveringNow _ _ _
  · change Monitor.recoveredFrom ((m.leveled g).breached _ ((m.leveled g).overLimit .high g)) st .high g = _
    rw [hquiet]
    unfold Monitor.recoveredFrom
    exact if_pos hback

theorem scanSteps_dropLast (k : EpisodeKind) :
    scanSteps k = (scanSteps k).dropLast ++ [State.recoveryAtEntry] := by
  cases k
  · rfl
  · rfl

theorem scanReads_dropLast (k : EpisodeKind) :
    List.Forall₂ Reads (scanSteps k).dropLast (scanReads k).dropLast := by
  cases k
  · exact .cons noteLevel_reads (.cons (testLimit_reads .low) (.cons updateHold_reads
      (.cons (recoverFrom_reads .low) .nil)))
  · exact .cons noteLevel_reads (.cons (testLimit_reads .high) (.cons (recoverFrom_reads .high) .nil))

theorem movesAll_dropLast {l : List (State → State)} (h : MovesAll l) : MovesAll l.dropLast :=
  fun f hf => h f (List.mem_of_mem_dropLast hf)

/-- A scan back past the end threshold, up to the recovery timer's rule and after it. -/
theorem scan_back (v : State) (j : Nat) (k : EpisodeKind) (hs : v.monitor.state = k.state)
    (hback : v.settings.pastEnd k v.scanner.g = true)
    (hlimit : v.monitor.overLimit k v.scanner.g = false) :
    ∃ u : State, TripMoves v u ∧ u.monitor = (v.monitor.leveled v.scanner.g).recoveringNow ∧
      TripMoves u.recoveryScan (v.actOnScan j) ∧
      (v.actOnScan j).monitor = u.monitor.recoveryScanned v.settings v.scanner.g := by
  have hw := actOnScan_woven v j
  have hall := movesAll_monitorSteps v
  rw [monitorSteps_of_kind v k hs] at hw hall
  rw [scanSteps_dropLast k] at hw
  obtain ⟨u, hpre, hpost⟩ := hw.split
  have hmon := hpre.monitor (movesAll_dropLast hall) (scanReads_dropLast k)
  rw [scanReads_back _ _ _ k hback hlimit] at hmon
  have hmoves := hpre.moves (movesAll_dropLast hall)
  have hentry : u.recoveryAtEntry = u.recoveryScan := if_pos (by rw [hmon]; rfl)
  rw [hentry] at hpost
  have hlast := hpost.nil
  refine ⟨u, hmoves, hmon, hlast.toTripMoves, ?_⟩
  rw [hlast.monitor, recoveryScan_reads u, hmoves.toCalm.settings, hmoves.toCalm.scanner]

/-! ### The scan that ends an episode -/

theorem recoveryScan_ends (s : State) (hb : s.settings.band s.scanner.g = true)
    (h0 : s.settings.recoverTime = 0) : s.recoveryScan = s.endEpisode := by
  have hband : s.inBand = true := hb
  unfold State.recoveryScan
  rw [hband, if_pos rfl, if_pos h0]

theorem recoveryScanned_ends (m : Monitor) (st : Settings) (g : Nat) (hb : st.band g = true)
    (h0 : st.recoverTime = 0) : m.recoveryScanned st g = m.ended := by
  unfold Monitor.recoveryScanned
  rw [if_pos hb, if_pos h0]

/-- The recovery timer's rule at a scan that does not end the episode. -/
theorem recoveryScanned_goesOn (m : Monitor) (st : Settings) (g : Nat)
    (h : st.band g = true → 0 < st.recoverTime) :
    m.recoveryScanned st g = if st.band g then m else { m with recoveryTimer := 0 } := by
  unfold Monitor.recoveryScanned
  split_ifs with hb h0
  · exact absurd h0 (h hb).ne'
  · rfl
  · rfl

/-- What a scan that ends an episode shows, by EPISODE_END and by SCAN. -/
def State.endsAtScan (s : State) (x : Samples) (o : Schedule) (e : Episode) : Prop :=
  ∃ t, exec (.episodeEnd (some x) o) s = .next t ∧ exec (.scan x o) s = .next t ∧
    t.monitor.state = .normal ∧ t.monitor.recoveryTimer = 0 ∧
    t.monitor.episode = some e ∧ (∀ l, t.flagged l 4) ∧ t.sync = s.sync ∧ s.frameKept t

theorem endsAtScan_of (s : State) (x : Samples) (o : Schedule) (m : Monitor) (e : Episode) (c : Outcome)
    (hrun : s.inReset = false) (hs : s.monitor.state ≠ .normal) (u : State) (he : m.episode = some e)
    (hc : (if m.state = .long then Outcome.sustained else .recovered) = c)
    (hm : ((s.completeScan x).actOnScan o.shares).monitor = m.ended)
    (hu : u.monitor = m) (hmoves : TripMoves u.endEpisode ((s.completeScan x).actOnScan o.shares)) :
    s.endsAtScan x o { e with outcome := c } := by
  have hscan := taken_scan s x o hrun
  have hcalm : Calm (s.completeScan x) ((s.completeScan x).actOnScan o.shares) := calm_actOnScan _ _
  have hepisode : m.ended.episode = some { e with outcome := c } := by
    rw [← hc]
    exact mapEpisode_of_some m _ e he
  have hflag : ∀ l, ((s.completeScan x).actOnScan o.shares).flagged l 4 := fun l =>
    hmoves.flags l 4 (endEpisode_flagged u e (by rw [hu]; exact he) l)
  have hrow : ((s.completeScan x).actOnScan o.shares).monitor.state = .normal →
      exec (.episodeEnd (some x) o) s =
        .next (((s.completeScan x).actOnScan o.shares).settle o) := fun hnormal => by
    rw [exec_episodeEnd_scan, take_of_running s o _ hrun, takenIf_of_happened]
    · rfl
    · change (s.monitor.state != .normal &&
        ((s.completeScan x).actOnScan o.shares).monitor.state == .normal) = true
      rw [hnormal, Bool.and_eq_true, bne_iff_ne]
      exact ⟨hs, rfl⟩
  have hframe := frameKept_settle (s := s.completeScan x) hcalm.toSteady o
  generalize (s.completeScan x).actOnScan o.shares = w at hscan hcalm hm hmoves hflag hrow hframe
  have ht := taken_settle w o
  have hmon : (w.settle o).monitor = m.ended := ht.monitor.trans hm
  exact ⟨_, hrow (congrArg Monitor.state hm), hscan, congrArg Monitor.state hmon,
    congrArg Monitor.recoveryTimer hmon, by rw [hmon]; exact hepisode,
    fun l => ht.flags l 4 (hflag l), ht.sync.trans hcalm.sync, hframe⟩

theorem leveled_episode (m : Monitor) (g : Nat) (e : Episode) (h : m.episode = some e) :
    (m.leveled g).episode = some (e.noteLevel g) := mapEpisode_of_some _ _ e h

theorem noteLevel_eq (e : Episode) (g : Nat) :
    e.noteLevel g =
      { e with extreme := match e.kind with | .low => min e.extreme g | .high => max e.extreme g } := by
  unfold Episode.noteLevel
  cases hk : e.kind
  · rfl
  · rfl

theorem ends_recovering (x : Samples) (o : Schedule) (s : State) (e : Episode) (hrun : s.inReset = false)
    (he : s.monitor.episode = some e) (hdip : s.settings.dipStart ≤ s.settings.dipEnd)
    (hswell : s.settings.swellEnd ≤ s.settings.swellStart) (h0 : s.settings.recoverTime = 0)
    (hb : s.settings.band (s.completeScan x).scanner.g = true) (hs : s.monitor.state = .recovering) :
    s.endsAtScan x o { e with outcome := .recovered } := by
  obtain ⟨hlow, hhigh⟩ := (band_iff _ _).mp hb
  have hset : (s.completeScan x).settings = s.settings := rfl
  have hmon : (s.completeScan x).monitor = s.monitor := rfl
  have hw := actOnScan_woven (s.completeScan x) o.shares
  rw [monitorSteps_of_recovering _ (by rw [hmon]; exact hs) (by rw [hset]; omega)
    (by rw [hset]; omega)] at hw
  obtain ⟨u, hq, hrest⟩ := hw.uncons
  have hum : u.monitor = s.monitor := hq.monitor
  have hub : u.settings.band u.scanner.g = true := by
    rw [hq.toCalm.settings, hq.toCalm.scanner]
    exact hb
  have hu0 : u.settings.recoverTime = 0 := by
    rw [hq.toCalm.settings]
    exact h0
  rw [recoveryScan_ends u hub hu0] at hrest
  have hlast := hrest.nil
  refine endsAtScan_of s x o s.monitor e _ hrun (by rw [hs]; exact MonitorState.noConfusion) u he
    (if_neg (by rw [hs]; exact MonitorState.noConfusion)) ?_ hum hlast.toTripMoves
  rw [hlast.monitor, endEpisode_monitor, hum]

theorem ends_back (x : Samples) (o : Schedule) (s : State) (e : Episode) (k : EpisodeKind)
    (hrun : s.inReset = false) (he : s.monitor.episode = some e) (h0 : s.settings.recoverTime = 0)
    (hb : s.settings.band (s.completeScan x).scanner.g = true) (hs : s.monitor.state = k.state)
    (hback : s.settings.pastEnd k (s.completeScan x).scanner.g = true)
    (hlimit : s.monitor.overLimit k (s.completeScan x).scanner.g = false) :
    s.endsAtScan x o
      { e.noteLevel (s.completeScan x).scanner.g with outcome := .recovered } := by
  obtain ⟨u, hvu, hum, hmoves, hw⟩ := scan_back (s.completeScan x) o.shares k hs hback hlimit
  have hub : u.settings.band u.scanner.g = true := by
    rw [hvu.toCalm.settings, hvu.toCalm.scanner]
    exact hb
  have hu0 : u.settings.recoverTime = 0 := by
    rw [hvu.toCalm.settings]
    exact h0
  rw [recoveryScan_ends u hub hu0] at hmoves
  rw [recoveryScanned_ends u.monitor (s.completeScan x).settings _ hb h0] at hw
  have hepisode : u.monitor.episode = some (e.noteLevel (s.completeScan x).scanner.g) := by
    rw [hum]
    exact leveled_episode s.monitor (s.completeScan x).scanner.g e he
  refine endsAtScan_of s x o u.monitor _ _ hrun ?_ u hepisode ?_ hw rfl hmoves
  · rw [hs]
    cases k
    · exact MonitorState.noConfusion
    · exact MonitorState.noConfusion
  · rw [hum]
    exact if_neg MonitorState.noConfusion

/-! ### The scan in LONG -/

theorem scan_long (v : State) (j : Nat) (hs : v.monitor.state = .long) :
    ∃ a b u : State, Calm v a ∧ a.monitor = v.monitor.leveled v.scanner.g ∧
      TripMoves (a.testLastLevel .low) b ∧ b.monitor = (a.testLastLevel .low).monitor ∧
      TripMoves (b.testLastLevel .high) u ∧ u.monitor = (b.testLastLevel .high).monitor ∧
      TripMoves v u ∧ TripMoves u.recoveryScan (v.actOnScan j) ∧
      (v.actOnScan j).monitor = u.monitor.recoveryScanned v.settings v.scanner.g := by
  have hw := actOnScan_woven v j
  rw [monitorSteps_of_long v hs] at hw
  obtain ⟨z, hvz, hw⟩ := hw.uncons
  obtain ⟨a, hza, hw⟩ := hw.uncons
  obtain ⟨b, hab, hw⟩ := hw.uncons
  obtain ⟨u, hbu, hw⟩ := hw.uncons
  have hlast := hw.nil
  have hva : TripMoves v a :=
    (hvz.toTripMoves.trans (mapMonitor_moves z _ rfl rfl).toTripMoves).trans hza.toTripMoves
  have hvb : TripMoves v b := (hva.trans (testLastLevel_moves a .low).toTripMoves).trans hab.toTripMoves
  have hvu : TripMoves v u := (hvb.trans (testLastLevel_moves b .high).toTripMoves).trans hbu.toTripMoves
  refine ⟨a, b, u, hva.toCalm, ?_, hab.toTripMoves, hab.monitor, hbu.toTripMoves, hbu.monitor, hvu,
    hlast.toTripMoves, ?_⟩
  · rw [hza.monitor, noteLevel_reads z, hvz.monitor, hvz.toCalm.scanner]
  · rw [hlast.monitor, recoveryScan_reads u, hvu.toCalm.settings, hvu.toCalm.scanner]

end Sys2Proof.Machine
end

section
/-! PROOF. Scans in LONG, and those that enter RECOVERING (R54, R55, R57, R60, R68, R70, R90, R91). -/

namespace Sys2Proof.Machine

/-! ### The bridges at the end of the hold request -/

/-- Bridge `b` of `v` held by a sag drops the cause DIP, and runs again where it was the last (R90, R91). -/
def State.dipDropped (v : State) (b : Index) (t : State) : Prop :=
  ((v.bridges.get b).heldCauses = ⟨false, true⟩ →
    t.bridges.get b =
      { v.bridges.get b with
        state := .running, heldCauses := ⟨false, false⟩, next := v.phase.map (v.firstThyristor b) } ∧
    ∀ l, t.flagged l 1) ∧
  ((v.bridges.get b).heldCauses = ⟨true, true⟩ →
    t.bridges.get b = { v.bridges.get b with heldCauses := ⟨true, false⟩ })

theorem dipDropped_of_later {v t u : State} {b : Index} (h : v.dipDropped b t)
    (hb : u.bridges.get b = t.bridges.get b) (hf : FlagsKept t u) : v.dipDropped b u :=
  ⟨fun hc => ⟨hb.trans (h.1 hc).1, fun l => hf l 1 ((h.1 hc).2 l)⟩, fun hc => hb.trans (h.2 hc)⟩

theorem resumeBridge_flagged (s : State) (b : Index) (l : Link) : (s.resumeBridge b).flagged l 1 :=
  raise_flagged _ _ l

theorem clearDip_dropped {v z : State} {b : Index} (hc : Calm v z)
    (hb : z.bridges.get b = v.bridges.get b) (hheld : v.bridgeState b = .held) :
    v.dipDropped b (z.clearHeld b .dip) := by
  have hz : z.bridgeState b = .held := (congrArg Bridge.state hb).trans hheld
  refine ⟨fun hcauses => ?_, fun hcauses => ?_⟩
  · have hzc : (z.bridges.get b).heldCauses = ⟨false, true⟩ := by rw [hb]; exact hcauses
    have heq := clearHeld_of_last z b .dip hz (by rw [hzc]; rfl) (by rw [hzc]; rfl)
    rw [heq, resumeBridge_bridge, hb, hc.phase, firstThyristor_of_settings hc.settings]
    exact ⟨rfl, resumeBridge_flagged z b⟩
  · have hzc : (z.bridges.get b).heldCauses = ⟨true, true⟩ := by rw [hb]; exact hcauses
    have hne : (z.bridges.get b).heldCauses.drop .dip ≠ HeldCauses.empty := by
      rw [hzc]
      decide
    have heq := clearHeld_of_more z b .dip hz (by rw [hzc]; rfl) hne
    have hdrop : (z.bridges.get b).heldCauses.drop .dip = ⟨true, false⟩ := by
      rw [hzc]
      rfl
    rw [heq, hdrop, ← hb]
    exact Four.get_set_self _ _ _

/-- The hold request that turns off drops DIP on every bridge (R70, R90). -/
theorem turnHoldOff_dropped {v z : State} {b : Index} (hc : Calm v z) (hb : z.bridges = v.bridges)
    (hon : z.monitor.holdRequest = true) (hheld : v.bridgeState b = .held) :
    v.dipDropped b z.turnHoldOff := by
  let z' := z.mapMonitor (fun m => { m with holdRequest := false })
  have hoff : z.turnHoldOff = z'.forAll Index.all (fun b t => t.clearHeld b .dip) := if_pos hon
  have hcalm : Calm v z' := hc.trans' (calm_mapMonitor z _ rfl rfl)
  obtain ⟨y, hy, hlast⟩ := forAll_at_bridge z' Index.all (fun b t => t.clearHeld b .dip) b
    Index.all_nodup (Index.mem_all b) fun b t => onBridge_clearHeld t b .dip
  have hby : y.bridges.get b = v.bridges.get b := hy.bridge.trans (by rw [← hb]; rfl)
  rw [hoff]
  exact dipDropped_of_later (clearDip_dropped (hcalm.trans' hy.toCalm) hby hheld) hlast.bridge hlast.flags

theorem turnHoldOff_of_off (s : State) (h : s.monitor.holdRequest = false) : s.turnHoldOff = s :=
  if_neg (by rw [h]; exact Bool.false_ne_true)

theorem recoveryScan_bridges (s : State) : s.recoveryScan.bridges = s.bridges := by
  unfold State.recoveryScan
  split_ifs
  · exact (episodeEvent_parts _ true).2.2
  · rfl
  · rfl

theorem recoveryAtEntry_bridges (s : State) : s.recoveryAtEntry.bridges = s.bridges := by
  unfold State.recoveryAtEntry
  split_ifs
  · exact recoveryScan_bridges s
  · rfl

/-- The last steps of a scan back past the end threshold, from a state in which the hold request may
still be on. -/
theorem recoverSteps_dropped {v a w : State} {k : EpisodeKind} {b : Index} (hc : Calm v a)
    (hback : v.settings.pastEnd k v.scanner.g = true)
    (h : Woven QuietOthers [(State.recoverFrom · k), State.recoveryAtEntry] a w)
    (hb : a.monitor.holdRequest = true → a.bridges = v.bridges ∧ v.bridgeState b = .held)
    (hd : a.monitor.holdRequest = false → v.dipDropped b a) : v.dipDropped b w := by
  obtain ⟨c, hac, h⟩ := h.uncons
  obtain ⟨d, hcd, h⟩ := h.uncons
  have hdw := h.nil
  have henter : c.recoverFrom k = c.enterRecovering := by
    rw [recoverFrom_eq, hac.toCalm.settings, hac.toCalm.scanner, hc.settings, hc.scanner, if_pos hback]
  have hafter : FlagsKept c.enterRecovering w := by
    rw [← henter]
    exact (hcd.flags.trans (recoveryAtEntry_moves d).flags).trans hdw.flags
  have hbridges : w.bridges = c.enterRecovering.bridges := by
    rw [hdw.bridges, recoveryAtEntry_bridges, hcd.bridges, henter]
  have hentered : v.dipDropped b c.enterRecovering := by
    let z := c.mapMonitor (fun m => { m.rampCaps with state := .recovering, recoveryTimer := 0 })
    have hvz : Calm v z := (hc.trans' hac.toCalm).trans' (calm_mapMonitor c _ rfl rfl)
    have hzhold : z.monitor.holdRequest = a.monitor.holdRequest := by
      have h := congrArg Monitor.holdRequest hac.monitor
      exact h
    change v.dipDropped b z.turnHoldOff
    cases hon : a.monitor.holdRequest with
    | true =>
      obtain ⟨hbridges, hheld⟩ := hb hon
      exact turnHoldOff_dropped hvz (hac.bridges.trans hbridges) (hzhold.trans hon) hheld
    | false =>
      rw [turnHoldOff_of_off z (hzhold.trans hon)]
      exact dipDropped_of_later (hd hon) (by rw [← hac.bridges]; rfl) hac.flags
  exact dipDropped_of_later hentered (by rw [hbridges]) hafter

theorem testLimit_of_within (s : State) (k : EpisodeKind) (h : s.monitor.overLimit k s.scanner.g = false) :
    s.testLimit k = s := by
  cases k
  · exact (congrArg (s.breach .envelopeLow) h).trans (breach_of_none s _)
  · exact (congrArg (s.breach .envelopeHigh) h).trans (breach_of_none s _)

theorem overLimit_leveled (m : Monitor) (k : EpisodeKind) (g : Nat) :
    (m.leveled g).overLimit k g = m.overLimit k g := by
  cases k
  · rfl
  · rfl

/-- The first two steps of a scan in LOW or HIGH within its limit leave all but the extreme level. -/
theorem firstSteps_within {v a c : State} {k : EpisodeKind} (hva : QuietOthers v a)
    (hac : QuietOthers a.noteLevel c) (hlimit : v.monitor.overLimit k v.scanner.g = false) :
    c.testLimit k = c ∧ Calm v c ∧ c.bridges = v.bridges ∧
      c.monitor = v.monitor.leveled v.scanner.g := by
  have hmon : c.monitor = v.monitor.leveled v.scanner.g := by
    rw [hac.monitor, noteLevel_reads a, hva.monitor, hva.toCalm.scanner]
  have hcalm : Calm v c :=
    (hva.toCalm.trans' (mapMonitor_moves a _ rfl rfl).toTripMoves.toCalm).trans' hac.toCalm
  refine ⟨testLimit_of_within c k ?_, hcalm, hac.bridges.trans hva.bridges, hmon⟩
  rw [hmon, hcalm.scanner, overLimit_leveled]
  exact hlimit

/-- A HELD bridge at a scan that enters RECOVERING with the hold request on (R90, R91). -/
theorem scan_back_dropped (v : State) (j : Nat) (k : EpisodeKind) (b : Index)
    (hs : v.monitor.state = k.state) (hback : v.settings.pastEnd k v.scanner.g = true)
    (hlimit : v.monitor.overLimit k v.scanner.g = false) (hon : v.monitor.holdRequest = true)
    (hover : ∀ b, v.trip.overcurrentScans.get b ≠ 1)
    (hvolt : ∀ c, (v.channels.get c).overvoltageScans ≠ 1) (hheld : v.bridgeState b = .held) :
    v.dipDropped b (v.actOnScan j) := by
  have hw := actOnScan_woven_quiet v j hover hvolt
  rw [monitorSteps_of_kind v k hs] at hw
  cases k with
  | high =>
    obtain ⟨a, hva, hw⟩ := hw.uncons
    obtain ⟨c, hac, hw⟩ := hw.uncons
    obtain ⟨htest, hvc, hbridges, hmon⟩ := firstSteps_within hva hac hlimit
    rw [htest] at hw
    have hcon : c.monitor.holdRequest = true := by
      rw [hmon]
      exact hon
    exact recoverSteps_dropped hvc hback hw (fun _ => ⟨hbridges, hheld⟩)
      fun hoff => absurd (hoff.symm.trans hcon) Bool.false_ne_true
  | low =>
    obtain ⟨a, hva, hw⟩ := hw.uncons
    obtain ⟨c, hac, hw⟩ := hw.uncons
    obtain ⟨htest, hvc, hbridges, hmon⟩ := firstSteps_within hva hac hlimit
    rw [htest] at hw
    obtain ⟨d, hcd, hw⟩ := hw.uncons
    have hdon : d.monitor.holdRequest = true := by
      rw [hcd.monitor, hmon]
      exact hon
    have hvd : Calm v d := hvc.trans' hcd.toCalm
    have hdb : d.bridges = v.bridges := hcd.bridges.trans hbridges
    have hupdate : d.updateHold = d.turnHoldOff ∨ d.updateHold = d := by
      unfold State.updateHold
      rw [if_pos hdon]
      split_ifs
      · exact .inl rfl
      · exact .inr rfl
    obtain hupdate | hupdate := hupdate
    · rw [hupdate] at hw
      have hoffd : d.turnHoldOff.monitor.holdRequest = false :=
        congrArg Monitor.holdRequest (turnHoldOff_monitor d)
      exact recoverSteps_dropped (hvd.trans' (turnHoldOff_moves d).toCalm) hback hw
        (fun h => absurd (hoffd.symm.trans h) Bool.false_ne_true)
        fun _ => turnHoldOff_dropped hvd hdb hdon hheld
    · rw [hupdate] at hw
      exact recoverSteps_dropped hvd hback hw (fun _ => ⟨hdb, hheld⟩)
        fun hoff => absurd (hoff.symm.trans hdon) Bool.false_ne_true

end Sys2Proof.Machine
end

section
/-! PROOF. Scans in LONG, and the obligation on how episodes recover, go LONG and end (R54 to R60). -/

namespace Sys2Proof.Machine

/-! ### The scan in LONG -/

/-- The monitor of LONG with a scan's level noted and tested (R60). -/
def Monitor.longTested (m : Monitor) (g : Nat) : Monitor :=
  ((m.leveled g).breached .envelopeLow (m.overLast .low g)).breached .envelopeHigh (m.overLast .high g)

theorem scan_long_monitor (v : State) (j : Nat) (hs : v.monitor.state = .long) :
    ∃ u : State, TripMoves v u ∧ u.monitor = v.monitor.longTested v.scanner.g ∧
      TripMoves u.recoveryScan (v.actOnScan j) ∧
      (v.actOnScan j).monitor = (v.monitor.longTested v.scanner.g).recoveryScanned v.settings v.scanner.g := by
  obtain ⟨a, b, u, hva, ha, hab, hb, hbu, hu, hvu, hlast, hmon⟩ := scan_long v j hs
  have hscan : b.scanner = v.scanner :=
    (hab.toCalm.scanner.trans (testLastLevel_moves a .low).toCalm.scanner).trans hva.scanner
  have hum : u.monitor = v.monitor.longTested v.scanner.g := by
    rw [hu, testLastLevel_reads .high b, hb, testLastLevel_reads .low a, ha, hva.scanner, hscan]
    rfl
  rw [hum] at hmon
  exact ⟨u, hvu, hum, hlast, hmon⟩

/-- A last level breached in LONG shows its cause at the scan's end, once for the episode (R60). -/
theorem scan_long_shows (v : State) (j : Nat) (e : Episode) (hs : v.monitor.state = .long)
    (he : v.monitor.episode = some e) :
    ((v.monitor.overLast .low v.scanner.g && !hasBit e.causes 1) = true →
      (v.actOnScan j).trip.latched = true ∧
        hasBit (v.actOnScan j).trip.causes TripCause.envelopeLow.bit = true) ∧
    ((v.monitor.overLast .high v.scanner.g && !hasBit e.causes 2) = true →
      (v.actOnScan j).trip.latched = true ∧
        hasBit (v.actOnScan j).trip.causes TripCause.envelopeHigh.bit = true) := by
  obtain ⟨a, b, u, hva, ha, hab, hb, hbu, hu, hvu, hlast, hmon⟩ := scan_long v j hs
  have hend := (recoveryScan_moves u).toTripMoves.trans hlast
  have hae : a.monitor.episode = some (e.noteLevel v.scanner.g) := by
    rw [ha]
    exact leveled_episode _ _ e he
  have hcauses : (e.noteLevel v.scanner.g).causes = e.causes := by
    unfold Episode.noteLevel
    cases e.kind
    · rfl
    · rfl
  refine ⟨fun hx => ?_, fun hx => ?_⟩
  · have hshow : (a.testLastLevel .low).trip.latched = true ∧
        hasBit (a.testLastLevel .low).trip.causes TripCause.envelopeLow.bit = true := by
      refine breach_shows a .envelopeLow _ _ hae ?_
      rw [hcauses, ha, hva.scanner]
      exact hx
    have hrest := ((hab.trans (testLastLevel_moves b .high).toTripMoves).trans hbu).trans hend
    exact ⟨hrest.latched hshow.1, hrest.causes hshow.1 _ hshow.2⟩
  · have hbm : b.monitor = (v.monitor.leveled v.scanner.g).breached .envelopeLow
        (v.monitor.overLast .low v.scanner.g) := by
      rw [hb, testLastLevel_reads .low a, ha, hva.scanner]
      rfl
    have hscan : b.scanner = v.scanner :=
      (hab.toCalm.scanner.trans (testLastLevel_moves a .low).toCalm.scanner).trans hva.scanner
    have hbe : b.monitor.episode =
        some ((e.noteLevel v.scanner.g).breachedBy .envelopeLow
          (v.monitor.overLast .low v.scanner.g)) := by
      rw [hbm]
      exact mapEpisode_of_some _ _ _ (leveled_episode _ _ e he)
    have hbit : hasBit ((e.noteLevel v.scanner.g).breachedBy .envelopeLow
        (v.monitor.overLast .low v.scanner.g)).causes TripCause.envelopeHigh.bit = hasBit e.causes 2 := by
      unfold Episode.breachedBy
      split_ifs
      · refine (hasBit_addBit_of_ne _ _ _ (by decide)).trans ?_
        rw [hcauses]
        rfl
      · rw [hcauses]
        rfl
    have hshow : (b.testLastLevel .high).trip.latched = true ∧
        hasBit (b.testLastLevel .high).trip.causes TripCause.envelopeHigh.bit = true := by
      refine breach_shows b .envelopeHigh _ _ hbe ?_
      rw [hbit, hbm, hscan]
      exact hx
    have hrest := hbu.trans hend
    exact ⟨hrest.latched hshow.1, hrest.causes hshow.1 _ hshow.2⟩

theorem breachedBy_eq (e : Episode) (c : TripCause) (x : Bool) :
    e.breachedBy c x =
      { e with
        causes := e.causes ||| (if x && !hasBit e.causes c.bit then 1#8 <<< c.bit else 0)
        tripped := e.tripped || (x && !hasBit e.causes c.bit) } := by
  unfold Episode.breachedBy
  split_ifs with h
  · rw [h, Bool.or_true]
    rfl
  · rw [Bool.not_eq_true] at h
    have hzero : e.causes ||| (0 : CauseSet) = e.causes := BitVec.or_zero
    rw [h, Bool.or_false]
    exact congrArg (fun x => { e with causes := x }) hzero.symm

theorem hasBit_or_two (x : CauseSet) (y : Bool) : hasBit (x ||| (if y then 2 else 0)) 2 = hasBit x 2 := by
  unfold hasBit
  cases y
  · simp
  · simp

/-- The episode of LONG after a scan's tests (R60). -/
theorem longTested_episode (m : Monitor) (g : Nat) (e : Episode) (he : m.episode = some e) :
    (m.longTested g).episode =
      some { e.noteLevel g with
        causes :=
          e.causes ||| (if m.overLast .low g && !hasBit e.causes 1 then 2 else 0) |||
            (if m.overLast .high g && !hasBit e.causes 2 then 4 else 0)
        tripped :=
          e.tripped || (m.overLast .low g && !hasBit e.causes 1) ||
            (m.overLast .high g && !hasBit e.causes 2) } := by
  have hnoted : (e.noteLevel g).causes = e.causes ∧ (e.noteLevel g).tripped = e.tripped := by
    unfold Episode.noteLevel
    cases e.kind
    · exact ⟨rfl, rfl⟩
    · exact ⟨rfl, rfl⟩
  have hepisode : (m.longTested g).episode =
      some (((e.noteLevel g).breachedBy .envelopeLow (m.overLast .low g)).breachedBy .envelopeHigh
        (m.overLast .high g)) :=
    mapEpisode_of_some _ _ _ (mapEpisode_of_some _ _ _ (leveled_episode m g e he))
  have hlow : TripCause.envelopeLow.bit = 1 := rfl
  have hhigh : TripCause.envelopeHigh.bit = 2 := rfl
  have htwo : (1#8 <<< 1 : CauseSet) = 2 := rfl
  have hfour : (1#8 <<< 2 : CauseSet) = 4 := rfl
  rw [hepisode, breachedBy_eq, breachedBy_eq]
  dsimp only
  rw [hlow, hhigh, htwo, hfour, hnoted.1, hnoted.2, hasBit_or_two]

theorem ends_long (x : Samples) (o : Schedule) (s : State) (e : Episode) (hrun : s.inReset = false)
    (he : s.monitor.episode = some e) (h0 : s.settings.recoverTime = 0)
    (hb : s.settings.band (s.completeScan x).scanner.g = true) (hs : s.monitor.state = .long)
    (hlow : lastLevel s.monitor.lowTable ≤ (s.completeScan x).scanner.g)
    (hhigh : (s.completeScan x).scanner.g ≤ lastLevel s.monitor.highTable) :
    s.endsAtScan x o
      { e.noteLevel (s.completeScan x).scanner.g with outcome := .sustained } := by
  obtain ⟨u, hvu, hum, hmoves, hw⟩ := scan_long_monitor (s.completeScan x) o.shares hs
  have hub : u.settings.band u.scanner.g = true := by
    rw [hvu.toCalm.settings, hvu.toCalm.scanner]
    exact hb
  have hu0 : u.settings.recoverTime = 0 := by
    rw [hvu.toCalm.settings]
    exact h0
  have hmon : (s.completeScan x).monitor = s.monitor := rfl
  have hset : (s.completeScan x).settings = s.settings := rfl
  have hnolow : s.monitor.overLast .low (s.completeScan x).scanner.g = false :=
    decide_eq_false (not_lt.mpr hlow)
  have hnohigh : s.monitor.overLast .high (s.completeScan x).scanner.g = false :=
    decide_eq_false (not_lt.mpr hhigh)
  have htested : s.monitor.longTested (s.completeScan x).scanner.g =
      s.monitor.leveled (s.completeScan x).scanner.g := by
    unfold Monitor.longTested
    rw [hnolow, hnohigh, breached_of_none, breached_of_none]
  rw [hmon, htested] at hum hw
  rw [recoveryScan_ends u hub hu0] at hmoves
  rw [hset, recoveryScanned_ends _ _ _ hb h0] at hw
  refine endsAtScan_of s x o (s.monitor.leveled (s.completeScan x).scanner.g) _ _ hrun
    (by rw [hs]; exact MonitorState.noConfusion) u (leveled_episode _ _ e he) (if_pos hs) hw hum hmoves

/-! ### The obligation -/

/-- A scan back past the end threshold that does not end the episode (R54, R55, R57, R68). -/
theorem scan_back_recovers (x : Samples) (o : Schedule) (s : State) (e : Episode) (k : EpisodeKind)
    (hrun : s.inReset = false) (he : s.monitor.episode = some e) (hs : s.monitor.state = k.state)
    (hback : s.settings.pastEnd k (s.completeScan x).scanner.g = true)
    (hlimit : s.monitor.overLimit k (s.completeScan x).scanner.g = false)
    (hgoes : s.settings.band (s.completeScan x).scanner.g = true → 0 < s.settings.recoverTime) :
    ∃ t, exec (.scan x o) s = .next t ∧ t.monitor.state = .recovering ∧
      t.monitor.recoveryTimer = 0 ∧ t.monitor.elapsedTime = s.monitor.elapsedTime ∧
      t.monitor.holdRequest = false ∧
      t.monitor.episode = some (e.noteLevel (s.completeScan x).scanner.g) ∧
      t.monitor.refStart = s.monitor.refStart ∧
      (∀ c, t.monitor.cap.get c =
        (s.monitor.cap.get c).map (fun k => { k with mode := .ramp })) ∧
      (s.monitor.holdRequest = true → (∀ b, s.trip.overcurrentScans.get b ≠ 1) →
        (∀ c, (s.channels.get c).overvoltageScans ≠ 1) → ∀ b, s.bridgeState b = .held →
        (s.completeScan x).dipDropped b t) ∧
      t.sync = s.sync ∧ s.frameKept t := by
  have hscan := taken_scan s x o hrun
  have hcalm : Calm (s.completeScan x) ((s.completeScan x).actOnScan o.shares) := calm_actOnScan _ _
  have hframe := frameKept_settle (s := s.completeScan x) hcalm.toSteady o
  obtain ⟨u, -, hum, -, hmon⟩ := scan_back (s.completeScan x) o.shares k hs hback hlimit
  have hset : (s.completeScan x).settings = s.settings := rfl
  have hm0 : (s.completeScan x).monitor = s.monitor := rfl
  have hw : ((s.completeScan x).actOnScan o.shares).monitor =
      (s.monitor.leveled (s.completeScan x).scanner.g).recoveringNow := by
    rw [hmon, hset, recoveryScanned_goesOn u.monitor _ _ hgoes, hum, hm0]
    split_ifs
    · rfl
    · rfl
  have hdropped : s.monitor.holdRequest = true → (∀ b, s.trip.overcurrentScans.get b ≠ 1) →
      (∀ c, (s.channels.get c).overvoltageScans ≠ 1) → ∀ b, s.bridgeState b = .held →
      (s.completeScan x).dipDropped b ((s.completeScan x).actOnScan o.shares) :=
    fun hon hover hvolt b hheld =>
      scan_back_dropped (s.completeScan x) o.shares k b hs hback hlimit hon hover hvolt hheld
  generalize (s.completeScan x).actOnScan o.shares = w at hscan hcalm hframe hw hdropped
  have ht := taken_settle w o
  have hmw : (w.settle o).monitor =
      (s.monitor.leveled (s.completeScan x).scanner.g).recoveringNow := ht.monitor.trans hw
  refine ⟨_, hscan, congrArg Monitor.state hmw, congrArg Monitor.recoveryTimer hmw,
    by rw [hmw]; rfl, congrArg Monitor.holdRequest hmw, ?_,
    by rw [hmw]; rfl, fun c => ?_, fun hon hover hvolt b hheld =>
      dipDropped_of_later (hdropped hon hover hvolt b hheld) (ht.bridge b) ht.flags,
    ht.sync.trans hcalm.sync, hframe⟩
  · rw [hmw]
    exact leveled_episode _ _ e he
  · rw [hmw]
    exact rampCaps_cap (s.monitor.leveled (s.completeScan x).scanner.g) c

/-- A scan in LONG that does not end the episode (R60). -/
theorem scan_long_stays (x : Samples) (o : Schedule) (s : State) (e : Episode)
    (hrun : s.inReset = false) (he : s.monitor.episode = some e) (hs : s.monitor.state = .long)
    (hgoes : s.settings.band (s.completeScan x).scanner.g = true → 0 < s.settings.recoverTime) :
    let g := (s.completeScan x).scanner.g
    let low := s.monitor.overLast .low g && !hasBit e.causes 1
    let high := s.monitor.overLast .high g && !hasBit e.causes 2
    ∃ t, exec (.scan x o) s = .next t ∧ t.monitor.state = .long ∧
      (s.settings.band g = true → t.monitor.recoveryTimer = s.monitor.recoveryTimer) ∧
      (¬ s.settings.band g = true → t.monitor.recoveryTimer = 0) ∧
      t.monitor.episode =
        some { e.noteLevel g with
          causes := e.causes ||| (if low then 2 else 0) ||| (if high then 4 else 0)
          tripped := e.tripped || low || high } ∧
      (low = true →
        t.trip.latched = true ∧ hasBit t.trip.causes TripCause.envelopeLow.bit = true) ∧
      (high = true →
        t.trip.latched = true ∧ hasBit t.trip.causes TripCause.envelopeHigh.bit = true) ∧
      t.sync = s.sync ∧ s.frameKept t := by
  intro g low high
  have hscan := taken_scan s x o hrun
  have hcalm : Calm (s.completeScan x) ((s.completeScan x).actOnScan o.shares) := calm_actOnScan _ _
  have hframe := frameKept_settle (s := s.completeScan x) hcalm.toSteady o
  obtain ⟨-, -, -, -, hmon⟩ := scan_long_monitor (s.completeScan x) o.shares hs
  obtain ⟨hlowShows, hhighShows⟩ := scan_long_shows (s.completeScan x) o.shares e hs he
  have hset : (s.completeScan x).settings = s.settings := rfl
  have hm0 : (s.completeScan x).monitor = s.monitor := rfl
  have hw : ((s.completeScan x).actOnScan o.shares).monitor =
      if s.settings.band g then s.monitor.longTested g
      else { s.monitor.longTested g with recoveryTimer := 0 } := by
    rw [hmon, hset, hm0]
    exact recoveryScanned_goesOn _ _ _ hgoes
  generalize (s.completeScan x).actOnScan o.shares = w at hscan hcalm hframe hw hlowShows hhighShows
  have ht := taken_settle w o
  have hmw := ht.monitor.trans hw
  have hepisode := longTested_episode s.monitor g e he
  refine ⟨_, hscan, ?_, fun hb => ?_, fun hb => ?_, ?_, fun h => ?_, fun h => ?_,
    ht.sync.trans hcalm.sync, hframe⟩
  · rw [hmw]
    split_ifs
    · exact hs
    · exact hs
  · rw [hmw, if_pos hb]
    rfl
  · rw [hmw, if_neg hb]
  · by_cases hb : s.settings.band g = true
    · rw [hmw, if_pos hb]
      exact hepisode
    · rw [hmw, if_neg hb]
      exact hepisode
  · rw [ht.trip]
    exact hlowShows h
  · rw [ht.trip]
    exact hhighShows h

/-- Settles O24: the tick by the monitor's own share of it, the scan by the monitor's steps woven with the
other readers'. -/
theorem episodesRecoverGoLongAndEnd : Obligations.EpisodesRecoverGoLongAndEnd := by
  refine ⟨fun o s hrun hs he => episodeLong_tick o s hrun hs he,
    fun o s e hrun hs he hlow hhigh h0 hdue => episodeEnd_tick o s e hrun hs he hlow hhigh h0 hdue,
    fun x o s e hrun he hdip hswell => ?_⟩
  intro g inBand noted back ends
  have hnoted : noted = e.noteLevel g := (noteLevel_eq e g).symm
  have hband : s.settings.band g = true ↔ inBand := band_iff s.settings g
  have hkind : back → ∃ k : EpisodeKind, s.monitor.state = k.state ∧ s.settings.pastEnd k g = true ∧
      s.monitor.overLimit k g = false := fun hback => by
    obtain ⟨hs, hend, hlimit⟩ | ⟨hs, hend, hlimit⟩ := hback
    · exact ⟨.low, hs, decide_eq_true hend, decide_eq_false (not_lt.mpr hlimit)⟩
    · exact ⟨.high, hs, decide_eq_true hend, decide_eq_false (not_lt.mpr hlimit)⟩
  refine ⟨fun h0 hin => ⟨fun hs => ?_, fun hback => ?_, fun hs hlow hhigh => ?_⟩, fun hback hgoes => ?_,
    fun hs hgoes => ?_⟩
  · exact ends_recovering x o s e hrun he hdip hswell h0 (hband.mpr hin) hs
  · obtain ⟨k, hs, hpast, hlimit⟩ := hkind hback
    rw [hnoted]
    exact ends_back x o s e k hrun he h0 (hband.mpr hin) hs hpast hlimit
  · rw [hnoted]
    exact ends_long x o s e hrun he h0 (hband.mpr hin) hs hlow hhigh
  · obtain ⟨k, hs, hpast, hlimit⟩ := hkind hback
    rw [hnoted]
    exact scan_back_recovers x o s e k hrun he hs hpast hlimit fun hb => hgoes (hband.mp hb)
  · rw [hnoted, ← hband]
    exact scan_long_stays x o s e hrun he hs fun hb => hgoes (hband.mp hb)

end Sys2Proof.Machine
end

section
/-! PROOF. A scan that opens an episode: the monitor's steps and what they make of it (R52 to R55, R58, R62,
R66, R70). -/

namespace Sys2Proof.Machine

/-! ### The steps of an opening -/

theorem monitorSteps_of_opening (v : State) (k : EpisodeKind) (h : v.episodeDue = some k)
    (hs : v.monitor.state = .normal ∨ v.monitor.state = .recovering) :
    (v.monitorSteps = v.openingSteps k ∧ v.monitor.state = .normal) ∨
      v.monitorSteps = State.supersede :: v.openingSteps k ∧ v.monitor.state = .recovering := by
  unfold State.monitorSteps
  obtain hs | hs := hs
  · rw [hs]
    dsimp only
    rw [h]
    exact .inl ⟨rfl, rfl⟩
  · rw [hs]
    dsimp only
    rw [h]
    exact .inr ⟨rfl, rfl⟩

/-- The end of the old episode, where one is under way (R58). -/
def State.superseding (v : State) : List (State → State) :=
  if v.monitor.state = .recovering then [State.supersede] else []

/-- An opening: the old episode's end, the list, the start, and the new state's own steps. -/
theorem opening_woven {Q : State → State → Prop} {v w : State} (k : EpisodeKind)
    (h : v.episodeDue = some k) (hs : v.monitor.state = .normal ∨ v.monitor.state = .recovering)
    (hw : Woven Q v.monitorSteps v w) :
    ∃ a b : State, Woven Q v.superseding v a ∧ Q a.listStart b ∧
      Woven Q (scanSteps k) (b.startEpisode k v.recentFull) w := by
  have hsteps : v.monitorSteps =
      v.superseding ++ State.listStart :: (State.startEpisode · k v.recentFull) :: scanSteps k := by
    unfold State.superseding
    obtain ⟨hm, hs⟩ | ⟨hm, hs⟩ := monitorSteps_of_opening v k h hs
    · rw [hm, hs]
      rfl
    · rw [hm, hs]
      rfl
  rw [hsteps] at hw
  obtain ⟨a, ha, hw⟩ := hw.split
  obtain ⟨b, hb, hw⟩ := hw.uncons
  exact ⟨a, b, ha, hb, hw⟩

theorem supersede_monitor (s : State) :
    s.supersede.monitor = s.monitor.mapEpisode (fun e => { e with outcome := .superseded }) :=
  episodeEvent_monitor _ true

/-- Up to the list, the monitor changes in its episode alone. -/
theorem superseding_monitor {v a : State} (h : Woven Others v.superseding v a) :
    TripMoves v a ∧ ∃ e, a.monitor = { v.monitor with episode := e } := by
  unfold State.superseding at h
  split_ifs at h with hs
  · obtain ⟨u, hvu, h⟩ := h.uncons
    have hua := h.nil
    refine ⟨(hvu.toTripMoves.trans (supersede_moves u).toTripMoves).trans hua.toTripMoves, ?_⟩
    rw [hua.monitor, supersede_monitor, hvu.monitor]
    exact ⟨_, rfl⟩
  · have hva := h.nil
    exact ⟨hva.toTripMoves, v.monitor.episode, hva.monitor⟩

/-! ### The list of recent episodes -/

/-- The recent episodes at a start, without those beyond REPEAT_WINDOW (R62). -/
def Monitor.windowed (m : Monitor) (st : Settings) : List RecentEpisode :=
  prunedRecent st.repeatWindow m.recent

theorem recentFull_iff (s : State) :
    s.recentFull = true ↔ s.settings.repeatMax ≤ (s.monitor.windowed s.settings).length :=
  decide_eq_true_iff

theorem listStart_monitor (s : State) :
    s.listStart.monitor =
      { s.monitor with
        recent :=
          (if s.recentFull then (s.monitor.windowed s.settings).tail else s.monitor.windowed s.settings) ++
            [⟨s.scanner.scanTick, 0⟩] } := by
  unfold State.listStart
  dsimp only
  cases h : s.recentFull with
  | true =>
    rw [if_pos rfl, if_pos rfl, if_pos rfl, State.mapMonitor_monitor, raiseCause_monitor]
    rfl
  | false => rfl

theorem listStart_shows (s : State) (h : s.recentFull = true) :
    s.listStart.trip.latched = true ∧ hasBit s.listStart.trip.causes TripCause.repeated.bit = true := by
  have hshows := raiseCause_shows s .repeated
  unfold State.listStart
  dsimp only
  rw [h, if_pos rfl, if_pos rfl]
  exact hshows

theorem listStart_of_room (s : State) (h : s.recentFull = false) :
    s.listStart =
      s.mapMonitor (fun m => { m with
        recent := s.monitor.windowed s.settings ++ [⟨s.scanner.scanTick, 0⟩] }) := by
  unfold State.listStart
  rw [h]
  rfl

theorem recentFull_of {s t : State} (hs : t.settings = s.settings)
    (hr : t.monitor.recent = s.monitor.recent) : t.recentFull = s.recentFull := by
  unfold State.recentFull
  rw [hs, hr]

/-! ### The start -/

/-- The monitor as an episode of kind `k` starts in it, with the references `ref` fixed at a LOW start
(R53, R66). -/
def Monitor.started (m : Monitor) (k : EpisodeKind) (e : Episode) (ref : Four Nat) (g floor : Nat) :
    Monitor :=
  { m with
    episode := some e
    elapsedTime := 0
    recoveryTimer := 0
    state := k.state
    refStart := match k with | .low => ref | .high => m.refStart
    cap :=
      match k with
      | .low => ref.map (fun r => if 0 < r then some ⟨.dip, dipCap r g floor⟩ else none)
      | .high => m.cap }

theorem trigger_monitor (s : State) (x : TriggerSource) : (s.trigger x).monitor = s.monitor :=
  (onRecorder_trigger s x).monitor

theorem startEpisode_monitor (s : State) (k : EpisodeKind) (x : Bool) :
    (s.startEpisode k x).monitor =
      s.monitor.started k (s.newEpisode k x) (Four.tabulate s.effectiveReference) s.scanner.g
        s.settings.capFloor := by
  unfold State.startEpisode
  dsimp only
  rw [episodeEvent_monitor, trigger_monitor]
  cases k
  · rfl
  · rfl

theorem startEpisode_flagged (s : State) (k : EpisodeKind) (x : Bool) (l : Link) :
    (s.startEpisode k x).flagged l 4 := by
  have hepisode := congrArg Monitor.episode (startEpisode_monitor s k x)
  unfold State.startEpisode at hepisode ⊢
  dsimp only at hepisode ⊢
  rw [episodeEvent_monitor] at hepisode
  unfold State.episodeEvent
  rw [hepisode]
  exact raise_flagged _ _ l

/-- The monitor after an opening. -/
def Monitor.opened (m : Monitor) (st : Settings) (k : EpisodeKind) (g : Nat) : Monitor :=
  match k with
  | .low => ((m.leveled g).breached .envelopeLow (m.overLimit .low g)).holdUpdated st g
  | .high => (m.leveled g).breached .envelopeHigh (m.overLimit .high g)

theorem holdUpdated_state (m : Monitor) (st : Settings) (g : Nat) :
    (m.holdUpdated st g).state = m.state := by
  unfold Monitor.holdUpdated
  split_ifs
  · rfl
  · rfl
  · rfl
  · rfl

/-- The steps of the new state, where the level is not back past its end threshold. -/
theorem scanReads_opened (m : Monitor) (st : Settings) (k : EpisodeKind) (g : Nat)
    (hs : m.state = k.state) (hend : st.pastEnd k g = false) :
    (scanReads k).foldl (fun m φ => φ st g m) m = m.opened st k g := by
  have hstays : ∀ n : Monitor, n.state = k.state → (n.recoveredFrom st k g).entryScanned st g = n :=
    fun n hn => by
      have hfrom : n.recoveredFrom st k g = n := by
        unfold Monitor.recoveredFrom
        exact if_neg (by rw [hend]; exact Bool.false_ne_true)
      have hnot : n.state ≠ .recovering := by
        rw [hn]
        cases k
        · exact MonitorState.noConfusion
        · exact MonitorState.noConfusion
      rw [hfrom]
      unfold Monitor.entryScanned
      exact if_neg hnot
  cases k
  · exact hstays _ ((holdUpdated_state _ st g).trans hs)
  · exact hstays _ hs

/-- What a scan that opens an episode makes of the monitor, and how the part stands on the way. -/
structure Opening (v : State) (k : EpisodeKind) (a b w : State) : Prop where
  before : TripMoves v a
  listed : TripMoves a.listStart b
  rest : TripMoves (b.startEpisode k v.recentFull) w
  prior : ∃ e, a.monitor = { v.monitor with episode := e }
  list : b.monitor = a.listStart.monitor
  monitor : w.monitor = (b.startEpisode k v.recentFull).monitor.opened v.settings k v.scanner.g

theorem opening_of_woven {v a b w : State} {k : EpisodeKind} (hend : v.settings.pastEnd k v.scanner.g = false)
    (ha : Woven Others v.superseding v a) (hb : Others a.listStart b)
    (hw : Woven Others (scanSteps k) (b.startEpisode k v.recentFull) w) :
    Opening v k a b w := by
  obtain ⟨hva, hprior⟩ := superseding_monitor ha
  have hvb : TripMoves v (b.startEpisode k v.recentFull) :=
    ((hva.trans (listStart_moves a).toTripMoves).trans hb.toTripMoves).trans
      (startEpisode_moves b k _).toTripMoves
  have hmon := hw.monitor (movesAll_scanSteps k) (scanSteps_reads k)
  rw [hvb.toCalm.settings, hvb.toCalm.scanner, scanReads_opened _ _ k _ ?_ hend] at hmon
  · exact ⟨hva, hb.toTripMoves, hw.moves (movesAll_scanSteps k), hprior, hb.monitor, hmon⟩
  · exact congrArg Monitor.state (startEpisode_monitor b k _)

end Sys2Proof.Machine
end

section
/-! PROOF. What a scan that opens an episode shows of the monitor, the trip unit and the bridges (R53 to R55,
R62, R66, R70, R83, R88, R89). -/

namespace Sys2Proof.Machine

/-! ### The monitor and the trip unit -/

theorem opened_parts (m : Monitor) (st : Settings) (k : EpisodeKind) (g : Nat) :
    (m.opened st k g).state = m.state ∧ (m.opened st k g).elapsedTime = m.elapsedTime ∧
      (m.opened st k g).recoveryTimer = m.recoveryTimer ∧ (m.opened st k g).recent = m.recent ∧
      (m.opened st k g).refStart = m.refStart ∧ (m.opened st k g).cap = m.cap := by
  cases k
  · change (Monitor.holdUpdated _ st g).state = _ ∧ (Monitor.holdUpdated _ st g).elapsedTime = _ ∧
      (Monitor.holdUpdated _ st g).recoveryTimer = _ ∧ (Monitor.holdUpdated _ st g).recent = _ ∧
      (Monitor.holdUpdated _ st g).refStart = _ ∧ (Monitor.holdUpdated _ st g).cap = _
    unfold Monitor.holdUpdated
    split_ifs
    · exact ⟨rfl, rfl, rfl, rfl, rfl, rfl⟩
    · exact ⟨rfl, rfl, rfl, rfl, rfl, rfl⟩
    · exact ⟨rfl, rfl, rfl, rfl, rfl, rfl⟩
    · exact ⟨rfl, rfl, rfl, rfl, rfl, rfl⟩
  · exact ⟨rfl, rfl, rfl, rfl, rfl, rfl⟩

theorem holdUpdated_episode (m : Monitor) (st : Settings) (g : Nat) :
    (m.holdUpdated st g).episode = m.episode := by
  unfold Monitor.holdUpdated
  split_ifs
  · rfl
  · rfl
  · rfl
  · rfl

theorem opened_episode (m : Monitor) (st : Settings) (k : EpisodeKind) (g : Nat) (e : Episode)
    (h : m.episode = some e) :
    (m.opened st k g).episode = some ((e.noteLevel g).breachedBy k.cause (m.overLimit k g)) := by
  cases k
  · exact (holdUpdated_episode _ st g).trans (mapEpisode_of_some _ _ _ (leveled_episode m g e h))
  · exact mapEpisode_of_some _ _ _ (leveled_episode m g e h)

theorem noteLevel_of_extreme (e : Episode) : e.noteLevel e.extreme = e := by
  unfold Episode.noteLevel
  cases hk : e.kind
  · dsimp only
    rw [Nat.min_self, ← hk]
  · dsimp only
    rw [Nat.max_self, ← hk]

/-- A new episode of kind `k` as its record shows it (R53). -/
def Episode.isNew (e : Episode) (k : EpisodeKind) (tick : Tick) (g : Nat) : Prop :=
  e.kind = k ∧ e.startTick = tick ∧ e.extreme = g ∧ e.outcome = .opened

theorem newEpisode_isNew (s : State) (k : EpisodeKind) (x : Bool) :
    (s.newEpisode k x).isNew k s.scanner.scanTick s.scanner.g := by
  unfold State.newEpisode
  dsimp only
  split_ifs
  · exact ⟨rfl, rfl, rfl, rfl⟩
  · exact ⟨rfl, rfl, rfl, rfl⟩

theorem newEpisode_causes (s : State) (k d : EpisodeKind) (x : Bool) :
    hasBit (s.newEpisode k x).causes d.cause.bit = false := by
  have hcauses : (s.newEpisode k x).causes = if x then addBit 0 TripCause.repeated.bit else 0 := by
    cases x
    · rfl
    · rfl
  have hbit : ∀ (d : EpisodeKind) (x : Bool),
      hasBit (if x then addBit 0 TripCause.repeated.bit else 0 : CauseSet) d.cause.bit = false :=
    fun d x => by
      cases d
      · revert x; decide
      · revert x; decide
  rw [hcauses]
  exact hbit d x

theorem breachedBy_isNew {e : Episode} {k : EpisodeKind} {tick : Tick} {g : Nat} (h : e.isNew k tick g)
    (c : TripCause) (x : Bool) : ((e.noteLevel g).breachedBy c x).isNew k tick g := by
  have hsame : e.noteLevel g = e := by
    obtain ⟨-, -, hg, -⟩ := h
    rw [← hg]
    exact noteLevel_of_extreme e
  rw [hsame]
  unfold Episode.breachedBy
  split_ifs
  · exact h
  · exact h

section
variable {v a b w : State} {k : EpisodeKind}

theorem Opening.calm (h : Opening v k a b w) : Calm v b :=
  (h.before.trans ((listStart_moves a).toTripMoves.trans h.listed)).toCalm

theorem Opening.full (h : Opening v k a b w) : a.recentFull = v.recentFull := by
  obtain ⟨e, he⟩ := h.prior
  exact recentFull_of h.before.toCalm.settings (by rw [he])

theorem Opening.windowed (h : Opening v k a b w) :
    a.monitor.windowed a.settings = v.monitor.windowed v.settings := by
  obtain ⟨e, he⟩ := h.prior
  rw [he, h.before.toCalm.settings]
  rfl

/-- The monitor before the start, but for the episode and the list as it stood. -/
theorem Opening.listed_monitor (h : Opening v k a b w) :
    ∃ e, b.monitor =
      { v.monitor with
        episode := e
        recent :=
          (if v.recentFull then (v.monitor.windowed v.settings).tail else v.monitor.windowed v.settings) ++
            [⟨v.scanner.scanTick, 0⟩] } := by
  obtain ⟨e, he⟩ := h.prior
  refine ⟨e, ?_⟩
  rw [h.list, listStart_monitor, h.full, h.windowed, h.before.toCalm.scanner, he]

theorem Opening.started (h : Opening v k a b w) :
    w.monitor =
      (b.monitor.started k (b.newEpisode k v.recentFull) (Four.tabulate b.effectiveReference) v.scanner.g
        v.settings.capFloor).opened v.settings k v.scanner.g := by
  rw [h.monitor, startEpisode_monitor, h.calm.scanner, h.calm.settings]

theorem Opening.counts (h : Opening v k a b w) :
    w.monitor.state = k.state ∧ w.monitor.elapsedTime = 0 ∧ w.monitor.recoveryTimer = 0 := by
  obtain ⟨hstate, htime, htimer, -⟩ := opened_parts
    (b.monitor.started k (b.newEpisode k v.recentFull) (Four.tabulate b.effectiveReference) v.scanner.g
      v.settings.capFloor) v.settings k v.scanner.g
  rw [h.started]
  exact ⟨hstate, htime, htimer⟩

theorem Opening.recent (h : Opening v k a b w) :
    w.monitor.recent =
      (if v.recentFull then (v.monitor.windowed v.settings).tail else v.monitor.windowed v.settings) ++
        [⟨v.scanner.scanTick, 0⟩] := by
  obtain ⟨e, he⟩ := h.listed_monitor
  obtain ⟨-, -, -, hrecent, -⟩ := opened_parts
    (b.monitor.started k (b.newEpisode k v.recentFull) (Four.tabulate b.effectiveReference) v.scanner.g
      v.settings.capFloor) v.settings k v.scanner.g
  rw [h.started, hrecent]
  exact congrArg Monitor.recent he

/-- A LOW start fixes the references and the caps, and a HIGH start leaves them (R66). -/
theorem Opening.caps_low (h : Opening v .low a b w) :
    w.monitor.refStart = Four.tabulate b.effectiveReference ∧
      w.monitor.cap = (Four.tabulate b.effectiveReference).map (fun r =>
        if 0 < r then some ⟨.dip, dipCap r v.scanner.g v.settings.capFloor⟩ else none) := by
  obtain ⟨-, -, -, -, href, hcap⟩ := opened_parts
    (b.monitor.started .low (b.newEpisode .low v.recentFull) (Four.tabulate b.effectiveReference)
      v.scanner.g v.settings.capFloor) v.settings .low v.scanner.g
  rw [h.started]
  exact ⟨href, hcap⟩

theorem Opening.caps_high (h : Opening v .high a b w) :
    w.monitor.refStart = v.monitor.refStart ∧ w.monitor.cap = v.monitor.cap := by
  obtain ⟨e, he⟩ := h.listed_monitor
  obtain ⟨-, -, -, -, href, hcap⟩ := opened_parts
    (b.monitor.started .high (b.newEpisode .high v.recentFull) (Four.tabulate b.effectiveReference)
      v.scanner.g v.settings.capFloor) v.settings .high v.scanner.g
  have hbref : b.monitor.refStart = v.monitor.refStart := by rw [he]
  have hbcap : b.monitor.cap = v.monitor.cap := by rw [he]
  rw [h.started]
  exact ⟨href.trans hbref, hcap.trans hbcap⟩

theorem Opening.episode (h : Opening v k a b w) :
    ∃ e, w.monitor.episode = some e ∧ e.isNew k v.scanner.scanTick v.scanner.g := by
  have hnew := newEpisode_isNew b k v.recentFull
  rw [h.calm.scanner] at hnew
  rw [h.started]
  exact ⟨_, opened_episode _ _ k _ _ rfl, breachedBy_isNew hnew _ _⟩

/-- The hold request of a LOW start below HOLD_LEVEL (R70). -/
theorem Opening.holdOn (h : Opening v .low a b w) (h0 : 0 < v.settings.holdLevel)
    (hg : v.scanner.g < v.settings.holdLevel) (hoff : v.monitor.holdRequest = false) :
    w.monitor.holdRequest = true := by
  obtain ⟨e, he⟩ := h.listed_monitor
  have hb : b.monitor.holdRequest = false := (congrArg Monitor.holdRequest he).trans hoff
  rw [h.started]
  change (Monitor.holdUpdated _ v.settings v.scanner.g).holdRequest = true
  unfold Monitor.holdUpdated
  rw [if_neg (by
    change ¬ b.monitor.holdRequest = true
    rw [hb]
    exact Bool.false_ne_true), if_pos ⟨h0, hg⟩]

/-- REPEAT is raised where the list stands full (R62). -/
theorem Opening.repeats (h : Opening v k a b w) (hfull : v.recentFull = true) :
    w.trip.latched = true ∧ hasBit w.trip.causes TripCause.repeated.bit = true := by
  obtain ⟨hlat, hbit⟩ := listStart_shows a (h.full.trans hfull)
  have hrest := (h.listed.trans (startEpisode_moves b k v.recentFull).toTripMoves).trans h.rest
  exact ⟨hrest.latched hlat, hrest.causes hlat _ hbit⟩

theorem Opening.flags (h : Opening v k a b w) (l : Link) : w.flagged l 4 :=
  h.rest.flags l 4 (startEpisode_flagged b k _ l)

/-- The limit at time 0, read from the tables of the scan. -/
theorem Opening.overLimit (h : Opening v k a b w) :
    (b.startEpisode k v.recentFull).monitor.overLimit k v.scanner.g =
      { v.monitor with elapsedTime := 0 }.overLimit k v.scanner.g := by
  obtain ⟨e, he⟩ := h.listed_monitor
  have hlow := congrArg Monitor.lowTable he
  have hhigh := congrArg Monitor.highTable he
  rw [startEpisode_monitor]
  cases k
  · exact congrArg (fun t => decide (v.scanner.g < limitAt t 0)) hlow
  · exact congrArg (fun t => decide (limitAt t 0 < v.scanner.g)) hhigh

end

/-- The envelope cause of a start whose limit at time 0 is breached (R54, R55). -/
theorem opening_breaches {t w : State} {k : EpisodeKind} {e : Episode}
    (hw : Woven Others (scanSteps k) t w) (he : t.monitor.episode = some e)
    (hc : hasBit e.causes k.cause.bit = false) (hx : t.monitor.overLimit k t.scanner.g = true) :
    w.trip.latched = true ∧ hasBit w.trip.causes k.cause.bit = true := by
  have hnoted : (e.noteLevel t.scanner.g).causes = e.causes := by
    unfold Episode.noteLevel
    cases e.kind
    · rfl
    · rfl
  have hbreach : ∀ d rest, Woven Others (State.noteLevel :: (fun s => State.testLimit s k) :: rest) t w →
      d = k.cause → MovesAll rest →
      w.trip.latched = true ∧ hasBit w.trip.causes d.bit = true := fun d rest hw hd hall => by
    subst hd
    obtain ⟨u, htu, hw⟩ := hw.uncons
    obtain ⟨z, huz, hw⟩ := hw.uncons
    have hzm : z.monitor = t.monitor.leveled t.scanner.g := by
      rw [huz.monitor, noteLevel_reads u, htu.monitor, htu.toCalm.scanner]
    have hscan : z.scanner = t.scanner :=
      huz.toCalm.scanner.trans htu.toCalm.scanner
    have hze : z.monitor.episode = some (e.noteLevel t.scanner.g) := by
      rw [hzm]
      exact leveled_episode _ _ e he
    have hover : z.monitor.overLimit k z.scanner.g = true := by
      rw [hzm, hscan, overLimit_leveled]
      exact hx
    have hshow : (z.testLimit k).trip.latched = true ∧
        hasBit (z.testLimit k).trip.causes k.cause.bit = true := by
      have hshows := breach_shows z k.cause (z.monitor.overLimit k z.scanner.g) _ hze (by
        rw [hnoted, hc, hover]
        rfl)
      cases k
      · exact hshows
      · exact hshows
    have hrest := hw.moves hall
    exact ⟨hrest.latched hshow.1, hrest.causes hshow.1 _ hshow.2⟩
  have hall := movesAll_scanSteps k
  cases k
  · exact hbreach _ _ hw rfl fun f hf => hall f (List.mem_cons_of_mem _ (List.mem_cons_of_mem _ hf))
  · exact hbreach _ _ hw rfl fun f hf => hall f (List.mem_cons_of_mem _ (List.mem_cons_of_mem _ hf))

end Sys2Proof.Machine
end

section
/-! SUPPORT. The orders in which events are taken (R185): the events of one source keep their own order, and
a link with room takes the notices of all that its mask enables. -/

namespace Sys2Proof.Machine

/-- The first of a source, taken out of a list, leaves the others in their order. -/
theorem filter_erase_first (x : Event) (l : List Event) (h : x ∈ firstOfSources Event.source l) (c : Nat) :
    l.filter (fun y => y.source == c) =
      (if x.source == c then [x] else []) ++ (l.erase x).filter (fun y => y.source == c) := by
  induction l with
  | nil => exact absurd h List.not_mem_nil
  | cons y rest ih =>
    obtain rfl | hx := List.mem_cons.mp h
    · rw [List.erase_cons_head, List.filter_cons]
      split_ifs
      · rfl
      · rfl
    · obtain ⟨hrest, hne⟩ := List.mem_filter.mp hx
      have hsource : x.source ≠ y.source := by simpa using hne
      have hxy : y ≠ x := fun e => hsource (congrArg Event.source e.symm)
      rw [List.erase_cons_tail (by simpa using hxy), List.filter_cons, List.filter_cons, ih hrest]
      by_cases hy : y.source == c
      · have hxc : ¬ (x.source == c) = true := fun hc =>
          hsource ((eq_of_beq hc).trans (eq_of_beq hy).symm)
        rw [if_pos hy, if_pos hy, if_neg hxc]
        rfl
      · rw [if_neg hy, if_neg hy]

theorem firstOfSources_ne_nil (l : List Event) (h : l ≠ []) : firstOfSources Event.source l ≠ [] := by
  cases l with
  | nil => exact absurd rfl h
  | cons x rest => exact List.cons_ne_nil _ _

theorem mem_of_firstOfSources (x : Event) (l : List Event) (h : x ∈ firstOfSources Event.source l) : x ∈ l := by
  induction l with
  | nil => exact h
  | cons y rest ih =>
    obtain rfl | hx := List.mem_cons.mp h
    · exact List.mem_cons_self
    · exact List.mem_cons_of_mem _ (ih (List.mem_filter.mp hx).1)

theorem takenOrder_nil (n k : Nat) : takenOrder Event.source n k [] = [] := by
  cases n
  · rfl
  · rfl

theorem takenOrder_cons (n k : Nat) (l : List Event) (h : l ≠ []) :
    ∃ x ∈ firstOfSources Event.source l,
      takenOrder Event.source (n + 1) k l =
        x :: takenOrder Event.source n (k / (firstOfSources Event.source l).length) (l.erase x) := by
  have hpos : 0 < (firstOfSources Event.source l).length :=
    List.length_pos_iff.mpr (firstOfSources_ne_nil l h)
  have hlt := Nat.mod_lt k hpos
  refine ⟨_, List.getElem_mem hlt, ?_⟩
  rw [takenOrder, List.getElem?_eq_getElem hlt]

/-- The events of one source are taken in their own order (R185). -/
theorem takenOrder_filter (n k : Nat) (l : List Event) (h : l.length ≤ n) (c : Nat) :
    (takenOrder Event.source n k l).filter (fun y => y.source == c) = l.filter (fun y => y.source == c) := by
  induction n generalizing k l with
  | zero =>
    obtain rfl := List.length_eq_zero_iff.mp (Nat.le_zero.mp h)
    rfl
  | succ n ih =>
    by_cases hl : l = []
    · subst hl
      rw [takenOrder_nil]
    · obtain ⟨x, hx, heq⟩ := takenOrder_cons n k l hl
      have hlen : (l.erase x).length ≤ n := by
        rw [List.length_erase_of_mem (mem_of_firstOfSources x l hx)]
        omega
      rw [heq, filter_erase_first x l hx c, ← ih _ (l.erase x) hlen, List.filter_cons]
      split_ifs
      · rfl
      · rfl

theorem takenOrder_length (n k : Nat) (l : List Event) : (takenOrder Event.source n k l).length ≤ n := by
  induction n generalizing k l with
  | zero => exact le_rfl
  | succ n ih =>
    by_cases hl : l = []
    · subst hl
      rw [takenOrder_nil]
      exact Nat.zero_le _
    · obtain ⟨x, -, heq⟩ := takenOrder_cons n k l hl
      rw [heq, List.length_cons]
      exact Nat.succ_le_succ (ih _ _)

/-! ### A link with room -/

theorem offer_notices_of_room (k : LinkState) (e : Event) (h : k.notices.length < 8) :
    (k.offer e).mask = k.mask ∧
      (k.offer e).notices = k.notices ++ (if hasBit k.mask e.row then [e.notice] else []) := by
  have hmax : k.notices.length < Config.noticeQueueMax := h
  unfold LinkState.offer
  split_ifs
  · exact ⟨rfl, rfl⟩
  · exact ⟨rfl, (List.append_nil _).symm⟩

/-- A link with room for them all takes the notices that its mask enables (R185). -/
theorem offers_of_room (l : List Event) (k : LinkState) (h : k.notices.length + l.length ≤ 8) :
    (l.foldl LinkState.offer k).notices =
      k.notices ++ (l.filter (fun e => hasBit k.mask e.row)).map Event.notice := by
  induction l generalizing k with
  | nil => exact (List.append_nil _).symm
  | cons e rest ih =>
    rw [List.length_cons] at h
    obtain ⟨hmask, hnotices⟩ := offer_notices_of_room k e (by omega)
    have hroom : (k.offer e).notices.length + rest.length ≤ 8 := by
      rw [hnotices, List.length_append]
      split_ifs
      · rw [List.length_singleton]
        omega
      · rw [List.length_nil]
        omega
    rw [List.foldl_cons, ih _ hroom, hmask, hnotices, List.filter_cons]
    split_ifs
    · rw [List.map_cons, List.append_assoc]
      rfl
    · rw [List.append_nil]

/-- The notices of one source that the mask enables stand in their order among those taken. -/
theorem takeNotices_sublist (u : State) (k : Nat) (l : Link) (c : Nat) (es : List Event)
    (hes : u.outbox.filter (fun e => e.source == c) = es)
    (hmask : ∀ e ∈ es, hasBit (u.links.get l).mask e.row = true)
    (hroom : (u.links.get l).notices.length + u.outbox.length ≤ 8) :
    (es.map Event.notice).Sublist ((u.takeNotices k).links.get l).notices := by
  have hlink : ((u.takeNotices k).links.get l) =
      (takenOrder Event.source u.outbox.length k u.outbox).foldl LinkState.offer (u.links.get l) :=
    Both.get_map _ _ l
  have hlen := takenOrder_length u.outbox.length k u.outbox
  have hsource := takenOrder_filter u.outbox.length k u.outbox le_rfl c
  rw [hes] at hsource
  generalize takenOrder Event.source u.outbox.length k u.outbox = evs at hlink hlen hsource
  rw [hlink, offers_of_room evs _ (by omega)]
  have hsub : es.Sublist evs := hsource ▸ List.filter_sublist
  have hmasked := hsub.filter (fun e => hasBit (u.links.get l).mask e.row)
  rw [List.filter_eq_self.mpr hmask] at hmasked
  exact (hmasked.map Event.notice).trans (List.sublist_append_right _ _)

end Sys2Proof.Machine
end

section
/-! PROOF. EpisodeOpens (R52 to R55, R58, R62, R66, R70, R83, R88, R89, R185). -/

namespace Sys2Proof.Machine

/-! ### What an opening announces -/

/-- The monitor announces `es` in that order, and besides it only the recorder anything. -/
def Announces (es : List Event) (s t : State) : Prop :=
  ∃ l : List Event, t.outbox = s.outbox ++ l ∧ l.filter (fun e => e.source == 9) = es ∧
    l.length + t.recordsLeft ≤ es.length + s.recordsLeft

theorem Announces.trans {es fs : List Event} {s t u : State} (h : Announces es s t)
    (k : Announces fs t u) : Announces (es ++ fs) s u := by
  obtain ⟨l, hl, hsource, hlen⟩ := h
  obtain ⟨m, hm, msource, mlen⟩ := k
  refine ⟨l ++ m, by rw [hm, hl, List.append_assoc], by rw [List.filter_append, hsource, msource], ?_⟩
  rw [List.length_append, List.length_append]
  omega

theorem RecordsOnly.announces {s t : State} (h : RecordsOnly s t) : Announces [] s t := by
  obtain ⟨l, hl, hsource, hlen⟩ := h
  refine ⟨l, hl, ?_, by rw [List.length_nil, Nat.zero_add]; exact hlen⟩
  rw [List.filter_eq_nil_iff]
  intro e he
  rw [hsource e he]
  decide

theorem announces_event {s t : State} (e : Event) (he : e.source = 9) (ho : t.outbox = s.outbox ++ [e])
    (hr : t.recorder = s.recorder) : Announces [e] s t := by
  refine ⟨[e], ho, ?_, ?_⟩
  · rw [List.filter_singleton, he]
    rfl
  · unfold State.recordsLeft
    rw [hr]

theorem episodeEvent_outbox (s : State) (x : Bool) (e : Episode) (h : s.monitor.episode = some e) :
    (s.episodeEvent x).outbox = s.outbox ++ [.episode x e.kind e.outcome e.extreme e.tripped] := by
  unfold State.episodeEvent
  rw [h]
  rfl

theorem supersede_announces (s : State) (e : Episode) (h : s.monitor.episode = some e) :
    Announces [.episode true e.kind .superseded e.extreme e.tripped] s s.supersede := by
  refine announces_event _ rfl ?_ (supersede_moves s).recorder
  exact episodeEvent_outbox (s.mapMonitor (fun m =>
    m.mapEpisode (fun e => { e with outcome := .superseded }))) true _ (mapEpisode_of_some _ _ e h)

theorem trigger_outbox (s : State) (x : TriggerSource) : (s.trigger x).outbox = s.outbox := by
  obtain ⟨l, hl⟩ := trigger_eq s x
  rw [hl]

theorem startEpisode_announces (s : State) (k : EpisodeKind) :
    Announces [.episode false k .opened s.scanner.g false] s (s.startEpisode k false) := by
  refine announces_event _ rfl ?_ (startEpisode_moves s k false).recorder
  have hepisode := congrArg Monitor.episode (startEpisode_monitor s k false)
  unfold State.startEpisode at hepisode ⊢
  dsimp only at hepisode ⊢
  rw [episodeEvent_monitor] at hepisode
  rw [episodeEvent_outbox _ _ _ hepisode, trigger_outbox]
  cases k
  · rfl
  · rfl

/-! ### An opening at which no check completes its run and the list has room -/

/-- All that a reference and a bridge's answer to the hold request read stands. -/
structure Untouched (s t : State) : Prop extends Calm s t where
  bridges : t.bridges = s.bridges
  channel : ∀ c, (t.channels.get c).course = (s.channels.get c).course ∧
    (t.channels.get c).foldCap = (s.channels.get c).foldCap

theorem Untouched.trans {s t u : State} (h : Untouched s t) (k : Untouched t u) : Untouched s u :=
  ⟨h.toCalm.trans' k.toCalm, k.bridges.trans h.bridges,
    fun c => ⟨(k.channel c).1.trans (h.channel c).1, (k.channel c).2.trans (h.channel c).2⟩⟩

theorem QuietOthers.untouched {s t : State} (h : QuietOthers s t) : Untouched s t :=
  ⟨h.toCalm, h.bridges, h.channel⟩

theorem untouched_of_eq {s t : State} (hc : Calm s t) (hb : t.bridges = s.bridges)
    (hk : t.channels = s.channels) : Untouched s t :=
  ⟨hc, hb, fun c => by rw [hk]; exact ⟨rfl, rfl⟩⟩

theorem supersede_untouched (s : State) : Untouched s s.supersede := by
  obtain ⟨-, hk, hb⟩ := episodeEvent_parts
    (s.mapMonitor (fun m => m.mapEpisode (fun e => { e with outcome := .superseded }))) true
  exact untouched_of_eq (supersede_moves s).toCalm hb hk

theorem startEpisode_untouched (s : State) (k : EpisodeKind) (x : Bool) :
    Untouched s (s.startEpisode k x) := by
  have hparts : (s.startEpisode k x).bridges = s.bridges ∧ (s.startEpisode k x).channels = s.channels := by
    unfold State.startEpisode
    dsimp only
    obtain ⟨-, hk, hb⟩ := episodeEvent_parts
      ((match k with
        | .low => (s.mapMonitor (fun m => { m with
            episode := some (s.newEpisode k x), elapsedTime := 0, recoveryTimer := 0
            state := k.state })).fixCaps
        | .high => s.mapMonitor (fun m => { m with
            episode := some (s.newEpisode k x), elapsedTime := 0, recoveryTimer := 0
            state := k.state })).trigger .episodeStart) false
    cases k
    · exact ⟨hb.trans (onRecorder_trigger _ _).bridges, hk.trans (onRecorder_trigger _ _).channels⟩
    · exact ⟨hb.trans (onRecorder_trigger _ _).bridges, hk.trans (onRecorder_trigger _ _).channels⟩
  exact untouched_of_eq (startEpisode_moves s k x).toCalm hparts.1 hparts.2

theorem superseding_quiet {v a : State} (h : Woven QuietOthers v.superseding v a) :
    Untouched v a ∧ ∀ e, v.monitor.state = .recovering → v.monitor.episode = some e →
      Announces [.episode true e.kind .superseded e.extreme e.tripped] v a := by
  unfold State.superseding at h
  split_ifs at h with hs
  · obtain ⟨u, hvu, h⟩ := h.uncons
    have hua := h.nil
    refine ⟨(hvu.untouched.trans (supersede_untouched u)).trans hua.untouched, fun e _ he => ?_⟩
    have hu := supersede_announces u e (by rw [hvu.monitor]; exact he)
    have hall := (hvu.records.announces.trans hu).trans hua.records.announces
    rw [List.nil_append, List.append_nil] at hall
    exact hall
  · exact ⟨h.nil.untouched, fun e hrec => absurd hrec hs⟩

/-- A quiet opening up to its start. -/
theorem opening_quiet {v a b : State} (ha : Woven QuietOthers v.superseding v a)
    (hb : QuietOthers a.listStart b) (hroom : v.recentFull = false) :
    Untouched v b ∧ ∀ e, v.monitor.state = .recovering → v.monitor.episode = some e →
      Announces [.episode true e.kind .superseded e.extreme e.tripped] v b := by
  obtain ⟨-, e', he'⟩ := superseding_monitor ha.others
  obtain ⟨hva, hends⟩ := superseding_quiet ha
  have hfull : a.recentFull = false := by
    rw [recentFull_of hva.settings (by rw [he'])]
    exact hroom
  have hlist := listStart_of_room a hfull
  have hal : Untouched a a.listStart :=
    untouched_of_eq (listStart_moves a).toCalm (by rw [hlist]; rfl) (by rw [hlist]; rfl)
  have hrecords : RecordsOnly a a.listStart := .of_eq (by rw [hlist]; rfl) (listStart_moves a).recorder
  refine ⟨(hva.trans hal).trans hb.untouched, fun e hrec he => ?_⟩
  have hall := ((hends e hrec he).trans hrecords.announces).trans hb.records.announces
  rw [List.append_nil, List.append_nil] at hall
  exact hall

/-- A level short of the end threshold leaves the last steps of a scan nothing to do. -/
theorem lastSteps_stay {a w : State} {k : EpisodeKind} (hend : a.settings.pastEnd k a.scanner.g = false)
    (hs : a.monitor.state = k.state)
    (h : Woven QuietOthers [(State.recoverFrom · k), State.recoveryAtEntry] a w) : QuietOthers a w := by
  obtain ⟨c, hac, h⟩ := h.uncons
  have hfrom : c.recoverFrom k = c := by
    rw [recoverFrom_eq, hac.toCalm.settings, hac.toCalm.scanner, hend]
    exact if_neg Bool.false_ne_true
  rw [hfrom] at h
  obtain ⟨d, hcd, h⟩ := h.uncons
  have hentry : d.recoveryAtEntry = d := by
    have hstate : d.monitor.state = k.state := by
      rw [hcd.monitor, hac.monitor]
      exact hs
    refine if_neg ?_
    rw [hstate]
    cases k
    · exact MonitorState.noConfusion
    · exact MonitorState.noConfusion
  rw [hentry] at h
  exact (hac.trans hcd).trans h.nil

theorem noteLevel_records (s : State) : RecordsOnly s s.noteLevel := .of_eq rfl rfl

/-- The new state's steps in HIGH, within the limit. -/
theorem highSteps_quiet {t w : State} (hs : t.monitor.state = .high)
    (hend : t.settings.pastEnd .high t.scanner.g = false)
    (hlimit : t.monitor.overLimit .high t.scanner.g = false)
    (hw : Woven QuietOthers (scanSteps .high) t w) : RecordsOnly t w := by
  obtain ⟨a, hta, hw⟩ := hw.uncons
  obtain ⟨c, hac, hw⟩ := hw.uncons
  obtain ⟨htest, htc, -, hmon⟩ := firstSteps_within hta hac hlimit
  rw [htest] at hw
  have hlast : QuietOthers c w := lastSteps_stay (by
    rw [htc.settings, htc.scanner]
    exact hend) (by
    rw [hmon]
    exact hs) hw
  exact ((hta.records.trans (noteLevel_records a)).trans hac.records).trans hlast.records

/-- The new state's steps in LOW, within the limit: the hold request is all they may change. -/
theorem lowSteps_quiet {t w : State} (hs : t.monitor.state = .low)
    (hend : t.settings.pastEnd .low t.scanner.g = false)
    (hlimit : t.monitor.overLimit .low t.scanner.g = false)
    (hw : Woven QuietOthers (scanSteps .low) t w) :
    ∃ d : State, Calm t d ∧ d.bridges = t.bridges ∧ d.monitor = t.monitor.leveled t.scanner.g ∧
      RecordsOnly t d ∧ QuietOthers d.updateHold w := by
  obtain ⟨a, hta, hw⟩ := hw.uncons
  obtain ⟨c, hac, hw⟩ := hw.uncons
  obtain ⟨htest, htc, hbridges, hmon⟩ := firstSteps_within hta hac hlimit
  rw [htest] at hw
  obtain ⟨d, hcd, hw⟩ := hw.uncons
  have htd : Calm t d := htc.trans' hcd.toCalm
  have hdm : d.monitor = t.monitor.leveled t.scanner.g := hcd.monitor.trans hmon
  have hud : Calm d d.updateHold := (updateHold_moves d).toCalm
  have hlast : QuietOthers d.updateHold w := lastSteps_stay (by
    rw [hud.settings, hud.scanner, htd.settings, htd.scanner]
    exact hend) (by
    rw [updateHold_reads d]
    refine (holdUpdated_state _ _ _).trans ?_
    rw [hdm]
    exact hs) hw
  exact ⟨d, htd, hcd.bridges.trans hbridges, hdm,
    ((hta.records.trans (noteLevel_records a)).trans hac.records).trans hcd.records, hlast⟩

/-! ### The bridges under the hold request -/

/-- Bridge `b` once the hold request is on (R83, R88, R89). -/
def State.heldOver (s : State) (b : Index) : Bridge :=
  match s.bridgeState b with
  | .running => { s.bridges.get b with state := .held, heldCauses := ⟨false, true⟩, next := none }
  | .held =>
    { s.bridges.get b with heldCauses := { (s.bridges.get b).heldCauses with dip := true } }
  | .retarding =>
    { s.bridges.get b with state := .blocked, blockCause := some .holdStop, next := none }
  | .deblocking =>
    { s.bridges.get b with state := .blocked, blockCause := some .abandoned, next := none }
  | .blocked | .lockout => s.bridges.get b

theorem holdRequestOn_bridge (s : State) (b : Index) : (s.holdRequestOn b).bridges.get b = s.heldOver b := by
  unfold State.holdRequestOn State.heldOver
  cases s.bridgeState b
  case running => exact holdBridge_bridge s b .dip
  case held => exact Four.get_set_self _ _ _
  case retarding => exact blockBridge_bridge s b .holdStop
  case deblocking => exact blockBridge_bridge s b .abandoned
  case blocked | lockout => rfl

theorem heldOver_congr {s t : State} {b : Index} (h : t.bridges.get b = s.bridges.get b) :
    t.heldOver b = s.heldOver b := by
  unfold State.heldOver
  rw [bridgeState_of_get h, h]

theorem turnHoldOn_bridge (s : State) (b : Index) : s.turnHoldOn.bridges.get b = s.heldOver b := by
  obtain ⟨y, hy, hlast⟩ := forAll_at_bridge (s.mapMonitor (fun m => { m with holdRequest := true }))
    Index.all (fun b t => t.holdRequestOn b) b Index.all_nodup (Index.mem_all b)
    fun b t => onBridge_holdRequestOn t b
  refine hlast.bridge.trans ((holdRequestOn_bridge y b).trans (heldOver_congr ?_))
  exact hy.bridge

theorem updateHold_of_on (s : State) (h0 : 0 < s.settings.holdLevel)
    (hg : s.scanner.g < s.settings.holdLevel) (hoff : s.monitor.holdRequest = false) :
    s.updateHold = s.turnHoldOn := by
  unfold State.updateHold
  rw [if_neg (by rw [hoff]; exact Bool.false_ne_true), if_pos ⟨h0, hg⟩]

theorem updateHold_of_unused (s : State) (h0 : s.settings.holdLevel = 0)
    (hoff : s.monitor.holdRequest = false) : s.updateHold = s := by
  unfold State.updateHold
  rw [if_neg (by rw [hoff]; exact Bool.false_ne_true), if_neg (by omega)]

/-! ### The references -/

/-- The effective reference of channel `c`, spelled out (R135). -/
theorem effectiveReference_of_untouched {v b : State} (h : Untouched v b)
    (hcap : b.monitor.cap = v.monitor.cap) (c : Index) :
    b.effectiveReference c = v.effectiveReference c := by
  obtain ⟨hcourse, hfold⟩ := h.channel c
  have hstate : b.bridgeState c = v.bridgeState c := by
    unfold State.bridgeState
    rw [h.bridges]
  unfold State.effectiveReference
  rw [hstate, hcourse, hfold, h.settings, hcap]

end Sys2Proof.Machine
end

section
/-! PROOF. EpisodeOpens (R52 to R55, R58, R62, R66, R70, R83, R88, R89, R185). -/

namespace Sys2Proof.Machine

/-! ### The notices of an opening -/

theorem recordsLeft_le (s : State) : s.recordsLeft ≤ 2 := by
  unfold State.recordsLeft
  cases s.recorder.state
  · exact le_rfl
  · exact Nat.le_succ 1
  · exact Nat.zero_le 2

/-- What the monitor announced is queued in its order on a link with room (R185). -/
theorem settle_announces {es : List Event} {v w : State} (h : Announces es v w) (hc : Calm v w)
    (ho : v.outbox = []) (o : Schedule) (l : Link) (hlen : es.length ≤ 2)
    (hmask : ∀ e ∈ es, hasBit (v.links.get l).mask e.row = true)
    (hroom : (v.links.get l).notices.length ≤ 4) :
    (es.map Event.notice).Sublist ((w.settle o).links.get l).notices := by
  obtain ⟨m, hm, hsource, hcount⟩ := h.trans (recordsOnly_takeTriggers w o.triggers).announces
  have hlink : ((w.takeTriggers o.triggers).links.get l).unsummed = (v.links.get l).unsummed :=
    ((onRecorder_takeTriggers w o.triggers).toCalm.links l).trans (hc.links l)
  have hkmask : ((w.takeTriggers o.triggers).links.get l).mask = (v.links.get l).mask := by
    have h := congrArg LinkState.mask hlink
    exact h
  have hknotices : ((w.takeTriggers o.triggers).links.get l).notices = (v.links.get l).notices := by
    have h := congrArg LinkState.notices hlink
    exact h
  rw [ho, List.nil_append] at hm
  rw [List.append_nil] at hsource hcount
  have hleft := recordsLeft_le v
  refine takeNotices_sublist (w.takeTriggers o.triggers) o.notices l 9 es (by rw [hm]; exact hsource)
    (fun e he => by rw [hkmask]; exact hmask e he) ?_
  rw [hknotices, hm]
  omega

/-! ### The opening of a scan -/

theorem opening_exists (v : State) (j : Nat) (k : EpisodeKind) (hdue : v.episodeDue = some k)
    (hs : v.monitor.state = .normal ∨ v.monitor.state = .recovering)
    (hend : v.settings.pastEnd k v.scanner.g = false) :
    ∃ a b : State, Opening v k a b (v.actOnScan j) ∧
      Woven Others (scanSteps k) (b.startEpisode k v.recentFull) (v.actOnScan j) := by
  obtain ⟨a, b, ha, hb, hw⟩ := opening_woven k hdue hs (actOnScan_woven v j)
  exact ⟨a, b, opening_of_woven hend ha hb hw, hw⟩

/-- A limit at time 0 that the level breaches raises the envelope cause at once (R54, R55). -/
theorem opening_breached (v : State) (j : Nat) (k : EpisodeKind) (hdue : v.episodeDue = some k)
    (hs : v.monitor.state = .normal ∨ v.monitor.state = .recovering)
    (hend : v.settings.pastEnd k v.scanner.g = false)
    (hx : { v.monitor with elapsedTime := 0 }.overLimit k v.scanner.g = true) :
    (v.actOnScan j).trip.latched = true ∧ hasBit (v.actOnScan j).trip.causes k.cause.bit = true := by
  obtain ⟨a, b, ho, hw⟩ := opening_exists v j k hdue hs hend
  have hscan : (b.startEpisode k v.recentFull).scanner = v.scanner :=
    (startEpisode_moves b k _).toCalm.scanner.trans ho.calm.scanner
  refine opening_breaches hw (e := b.newEpisode k v.recentFull) ?_ (newEpisode_causes b k k _) ?_
  · rw [startEpisode_monitor]
    rfl
  · rw [hscan, ho.overLimit]
    exact hx

/-- A quiet opening: no check completes its run, and the list has room. -/
structure QuietOpening (v : State) (k : EpisodeKind) (a b w : State) : Prop extends Opening v k a b w where
  untouched : Untouched v b
  ends : ∀ e, v.monitor.state = .recovering → v.monitor.episode = some e →
    Announces [.episode true e.kind .superseded e.extreme e.tripped] v b
  room : v.recentFull = false
  steps : Woven QuietOthers (scanSteps k) (b.startEpisode k false) w

theorem quietOpening_exists (v : State) (j : Nat) (k : EpisodeKind) (hdue : v.episodeDue = some k)
    (hs : v.monitor.state = .normal ∨ v.monitor.state = .recovering)
    (hend : v.settings.pastEnd k v.scanner.g = false) (hroom : v.recentFull = false)
    (hover : ∀ b, v.trip.overcurrentScans.get b ≠ 1)
    (hvolt : ∀ c, (v.channels.get c).overvoltageScans ≠ 1) :
    ∃ a b : State, QuietOpening v k a b (v.actOnScan j) := by
  obtain ⟨a, b, ha, hb, hw⟩ := opening_woven k hdue hs (actOnScan_woven_quiet v j hover hvolt)
  obtain ⟨huntouched, hends⟩ := opening_quiet ha hb hroom
  have ho := opening_of_woven hend ha.others hb.toOthers hw.others
  rw [hroom] at hw
  exact ⟨a, b, ho, huntouched, hends, hroom, hw⟩

section
variable {v a b w : State} {k : EpisodeKind}

theorem QuietOpening.start (h : QuietOpening v k a b w) :
    Untouched v (b.startEpisode k false) ∧ (b.startEpisode k false).monitor.state = k.state ∧
      (b.startEpisode k false).monitor.holdRequest = v.monitor.holdRequest := by
  obtain ⟨e, he⟩ := h.toOpening.listed_monitor
  have hhold : b.monitor.holdRequest = v.monitor.holdRequest := by rw [he]
  have hmon := startEpisode_monitor b k false
  exact ⟨h.untouched.trans (startEpisode_untouched b k false), by rw [hmon]; rfl, by
    rw [hmon]
    exact hhold⟩

/-- The old episode's end and the start of the new one, in that order, are all that the monitor
announces (R58). -/
theorem QuietOpening.announces (h : QuietOpening v k a b w)
    (hrecords : RecordsOnly (b.startEpisode k false) w) (e : Episode)
    (hrec : v.monitor.state = .recovering) (he : v.monitor.episode = some e) :
    Announces [.episode true e.kind .superseded e.extreme e.tripped,
      .episode false k .opened v.scanner.g false] v w := by
  have hstart := startEpisode_announces b k
  rw [h.untouched.scanner] at hstart
  have hall := ((h.ends e hrec he).trans hstart).trans hrecords.announces
  rw [List.append_nil] at hall
  exact hall

theorem QuietOpening.within (h : QuietOpening v k a b w)
    (hx : { v.monitor with elapsedTime := 0 }.overLimit k v.scanner.g = false) :
    (b.startEpisode k false).monitor.overLimit k (b.startEpisode k false).scanner.g = false := by
  obtain ⟨hstart, -, -⟩ := h.start
  have hover := h.toOpening.overLimit
  rw [h.room] at hover
  rw [hstart.scanner, hover]
  exact hx

theorem QuietOpening.end (h : QuietOpening v k a b w) (hend : v.settings.pastEnd k v.scanner.g = false) :
    (b.startEpisode k false).settings.pastEnd k (b.startEpisode k false).scanner.g = false := by
  obtain ⟨hstart, -, -⟩ := h.start
  rw [hstart.settings, hstart.scanner]
  exact hend

/-- The references of a LOW start at which no trip comes first (R66, R135). -/
theorem QuietOpening.references (h : QuietOpening v .low a b w) (c : Index) :
    w.monitor.refStart.get c = v.effectiveReference c ∧
      w.monitor.cap.get c =
        (if 0 < v.effectiveReference c then
          some ⟨.dip, dipCap (v.effectiveReference c) v.scanner.g v.settings.capFloor⟩ else none) := by
  obtain ⟨e, he⟩ := h.toOpening.listed_monitor
  obtain ⟨href, hcap⟩ := h.toOpening.caps_low
  have hb : b.effectiveReference c = v.effectiveReference c :=
    effectiveReference_of_untouched h.untouched (by rw [he]) c
  rw [href, hcap, Four.get_map, Four.get_tabulate, hb]
  exact ⟨rfl, rfl⟩

/-- The bridges of a LOW start below HOLD_LEVEL (R83, R88, R89). -/
theorem QuietOpening.bridges (h : QuietOpening v .low a b w)
    (hend : v.settings.pastEnd .low v.scanner.g = false)
    (hx : { v.monitor with elapsedTime := 0 }.overLimit .low v.scanner.g = false)
    (h0 : 0 < v.settings.holdLevel) (hg : v.scanner.g < v.settings.holdLevel)
    (hoff : v.monitor.holdRequest = false) (i : Index) : w.bridges.get i = v.heldOver i := by
  obtain ⟨hstart, hstate, hhold⟩ := h.start
  obtain ⟨d, htd, hdb, hdm, -, hlast⟩ := lowSteps_quiet hstate (h.end hend) (h.within hx) h.steps
  have hdhold : d.monitor.holdRequest = false := by
    rw [hdm]
    exact hhold.trans hoff
  rw [updateHold_of_on d (by rw [htd.settings, hstart.settings]; exact h0)
    (by rw [htd.settings, htd.scanner, hstart.settings, hstart.scanner]; exact hg) hdhold] at hlast
  rw [hlast.bridges, turnHoldOn_bridge]
  exact heldOver_congr (by rw [hdb, hstart.bridges])

/-- Nothing but records is raised after a LOW start without the hold request (R70). -/
theorem QuietOpening.records_low (h : QuietOpening v .low a b w)
    (hend : v.settings.pastEnd .low v.scanner.g = false)
    (hx : { v.monitor with elapsedTime := 0 }.overLimit .low v.scanner.g = false)
    (h0 : v.settings.holdLevel = 0) (hoff : v.monitor.holdRequest = false) :
    RecordsOnly (b.startEpisode .low false) w := by
  obtain ⟨hstart, hstate, hhold⟩ := h.start
  obtain ⟨d, htd, -, hdm, hrecords, hlast⟩ := lowSteps_quiet hstate (h.end hend) (h.within hx) h.steps
  have hdhold : d.monitor.holdRequest = false := by
    rw [hdm]
    exact hhold.trans hoff
  rw [updateHold_of_unused d (by rw [htd.settings, hstart.settings]; exact h0) hdhold] at hlast
  exact hrecords.trans hlast.records

theorem QuietOpening.records_high (h : QuietOpening v .high a b w)
    (hend : v.settings.pastEnd .high v.scanner.g = false)
    (hx : { v.monitor with elapsedTime := 0 }.overLimit .high v.scanner.g = false) :
    RecordsOnly (b.startEpisode .high false) w := by
  obtain ⟨-, hstate, -⟩ := h.start
  exact highSteps_quiet hstate (h.end hend) (h.within hx) h.steps

end

end Sys2Proof.Machine
end

section
/-! PROOF. EpisodeOpens (R52 to R55, R58, R62, R66, R70, R83, R88, R89, R185). -/

namespace Sys2Proof.Machine

/-! ### What every opening shows -/

/-- The items that a scan opening an episode of kind `k` at `s` leaves, whatever its kind (R53, R62). -/
def State.showsOpening (s : State) (x : Samples) (k : EpisodeKind) (t : State) : Prop :=
  t.monitor.elapsedTime = 0 ∧ t.monitor.recoveryTimer = 0 ∧
    (∃ e, t.monitor.episode = some e ∧ e.kind = k ∧ e.startTick = (s.completeScan x).counter ∧
      e.extreme = (s.completeScan x).scanner.g ∧ e.outcome = .opened) ∧
    ((s.monitor.windowed s.settings).length < s.settings.repeatMax →
      t.monitor.recent = s.monitor.windowed s.settings ++ [⟨(s.completeScan x).counter, 0⟩]) ∧
    (s.settings.repeatMax ≤ (s.monitor.windowed s.settings).length →
      t.monitor.recent = (s.monitor.windowed s.settings).tail ++ [⟨(s.completeScan x).counter, 0⟩] ∧
        t.trip.latched = true ∧ hasBit t.trip.causes TripCause.repeated.bit = true) ∧
    (∀ l, t.flagged l 4) ∧ s.frameKept t

theorem showsOpening_of (s : State) (x : Samples) (o : Schedule) (k : EpisodeKind) {a b : State}
    (h : Opening (s.completeScan x) k a b ((s.completeScan x).actOnScan o.shares)) :
    s.showsOpening x k (((s.completeScan x).actOnScan o.shares).settle o) := by
  have hcalm : Calm (s.completeScan x) ((s.completeScan x).actOnScan o.shares) := calm_actOnScan _ _
  have hframe := frameKept_settle (s := s.completeScan x) hcalm.toSteady o
  obtain ⟨-, htime, htimer⟩ := h.counts
  obtain ⟨e, he, hkind, htick, hg, hout⟩ := h.episode
  have hrecent := h.recent
  have hrepeat := h.repeats
  have hflags := h.flags
  have hset : (s.completeScan x).settings = s.settings := rfl
  have hmon : (s.completeScan x).monitor = s.monitor := rfl
  have hscanTick : (s.completeScan x).scanner.scanTick = (s.completeScan x).counter := rfl
  have hfull : (s.completeScan x).recentFull = s.recentFull := rfl
  rw [hmon, hset, hscanTick, hfull] at hrecent
  rw [hfull] at hrepeat
  rw [hscanTick] at htick
  generalize (s.completeScan x).actOnScan o.shares = w at hcalm hframe htime htimer he hrecent hrepeat hflags
  have ht := taken_settle w o
  refine ⟨by rw [ht.monitor, htime], by rw [ht.monitor, htimer],
    ⟨e, by rw [ht.monitor, he], hkind, htick, hg, hout⟩, fun hroom => ?_, fun hmax => ?_,
    fun l => ht.flags l 4 (hflags l), hframe⟩
  · have hnot : ¬ s.recentFull = true := fun hf => absurd ((recentFull_iff s).mp hf) (by omega)
    rw [ht.monitor, hrecent, if_neg hnot]
  · have hf : s.recentFull = true := (recentFull_iff s).mpr hmax
    rw [ht.monitor, ht.trip, hrecent, if_pos hf]
    exact ⟨rfl, hrepeat hf⟩

/-- The old episode's end and the new one's start among the notices, where a link has room (R58, R185). -/
def State.endsFirst (s : State) (x : Samples) (k : EpisodeKind) (t : State) : Prop :=
  ∀ e l, s.monitor.state = .recovering → s.monitor.episode = some e →
    hasBit (s.links.get l).mask 4 = true → (s.links.get l).notices.length ≤ 4 →
    [(Event.episode true e.kind .superseded e.extreme e.tripped).notice,
      (Event.episode false k .opened (s.completeScan x).scanner.g false).notice].Sublist
        (t.links.get l).notices

theorem endsFirst_of (s : State) (x : Samples) (o : Schedule) (k : EpisodeKind) {a b w : State}
    (hset : s.settled) (h : QuietOpening (s.completeScan x) k a b w) (hc : Calm (s.completeScan x) w)
    (hrecords : RecordsOnly (b.startEpisode k false) w) : s.endsFirst x k (w.settle o) := by
  intro e l hrec he hmask hroom
  obtain ⟨hout, -⟩ := hset
  have hann := h.announces hrecords e hrec he
  refine settle_announces hann hc hout o l le_rfl (fun f hf => ?_) hroom
  simp only [List.mem_cons, List.not_mem_nil, or_false] at hf
  obtain rfl | rfl := hf
  · exact hmask
  · exact hmask

theorem due_low (v : State) (h : v.scanner.g < v.settings.dipStart) : v.episodeDue = some .low :=
  if_pos h

theorem due_high (v : State) (hlow : v.settings.dipStart ≤ v.scanner.g)
    (h : v.settings.swellStart < v.scanner.g) : v.episodeDue = some .high :=
  (if_neg (not_lt.mpr hlow)).trans (if_pos h)

theorem recentFull_of_room (s : State)
    (h : (s.monitor.windowed s.settings).length < s.settings.repeatMax) : s.recentFull = false :=
  decide_eq_false (not_le.mpr h)

/-- A LOW start (R53, R54, R66, R70). -/
theorem scan_opens_low (x : Samples) (o : Schedule) (s : State) (hready : s.ready)
    (hs : s.monitor.state = .normal ∨ s.monitor.state = .recovering)
    (hdip : s.settings.dipStart < s.settings.dipEnd)
    (hg : (s.completeScan x).scanner.g < s.settings.dipStart) :
    let g := (s.completeScan x).scanner.g
    let untripped : Prop :=
      (s.monitor.windowed s.settings).length < s.settings.repeatMax ∧
        (∀ b, s.trip.overcurrentScans.get b ≠ 1) ∧ ∀ c, (s.channels.get c).overvoltageScans ≠ 1
    ∃ t, exec (.scan x o) s = .next t ∧ t.monitor.state = .low ∧ s.showsOpening x .low t ∧
      (g < limitAt s.monitor.lowTable 0 →
        t.trip.latched = true ∧ hasBit t.trip.causes TripCause.envelopeLow.bit = true) ∧
      (untripped → ∀ c, t.monitor.refStart.get c = s.effectiveReference c ∧
        t.monitor.cap.get c =
          (if 0 < s.effectiveReference c then
            some ⟨.dip, dipCap (s.effectiveReference c) g s.settings.capFloor⟩ else none)) ∧
      (untripped → limitAt s.monitor.lowTable 0 ≤ g → s.settings.holdLevel = 0 →
        s.monitor.holdRequest = false → s.endsFirst x .low t) ∧
      (0 < s.settings.holdLevel → g < s.settings.holdLevel → s.monitor.holdRequest = false →
        t.monitor.holdRequest = true ∧
        (untripped → limitAt s.monitor.lowTable 0 ≤ g → ∀ b, t.bridges.get b = s.heldOver b)) := by
  intro g untripped
  obtain ⟨hrun, hsettled⟩ := hready
  have hdue : (s.completeScan x).episodeDue = some .low := due_low _ hg
  have hend : (s.completeScan x).settings.pastEnd .low (s.completeScan x).scanner.g = false := by
    have hset : (s.completeScan x).settings = s.settings := rfl
    rw [hset]
    exact decide_eq_false (by omega)
  obtain ⟨a, b, ho, -⟩ := opening_exists (s.completeScan x) o.shares .low hdue hs hend
  have hshows := showsOpening_of s x o .low ho
  have hstate := ho.counts.1
  have hhold : 0 < s.settings.holdLevel → g < s.settings.holdLevel → s.monitor.holdRequest = false →
      ((s.completeScan x).actOnScan o.shares).monitor.holdRequest = true :=
    fun h0 hgl hoff => ho.holdOn h0 hgl hoff
  have hbreach := opening_breached (s.completeScan x) o.shares .low hdue hs hend
  have hquiet : untripped → ∃ a b : State,
      QuietOpening (s.completeScan x) .low a b ((s.completeScan x).actOnScan o.shares) :=
    fun ⟨hroom, hover, hvolt⟩ => quietOpening_exists (s.completeScan x) o.shares .low hdue hs hend
      (recentFull_of_room s hroom) hover hvolt
  have hcalm : Calm (s.completeScan x) ((s.completeScan x).actOnScan o.shares) := calm_actOnScan _ _
  have hscan := taken_scan s x o hrun
  generalize (s.completeScan x).actOnScan o.shares = w at hshows hstate hhold hbreach hquiet hcalm hscan
  have ht := taken_settle w o
  have hwithin : limitAt s.monitor.lowTable 0 ≤ g →
      { (s.completeScan x).monitor with elapsedTime := 0 }.overLimit .low g = false :=
    fun h => decide_eq_false (not_lt.mpr h)
  refine ⟨_, hscan, by rw [ht.monitor]; exact hstate, hshows, fun hlt => ?breach, fun hu c => ?reference,
    fun hu hlimit h0 hoff => ?ends, fun h0 hgl hoff => ⟨?hold, fun hu hlimit i => ?bridges⟩⟩
  case breach =>
    rw [ht.trip]
    exact hbreach (decide_eq_true hlt)
  case reference =>
    obtain ⟨a, b, hq⟩ := hquiet hu
    rw [ht.monitor]
    exact hq.references c
  case ends =>
    obtain ⟨a, b, hq⟩ := hquiet hu
    exact endsFirst_of s x o .low hsettled hq hcalm (hq.records_low hend (hwithin hlimit) h0 hoff)
  case hold =>
    rw [ht.monitor]
    exact hhold h0 hgl hoff
  case bridges =>
    obtain ⟨a, b, hq⟩ := hquiet hu
    rw [ht.bridges]
    exact hq.bridges hend (hwithin hlimit) h0 hgl hoff i

/-- A HIGH start (R53, R55). -/
theorem scan_opens_high (x : Samples) (o : Schedule) (s : State) (hready : s.ready)
    (hs : s.monitor.state = .normal ∨ s.monitor.state = .recovering)
    (hswell : s.settings.swellEnd < s.settings.swellStart)
    (hlow : s.settings.dipStart ≤ (s.completeScan x).scanner.g)
    (hg : s.settings.swellStart < (s.completeScan x).scanner.g) :
    let g := (s.completeScan x).scanner.g
    let untripped : Prop :=
      (s.monitor.windowed s.settings).length < s.settings.repeatMax ∧
        (∀ b, s.trip.overcurrentScans.get b ≠ 1) ∧ ∀ c, (s.channels.get c).overvoltageScans ≠ 1
    ∃ t, exec (.scan x o) s = .next t ∧ t.monitor.state = .high ∧ s.showsOpening x .high t ∧
      (limitAt s.monitor.highTable 0 < g →
        t.trip.latched = true ∧ hasBit t.trip.causes TripCause.envelopeHigh.bit = true) ∧
      (untripped → g ≤ limitAt s.monitor.highTable 0 → s.endsFirst x .high t) ∧
      t.monitor.refStart = s.monitor.refStart ∧ t.monitor.cap = s.monitor.cap := by
  intro g untripped
  obtain ⟨hrun, hsettled⟩ := hready
  have hdue : (s.completeScan x).episodeDue = some .high := due_high _ hlow hg
  have hend : (s.completeScan x).settings.pastEnd .high (s.completeScan x).scanner.g = false := by
    have hset : (s.completeScan x).settings = s.settings := rfl
    rw [hset]
    exact decide_eq_false (by omega)
  obtain ⟨a, b, ho, -⟩ := opening_exists (s.completeScan x) o.shares .high hdue hs hend
  have hshows := showsOpening_of s x o .high ho
  have hstate := ho.counts.1
  obtain ⟨href, hcap⟩ := ho.caps_high
  have hbreach := opening_breached (s.completeScan x) o.shares .high hdue hs hend
  have hquiet : untripped → ∃ a b : State,
      QuietOpening (s.completeScan x) .high a b ((s.completeScan x).actOnScan o.shares) :=
    fun ⟨hroom, hover, hvolt⟩ => quietOpening_exists (s.completeScan x) o.shares .high hdue hs hend
      (recentFull_of_room s hroom) hover hvolt
  have hcalm : Calm (s.completeScan x) ((s.completeScan x).actOnScan o.shares) := calm_actOnScan _ _
  have hscan := taken_scan s x o hrun
  generalize (s.completeScan x).actOnScan o.shares = w at hshows hstate href hcap hbreach hquiet hcalm hscan
  have ht := taken_settle w o
  refine ⟨_, hscan, by rw [ht.monitor]; exact hstate, hshows, fun hlt => ?breach, fun hu hlimit => ?ends,
    by rw [ht.monitor]; exact href, by rw [ht.monitor]; exact hcap⟩
  case breach =>
    rw [ht.trip]
    exact hbreach (decide_eq_true hlt)
  case ends =>
    obtain ⟨a, b, hq⟩ := hquiet hu
    exact endsFirst_of s x o .high hsettled hq hcalm
      (hq.records_high hend (decide_eq_false (not_lt.mpr hlimit)))

/-- Settles O23, by the monitor's steps woven with the other readers', start by start. -/
theorem episodeOpens : Obligations.EpisodeOpens := by
  intro x o s hready hs hdip hswell
  refine ⟨fun hg => ?_, fun hlow hg => scan_opens_high x o s hready hs hswell hlow hg⟩
  exact scan_opens_low x o s hready hs hdip hg

end Sys2Proof.Machine
end

section
/-! SUPPORT. The channel unit's share of a millisecond tick, channel by channel (R125 to R130, R137, R140). -/

namespace Sys2Proof.Machine

/-! ### One channel at a tick -/

/-- A channel whose head completes (R130). -/
def Channel.completed (k : Channel) : Channel :=
  match k.queue with
  | [] => k
  | _ :: rest =>
    { k with
      queue := rest, headClamped := false, remainingHold := none
      headPhase := (if rest = [] then none else some .ramp)
      state := (if rest = [] then .idle else k.state) }

theorem completed_of_cons {k : Channel} {p : CourseStep} {rest : List CourseStep}
    (h : k.queue = p :: rest) :
    k.completed =
      { k with
        queue := rest, headClamped := false, remainingHold := none
        headPhase := (if rest = [] then none else some .ramp)
        state := (if rest = [] then .idle else k.state) } := by
  unfold Channel.completed
  rw [h]

theorem completeHead_completed (s : State) (c : Index) :
    (s.completeHead c).channels.get c = (s.channels.get c).completed := by
  cases h : (s.channels.get c).queue with
  | nil =>
    have hsame : s.completeHead c = s := by
      unfold State.completeHead
      rw [h]
    rw [hsame]
    unfold Channel.completed
    rw [h]
  | cons p rest => rw [completeHead_channel s c p rest h, completed_of_cons h]

/-- What a completion leaves of a channel (R130). -/
theorem completed_kept (k : Channel) :
    k.completed.course = k.course ∧ k.completed.foldCap = k.foldCap ∧ k.completed.foldback = k.foldback ∧
      k.completed.safe = k.safe ∧ k.completed.lowLoadTimer = k.lowLoadTimer ∧
      k.completed.queue = k.queue.tail := by
  unfold Channel.completed
  split
  · rename_i h
    exact ⟨rfl, rfl, rfl, rfl, rfl, by rw [h]; rfl⟩
  · rename_i p rest h
    exact ⟨rfl, rfl, rfl, rfl, rfl, by rw [h]; rfl⟩

/-- No completion leaves a head that waits, but where there is no head (R130). -/
theorem completed_not_waiting (k : Channel) (h : k.queue ≠ []) : k.completed.headPhase ≠ some .wait := by
  obtain ⟨p, rest, hq⟩ := List.exists_cons_of_ne_nil h
  rw [completed_of_cons hq]
  dsimp only
  split_ifs
  · exact nofun
  · intro he
    exact HeadPhase.noConfusion (Option.some.inj he)

/-- A channel after its head's share of an advancing tick, with its completion (R126, R127, R130). -/
def Channel.advanced (k : Channel) (iMax : Nat) (calm : Bool) : Channel :=
  let k' := k.advanceHead iMax calm
  if k'.headPhase = none then k'.completed else k'

theorem advance_channel (s : State) (c : Index) :
    (s.advance c).channels.get c =
      (s.channels.get c).advanced (s.settings.iMax.get c) s.calmTick := by
  have hmap : ∀ k : Channel, ((s.mapChannel c (fun _ => k)).channels.get c) = k :=
    fun k => Four.get_set_self _ _ _
  unfold State.advance Channel.advanced
  dsimp only
  split_ifs
  · rw [completeHead_completed, hmap]
  · exact hmap _

/-- Channel `c` with its fold cap after a tick (R137). -/
def State.foldedAt (s : State) (c : Index) : Channel :=
  { s.channels.get c with
    foldCap :=
      foldedCap (s.channels.get c).foldCap (s.effectiveReference c) (s.settings.iMax.get c)
        s.settings.foldRate (s.scanner.vCell.get c) (s.settings.vcellFold : Int) }.withFoldback
    (s.settings.iMax.get c)

theorem foldTick_channel (s : State) (c : Index) : (s.foldTick c).channels.get c = s.foldedAt c :=
  Four.get_set_self _ _ _

/-- Channel `c` after the first part of its share (R125). -/
def State.tickedAt (s : State) (adv : Index → Bool) (c : Index) : Channel :=
  if (s.channels.get c).state = .pausing then { s.foldedAt c with state := .paused }
  else if adv c then (s.foldedAt c).advanced (s.settings.iMax.get c) s.calmTick
  else s.foldedAt c

theorem channelTick_channel (s : State) (adv : Index → Bool) (c : Index) :
    (s.channelTick adv c).channels.get c = s.tickedAt adv c := by
  unfold State.channelTick State.tickedAt
  dsimp only
  split
  · rename_i h
    rw [if_pos h, setChannelState_channel, foldTick_channel]
  · rename_i h
    rw [if_neg h]
    split_ifs
    · rw [advance_channel, foldTick_channel]
      rfl
    · exact foldTick_channel s c

/-- What the first part of channel `c`'s share reads. -/
theorem tickedAt_congr {s t : State} {c : Index} (hset : t.settings = s.settings)
    (hscan : t.scanner = s.scanner) (hsync : t.sync = s.sync) (hmon : t.monitor = s.monitor)
    (hb : t.bridges = s.bridges) (hc : t.channels.get c = s.channels.get c) (adv : Index → Bool) :
    t.tickedAt adv c = s.tickedAt adv c := by
  have heff : t.effectiveReference c = s.effectiveReference c := by
    unfold State.effectiveReference State.bridgeState
    rw [hb, hc, hset, hmon]
  have hcalm : t.calmTick = s.calmTick := by
    unfold State.calmTick
    rw [hsync, hmon]
  have hfold : t.foldedAt c = s.foldedAt c := by
    unfold State.foldedAt
    rw [hc, heff, hset, hscan]
  unfold State.tickedAt
  rw [hfold, hcalm, hc, hset]

/-! ### All of them -/

/-- Every channel after the first part of its share. -/
def State.headsMoved (s : State) : State := s.forAll Index.all (fun c t => t.channelTick s.advancing c)

theorem headsMoved_channel (s : State) (c : Index) :
    s.headsMoved.channels.get c = s.tickedAt s.advancing c := by
  obtain ⟨y, hy, hlast⟩ := forAll_at_channel s Index.all (fun c t => t.channelTick s.advancing c) c
    Index.all_nodup (Index.mem_all c) fun c t => onChannel_channelTick t _ c
  refine hlast.channel.trans ((channelTick_channel y _ c).trans ?_)
  exact tickedAt_congr hy.settings hy.scanner hy.sync hy.monitor hy.bridges hy.channel _

theorem channelsStepped_eq (s : State) : s.channelsStepped = s.headsMoved.barrierTest s.advancing := rfl

theorem barrierTest_channel (s : State) (adv : Index → Bool) (c : Index) :
    (s.barrierTest adv).channels.get c =
      if hasBit (s.released adv) c.val then (s.channels.get c).completed else s.channels.get c := by
  obtain ⟨y, hy, hlast⟩ := forAll_at_channel s Index.all
    (fun c t => if hasBit (s.released adv) c.val then t.completeHead c else t) c Index.all_nodup
    (Index.mem_all c) fun c t => by
      split_ifs
      · exact onChannel_completeHead t c
      · exact OnChannel.refl c t
  refine hlast.channel.trans ?_
  split_ifs
  · rw [completeHead_completed, hy.channel]
  · exact hy.channel

/-! ### The released channels -/

theorem hasBit_or {w : Nat} (x y : BitVec w) (k : Nat) :
    hasBit (x ||| y) k = (hasBit x k || hasBit y k) := BitVec.getLsbD_or

theorem hasBit_foldl_or {w : Nat} (l : List Index) (f : Index → BitVec w) (x : BitVec w) (k : Nat) :
    hasBit (l.foldl (fun m c => m ||| f c) x) k = true ↔
      hasBit x k = true ∨ ∃ c ∈ l, hasBit (f c) k = true := by
  induction l generalizing x with
  | nil => simp
  | cons c rest ih =>
    rw [List.foldl_cons, ih, hasBit_or, Bool.or_eq_true]
    constructor
    · rintro ((h | h) | ⟨d, hd, h⟩)
      · exact .inl h
      · exact .inr ⟨c, List.mem_cons_self, h⟩
      · exact .inr ⟨d, List.mem_cons_of_mem _ hd, h⟩
    · rintro (h | ⟨d, hd, h⟩)
      · exact .inl (.inl h)
      · obtain rfl | hd := List.mem_cons.mp hd
        · exact .inl (.inr h)
        · exact .inr ⟨d, hd, h⟩

theorem hasBit_released (s : State) (adv : Index → Bool) (k : Nat) :
    hasBit (s.released adv) k = true ↔ ∃ c, hasBit (s.releasedBy adv c) k = true := by
  have hzero : ¬ hasBit (0 : BitVec 4) k = true := by simp [hasBit]
  unfold State.released
  rw [hasBit_foldl_or]
  constructor
  · rintro (h | ⟨c, -, h⟩)
    · exact absurd h hzero
    · exact ⟨c, h⟩
  · rintro ⟨c, h⟩
    exact .inr ⟨c, Index.mem_all c, h⟩

/-- The head of channel `c` stands at the barrier `tag` of `mask`, and all the mask names have come to it
(R129). -/
def State.barrierMet (s : State) (adv : Index → Bool) (c : Index) (tag : Byte) (mask : BitVec 4) : Prop :=
  (s.channels.get c).headPhase = some .wait ∧
    (∃ p rest, (s.channels.get c).queue = p :: rest ∧ p.wait = some (.barrier tag mask)) ∧
    ∀ m : Index, hasBit mask m.val = true → adv m = true ∧ (s.channels.get m).waitsAt tag = true

theorem releasedBy_iff (s : State) (adv : Index → Bool) (c : Index) (k : Nat) :
    hasBit (s.releasedBy adv c) k = true ↔
      ∃ tag mask, s.barrierMet adv c tag mask ∧ hasBit mask k = true := by
  have hzero : ¬ hasBit (0 : BitVec 4) k = true := by simp [hasBit]
  have hall : ∀ (tag : Byte) (mask : BitVec 4),
      Index.all.all (fun m => !hasBit mask m.val || (adv m && (s.channels.get m).waitsAt tag)) = true ↔
        ∀ m : Index, hasBit mask m.val = true → adv m = true ∧ (s.channels.get m).waitsAt tag = true :=
    fun tag mask => by
      rw [List.all_eq_true]
      constructor
      · intro h m hm
        have hx := h m (Index.mem_all m)
        rw [hm] at hx
        simpa using hx
      · intro h m _
        cases hm : hasBit mask m.val with
        | false => rfl
        | true =>
          obtain ⟨ha, hw⟩ := h m hm
          rw [ha, hw]
          rfl
  constructor
  · intro h
    unfold State.releasedBy at h
    dsimp only at h
    split at h
    · rename_i p rest hphase hqueue
      split at h
      · rename_i tag mask hwait
        split_ifs at h with hmet
        · exact ⟨tag, mask, ⟨hphase, ⟨p, rest, hqueue, hwait⟩, (hall tag mask).mp hmet⟩, h⟩
        · exact absurd h hzero
      · exact absurd h hzero
    · exact absurd h hzero
  · rintro ⟨tag, mask, ⟨hphase, ⟨p, rest, hqueue, hwait⟩, hmet⟩, hk⟩
    unfold State.releasedBy
    dsimp only
    rw [hphase, hqueue]
    dsimp only
    rw [hwait]
    dsimp only
    rw [if_pos ((hall tag mask).mpr hmet)]
    exact hk

theorem waitsAt_iff (k : Channel) (tag : Byte) :
    k.waitsAt tag = true ↔
      k.headPhase = some .wait ∧
        ∃ p rest mask, k.queue = p :: rest ∧ p.wait = some (.barrier tag mask) := by
  unfold Channel.waitsAt
  rw [Bool.and_eq_true, beq_iff_eq]
  refine and_congr_right fun _ => ?_
  constructor
  · intro h
    split at h
    · rename_i p rest hq
      split at h
      · rename_i t mask hw
        obtain rfl : t = tag := eq_of_beq h
        exact ⟨p, rest, mask, hq, hw⟩
      · exact absurd h Bool.false_ne_true
    · exact absurd h Bool.false_ne_true
  · rintro ⟨p, rest, mask, hq, hw⟩
    rw [hq]
    dsimp only
    rw [hw]
    exact beq_self_eq_true tag

/-- A released channel waits at a barrier, on an advancing tick (R129). -/
theorem waits_of_released {s : State} {adv : Index → Bool} {c : Index}
    (h : hasBit (s.released adv) c.val = true) :
    adv c = true ∧ ∃ tag, (s.channels.get c).waitsAt tag = true := by
  obtain ⟨d, hd⟩ := (hasBit_released s adv c.val).mp h
  obtain ⟨tag, mask, ⟨-, -, hmet⟩, hc⟩ := (releasedBy_iff s adv d c.val).mp hd
  obtain ⟨ha, hw⟩ := hmet c hc
  exact ⟨ha, tag, hw⟩

end Sys2Proof.Machine
end

section
/-! SUPPORT. A millisecond tick about the channel unit's share of it: what the other shares leave
(R64, R125, R140, R190). -/

namespace Sys2Proof.Machine

/-! ### Low load -/

theorem lowLoad_of_unlimited (s : State) (c : Index) (h : s.settings.iMinLoad.get c = 0) :
    s.lowLoad c = false := by
  unfold State.lowLoad
  rw [h]
  rfl

theorem lowLoadTick_of_none (s : State) (c : Index) (h : s.lowLoad c = false) :
    s.lowLoadTick c = s.mapChannel c (fun k => { k with lowLoadTimer := 0 }) := by
  unfold State.lowLoadTick
  rw [h, if_neg Bool.false_ne_true]

/-- All that unit `c`'s low-load share reads stands as it did. -/
structure BesideLoad (c : Index) (s t : State) : Prop extends Calm s t where
  monitor : t.monitor = s.monitor
  bridge : t.bridges.get c = s.bridges.get c
  channel : t.channels.get c = s.channels.get c
  flags : FlagsKept s t

theorem BesideLoad.refl (c : Index) (s : State) : BesideLoad c s s :=
  ⟨Calm.rfl' s, rfl, rfl, rfl, FlagsKept.refl s⟩

theorem BesideLoad.trans {c : Index} {s t u : State} (h : BesideLoad c s t) (k : BesideLoad c t u) :
    BesideLoad c s u :=
  ⟨h.toCalm.trans' k.toCalm, k.monitor.trans h.monitor, k.bridge.trans h.bridge,
    k.channel.trans h.channel, h.flags.trans k.flags⟩

theorem OnChannel.besideLoad {c d : Index} {s t : State} (h : OnChannel d s t) (hd : c ≠ d) :
    BesideLoad c s t :=
  ⟨h.toCalm, h.monitor, by rw [h.bridges], h.channels c hd, h.flags⟩

theorem OnBridge.besideLoad {c d : Index} {s t : State} (h : OnBridge d s t) (hd : c ≠ d) :
    BesideLoad c s t :=
  ⟨h.toCalm, h.monitor, h.bridges c hd, by rw [h.channels], h.flags⟩

theorem park_besideLoad (s : State) {c d : Index} (hd : c ≠ d) : BesideLoad c s (s.park d) :=
  ((((onChannel_mapChannel s d Channel.emptied).trans
    (onChannel_setChannelState _ d .standby)).besideLoad hd).trans
    ((onBridge_stopBridge _ d).besideLoad hd)).trans ((onChannel_mapChannel _ d _).besideLoad hd)

theorem lowLoadTick_besideLoad (s : State) {c d : Index} (hd : c ≠ d) :
    BesideLoad c s (s.lowLoadTick d) := by
  unfold State.lowLoadTick
  dsimp only
  split_ifs
  · exact park_besideLoad s hd
  · exact (onChannel_mapChannel s d _).besideLoad hd
  · exact (onChannel_mapChannel s d _).besideLoad hd

/-- The low-load part of the channel unit's share, for unit `c`. -/
theorem channelsTick_at (s : State) (c : Index) :
    ∃ y, BesideLoad c s.channelsStepped y ∧ BesideLoad c (y.lowLoadTick c) s.channelsTick := by
  rw [channelsTick_eq]
  exact forAll_at BesideLoad BesideLoad.refl (fun _ _ _ _ h k => h.trans k)
    (fun c t => t.lowLoadTick c) (fun _ _ t hd => lowLoadTick_besideLoad t hd) s.channelsStepped Index.all c
    Index.all_nodup (Index.mem_all c)

/-- A unit without a low-load limit keeps its bridge, and of its channel all but the timer. -/
theorem channelsTick_unlimited (s : State) (c : Index) (h : s.settings.iMinLoad.get c = 0) :
    s.channelsTick.channels.get c = { s.channelsStepped.channels.get c with lowLoadTimer := 0 } ∧
      s.channelsTick.bridges.get c = s.bridges.get c := by
  obtain ⟨y, hy, hlast⟩ := channelsTick_at s c
  have hon := onChannels_stepped s
  have hlow : y.lowLoad c = false := lowLoad_of_unlimited y c (by
    rw [hy.settings, hon.settings]
    exact h)
  have htick := lowLoadTick_of_none y c hlow
  refine ⟨?_, ?_⟩
  · rw [hlast.channel, htick, ← hy.channel]
    exact Four.get_set_self _ _ _
  · rw [hlast.bridge, htick, ← hon.bridges, ← hy.bridge]
    rfl

/-! ### The other shares where nothing trips or expires -/

/-- What a millisecond tick's other shares leave, in NORMAL or LONG with nothing to trip or to expire. -/
structure TickCalm (s t : State) : Prop where
  ticks : Ticks s t
  bridges : t.bridges = s.bridges
  channels : t.channels = s.channels
  state : t.monitor.state = s.monitor.state ∨ s.monitor.state = .long ∧ t.monitor.state = .normal
  quiet : s.frequencyQuiet → t.frequencyQuiet
  flags : FlagsKept s t

theorem TickCalm.refl (s : State) : TickCalm s s :=
  ⟨Ticks.refl s, rfl, rfl, .inl rfl, id, FlagsKept.refl s⟩

theorem TickCalm.trans {s t u : State} (h : TickCalm s t) (k : TickCalm t u) : TickCalm s u where
  ticks := h.ticks.trans k.ticks
  bridges := k.bridges.trans h.bridges
  channels := k.channels.trans h.channels
  state := by
    obtain hs | ⟨hs, ht⟩ := h.state
    · obtain hu | ⟨ht, hu⟩ := k.state
      · exact .inl (hu.trans hs)
      · exact .inr ⟨hs.symm.trans ht, hu⟩
    · obtain hu | ⟨ht', -⟩ := k.state
      · exact .inr ⟨hs, hu.trans ht⟩
      · exact absurd (ht.symm.trans ht') MonitorState.noConfusion
  quiet := fun hq => k.quiet (h.quiet hq)
  flags := h.flags.trans k.flags

/-- A monitor in which channels may advance (R125). -/
def Monitor.steady (m : Monitor) : Prop := m.state = .normal ∨ m.state = .long

theorem TickCalm.steady {s t : State} (h : TickCalm s t) (hs : s.monitor.steady) : t.monitor.steady := by
  obtain ht | ⟨-, ht⟩ := h.state
  · unfold Monitor.steady
    rw [ht]
    exact hs
  · exact .inl ht

theorem frequencyQuiet_congr {s t : State} (hsync : t.sync = s.sync) (hset : t.settings = s.settings)
    (hm : t.monitor.excursionTripped = s.monitor.excursionTripped) (h : s.frequencyQuiet) :
    t.frequencyQuiet := by
  unfold State.frequencyQuiet State.frequencyOutside at h ⊢
  rw [hsync, hset, hm]
  exact h

theorem recoveryTick_bridges (s : State) : s.recoveryTick.bridges = s.bridges := by
  unfold State.recoveryTick
  dsimp only
  split_ifs
  · exact (episodeEvent_parts _ true).2.2
  · rfl
  · rfl

theorem episodeTick_of_normal (s : State) (h : s.monitor.state = .normal) :
    s.episodeTick = (s.mapMonitor Monitor.agesTick).capsTick := by
  unfold State.episodeTick
  rw [h]

theorem episodeTick_of_long (s : State) (h : s.monitor.state = .long) :
    s.episodeTick = ((s.mapMonitor Monitor.agesTick).capsTick).recoveryTick := by
  unfold State.episodeTick
  rw [h]

theorem ticked_state (m : Monitor) (st : Settings) (sc : Scanner) (h : m.steady) :
    (m.ticked st sc).state = m.state ∨ m.state = .long ∧ (m.ticked st sc).state = .normal := by
  unfold Monitor.ticked
  obtain h | h := h
  · rw [h]
    exact .inl h
  · rw [h]
    dsimp only
    split_ifs
    · exact .inr ⟨rfl, rfl⟩
    · exact .inl h
    · exact .inl h

theorem tickCalm_episode (s : State) (h : s.monitor.steady) : TickCalm s s.episodeTick where
  ticks := ticks_share s .episode
  bridges := by
    obtain h | h := h
    · rw [episodeTick_of_normal s h]
      rfl
    · rw [episodeTick_of_long s h, recoveryTick_bridges]
      rfl
  channels := (episodeTick_trip s).2
  state := by
    rw [episodeTick_monitor]
    exact ticked_state _ _ _ h
  quiet := by
    have hticks := ticks_share s .episode
    refine frequencyQuiet_congr hticks.sync hticks.settings ?_
    rw [episodeTick_monitor]
    exact (ticked_excursion _ _ _).2
  flags := tickShare_flags s .episode

/-- Where no frequency trip is to come, the frequency's share changes at most the excursion (R64). -/
theorem frequencyTick_of_quiet (s : State) (h : s.frequencyQuiet) :
    s.frequencyTick = s ∨ s.frequencyTick = s.mapMonitor Monitor.excursionCleared ∧
      ∀ f, s.sync.frequency = some f → s.frequencyOutside f = false := by
  unfold State.frequencyTick
  split
  · rename_i hf
    exact .inr ⟨rfl, fun f hf' => absurd (hf.symm.trans hf') nofun⟩
  · rename_i f hf
    by_cases hout : s.frequencyOutside f = true
    · rw [if_pos hout, if_pos (h f hf hout)]
      exact .inl rfl
    · rw [if_neg hout]
      refine .inr ⟨rfl, fun f' hf' => ?_⟩
      obtain rfl : f = f' := Option.some.inj (hf.symm.trans hf')
      simpa using hout

theorem tickCalm_frequency (s : State) (h : s.frequencyQuiet) : TickCalm s s.frequencyTick := by
  obtain heq | ⟨heq, hin⟩ := frequencyTick_of_quiet s h
  · rw [heq]
    exact TickCalm.refl s
  · rw [heq]
    exact ⟨(calm_mapMonitor s _ rfl rfl).ticks, rfl, rfl, .inl rfl,
      fun _ f hf hout => absurd ((hin f hf).symm.trans hout) Bool.false_ne_true, fun _ _ h => h⟩

theorem tickCalm_watchdog (s : State) (h : s.watchdogDue = false) : TickCalm s s.watchdogTick := by
  have hon := onWatchdog_tick s
  exact ⟨hon.ticks, hon.bridges, hon.channels (.inr h), .inl (by rw [hon.monitor]),
    frequencyQuiet_congr hon.ticks.sync hon.ticks.settings (by rw [hon.monitor]), hon.flags⟩

/-- The shares beside the watchdog's leave authority. -/
theorem tickShare_authority (s : State) (x : TickShare) (h : x ≠ .watchdog) :
    (s.tickShare x).holder = s.holder ∧ (s.tickShare x).watchdog = s.watchdog := by
  cases x
  case episode => exact holder_of_calm (calm_episodeTick s)
  case frequency => exact holder_of_calm (calm_frequencyTick s)
  case channels => exact holder_of_calm (calm_channelsTick s)
  case watchdog => exact absurd rfl h

theorem tickRun_authority (s : State) (l : List TickShare) (h : .watchdog ∉ l) :
    (tickRun s l).holder = s.holder ∧ (tickRun s l).watchdog = s.watchdog := by
  refine tickRun_keeps (P := fun t => t.holder = s.holder ∧ t.watchdog = s.watchdog)
    (fun x hx t ⟨hh, hw⟩ => ?_) ⟨rfl, rfl⟩
  obtain ⟨kh, kw⟩ := tickShare_authority t x fun e => h (e ▸ hx)
  exact ⟨kh.trans hh, kw.trans hw⟩

theorem watchdogDue_congr {s t : State} (hset : t.settings = s.settings) (hw : t.watchdog = s.watchdog) :
    t.watchdogDue = s.watchdogDue := by
  unfold State.watchdogDue
  rw [hset, hw]

/-- Shares beside the channel unit's, with nothing to trip or to expire. -/
theorem tickCalm_run (l : List TickShare) (s : State) (hnd : l.Nodup) (hc : .channels ∉ l)
    (hs : s.monitor.steady) (hq : s.frequencyQuiet) (hd : .watchdog ∈ l → s.watchdogDue = false) :
    TickCalm s (tickRun s l) := by
  induction l generalizing s with
  | nil => exact TickCalm.refl s
  | cons x rest ih =>
    obtain ⟨hx, hrest⟩ := List.nodup_cons.mp hnd
    obtain ⟨hcx, hcrest⟩ := List.ne_and_not_mem_of_not_mem_cons hc
    have hfirst : TickCalm s (s.tickShare x) := by
      cases x
      case episode => exact tickCalm_episode s hs
      case frequency => exact tickCalm_frequency s hq
      case channels => exact absurd rfl hcx
      case watchdog => exact tickCalm_watchdog s (hd List.mem_cons_self)
    refine hfirst.trans (ih _ hrest hcrest (hfirst.steady hs) (hfirst.quiet hq) fun hw => ?_)
    have hne : x ≠ .watchdog := fun e => hx (e ▸ hw)
    rw [watchdogDue_congr hfirst.ticks.settings (tickShare_authority s x hne).2]
    exact hd (List.mem_cons_of_mem _ hw)

/-! ### The tick about the channel unit's share -/

theorem takeWhile_before (pre post : List TickShare) (h : TickShare.channels ∉ pre) :
    (pre ++ .channels :: post).takeWhile (fun x => x != .channels) = pre := by
  rw [List.takeWhile_append_of_pos fun x hx => by
    rw [bne_iff_ne]
    exact fun e => h (e ▸ hx)]
  rw [List.takeWhile_cons_of_neg (by decide), List.append_nil]

theorem takeMillisecond_channels (s : State) (k : Nat) (hs : s.monitor.steady) (hq : s.frequencyQuiet)
    (hd : s.watchdogDue = false) :
    ∃ u : State, TickCalm s.reachMillisecond u ∧ s.beforeChannels k = u ∧
      TickCalm u.channelsTick (s.takeMillisecond k) ∧
      (u.monitor.cap = s.monitor.cap ∨ u.monitor.cap = (s.takeMillisecond k).monitor.cap) := by
  obtain ⟨pre, post, hl, hpre, hpost⟩ := tick_around k .channels
  have hnd := tickShares_nodup k
  rw [hl, List.nodup_append] at hnd
  obtain ⟨hndpre, hndpost, hdisj⟩ := hnd
  have hndpost' := (List.nodup_cons.mp hndpost).2
  have hu : TickCalm s.reachMillisecond (tickRun s.reachMillisecond pre) :=
    tickCalm_run pre _ hndpre hpre hs hq fun _ => hd
  have hbefore : s.beforeChannels k = tickRun s.reachMillisecond pre := by
    unfold State.beforeChannels
    rw [hl, takeWhile_before pre post hpre]
    rfl
  have htake : s.takeMillisecond k = tickRun (tickRun s.reachMillisecond pre).channelsTick post := by
    unfold State.takeMillisecond
    rw [hl]
    exact tickRun_append _ pre (.channels :: post)
  have hdog : .watchdog ∉ pre → (tickRun s.reachMillisecond pre).watchdog = s.watchdog := fun h =>
    (tickRun_authority _ pre h).2
  have hcapPre : .episode ∉ pre → (tickRun s.reachMillisecond pre).monitor.cap = s.monitor.cap :=
    fun h => by
      have hcap := congrArg Monitor.cap (tickRun_before s.reachMillisecond pre h)
      exact hcap
  have hcapPost : ∀ z : State, .episode ∉ post → (tickRun z post).monitor.cap = z.monitor.cap :=
    fun z h => by
      have hcap := congrArg Monitor.cap (tickRun_before z post h)
      exact hcap
  rw [htake]
  generalize tickRun s.reachMillisecond pre = u at hu hbefore hdog hcapPre
  have hmon : u.channelsTick.monitor = u.monitor := channelsTick_monitor u
  have hcalm := calm_channelsTick u
  refine ⟨u, hu, hbefore, ?_, ?_⟩
  · refine tickCalm_run post _ hndpost' hpost ?_ ?_ fun hw => ?_
    · rw [hmon]
      exact hu.steady hs
    · exact frequencyQuiet_congr hcalm.sync hcalm.settings (by rw [hmon]) (hu.quiet hq)
    · have hnot : TickShare.watchdog ∉ pre := fun h =>
        hdisj _ h _ (List.mem_cons_of_mem _ hw) rfl
      rw [watchdogDue_congr hcalm.settings hcalm.watchdog]
      rw [watchdogDue_congr (s := s) hu.ticks.settings (hdog hnot)]
      exact hd
  · by_cases hep : TickShare.episode ∈ pre
    · refine .inr ?_
      rw [hcapPost _ fun h => hdisj _ hep _ (List.mem_cons_of_mem _ h) rfl, hmon]
    · exact .inl (hcapPre hep)

end Sys2Proof.Machine
end

section
/-! PROOF. HOLD_END and LOW_LOAD_PARK (R125, R127, R130, R140). -/

namespace Sys2Proof.Machine

/-! ### The hold that runs out -/

theorem afterHold_of_none (p : CourseStep) (h : p.wait = none) : p.afterHold = none := by
  unfold CourseStep.afterHold
  rw [h]
  rfl

theorem afterHold_of_some (p : CourseStep) (x : CourseWait) (h : p.wait = some x) :
    p.afterHold = some .wait := by
  unfold CourseStep.afterHold
  rw [h]
  rfl

theorem advanceHead_of_held (k : Channel) (iMax : Nat) (calm : Bool) (p : CourseStep)
    (rest : List CourseStep) (r : Nat) (hq : k.queue = p :: rest) (hp : k.headPhase = some .hold)
    (hr : k.remainingHold = some r) (hle : r ≤ 1) (hcalm : p.calm = true → calm = true) :
    k.advanceHead iMax calm = { k with remainingHold := none, headPhase := p.afterHold } := by
  have hnot : ¬ (p.calm && !calm) = true := by
    cases h : p.calm with
    | false => exact Bool.false_ne_true
    | true =>
      rw [hcalm h]
      exact Bool.false_ne_true
  unfold Channel.advanceHead
  rw [hq]
  dsimp only
  rw [hp]
  dsimp only
  rw [if_neg hnot, hr]
  exact if_pos hle

theorem tickedAt_of_advancing (s : State) (adv : Index → Bool) (c : Index)
    (hs : (s.channels.get c).state = .active) (ha : adv c = true) :
    s.tickedAt adv c = (s.foldedAt c).advanced (s.settings.iMax.get c) s.calmTick := by
  unfold State.tickedAt
  rw [if_neg (by rw [hs]; exact ChannelState.noConfusion), if_pos ha]

theorem advancing_of (s : State) (c : Index) (hs : (s.channels.get c).state = .active)
    (hb : s.bridgeState c = .running) (hm : s.monitor.steady) : s.advancing c = true := by
  unfold State.advancing
  rw [hs, hb]
  obtain hm | hm := hm
  · rw [hm]
    rfl
  · rw [hm]
    rfl

/-- A channel whose head does not stand in WAIT at a barrier is not released (R129). -/
theorem stepped_of_unreleased (s : State) (c : Index)
    (h : ∀ tag, (s.tickedAt s.advancing c).waitsAt tag = false) :
    s.channelsStepped.channels.get c = s.tickedAt s.advancing c := by
  have hnot : ¬ hasBit (s.headsMoved.released s.advancing) c.val = true := fun hr => by
    obtain ⟨-, tag, hw⟩ := waits_of_released hr
    rw [headsMoved_channel, h tag] at hw
    exact Bool.false_ne_true hw
  rw [channelsStepped_eq, barrierTest_channel, if_neg hnot, headsMoved_channel]

theorem waitsAt_of_phase (k : Channel) (tag : Byte) (h : k.headPhase ≠ some .wait) :
    k.waitsAt tag = false := by
  unfold Channel.waitsAt
  rw [Bool.and_eq_false_iff]
  exact .inl (by simpa using h)

theorem waitsAt_of_release (k : Channel) (tag : Byte) (p : CourseStep) (rest : List CourseStep)
    (hq : k.queue = p :: rest) (hw : p.wait = some .release) : k.waitsAt tag = false := by
  unfold Channel.waitsAt
  rw [hq]
  dsimp only
  rw [hw]
  exact Bool.and_false _

/-- A head that completes at an advancing tick with a tag shows STEP_DONE (R130). -/
theorem advance_flagged (s : State) (c : Index) (p : CourseStep) (rest : List CourseStep)
    (hk : ((s.channels.get c).advanceHead (s.settings.iMax.get c) s.calmTick).headPhase = none)
    (hq : ((s.channels.get c).advanceHead (s.settings.iMax.get c) s.calmTick).queue = p :: rest)
    (htag : p.tag.isSome = true) (l : Link) : (s.advance c).flagged l 2 := by
  unfold State.advance
  dsimp only
  rw [if_pos hk]
  refine completeHead_flagged _ c p rest ?_ htag l
  exact (congrArg Channel.queue (Four.get_set_self _ _ _)).trans hq

theorem channelTick_of_advancing (s : State) (adv : Index → Bool) (c : Index)
    (hs : (s.channels.get c).state = .active) (ha : adv c = true) :
    s.channelTick adv c = (s.foldTick c).advance c := by
  unfold State.channelTick
  dsimp only
  split
  · rename_i h
    exact absurd (hs.symm.trans h) ChannelState.noConfusion
  · exact if_pos ha

/-- The same among all channels. -/
theorem channelsTick_flagged (s : State) (c : Index) (p : CourseStep) (rest : List CourseStep)
    (hs : (s.channels.get c).state = .active) (ha : s.advancing c = true)
    (hk : ((s.foldedAt c).advanceHead (s.settings.iMax.get c) s.calmTick).headPhase = none)
    (hq : ((s.foldedAt c).advanceHead (s.settings.iMax.get c) s.calmTick).queue = p :: rest)
    (htag : p.tag.isSome = true) (l : Link) : s.channelsTick.flagged l 2 := by
  obtain ⟨y, hy, hlast⟩ := forAll_at_channel s Index.all (fun c t => t.channelTick s.advancing c) c
    Index.all_nodup (Index.mem_all c) fun c t => onChannel_channelTick t _ c
  have hfold : (y.foldTick c).channels.get c = s.foldedAt c := by
    rw [foldTick_channel]
    unfold State.foldedAt State.effectiveReference State.bridgeState
    rw [hy.settings, hy.scanner, hy.channel, hy.bridges, hy.monitor]
  have hcalm : (y.foldTick c).calmTick = s.calmTick := by
    change y.calmTick = s.calmTick
    unfold State.calmTick
    rw [hy.sync, hy.monitor]
  have hiMax : (y.foldTick c).settings.iMax.get c = s.settings.iMax.get c := by
    change y.settings.iMax.get c = _
    rw [hy.settings]
  have hturn : (y.channelTick s.advancing c).flagged l 2 := by
    rw [channelTick_of_advancing y _ c (by rw [hy.channel]; exact hs) ha]
    refine advance_flagged _ c p rest ?_ ?_ htag l
    · rw [hfold, hcalm, hiMax]
      exact hk
    · rw [hfold, hcalm, hiMax]
      exact hq
  have hmoved : s.headsMoved.flagged l 2 := hlast.flags l 2 hturn
  have hstepped : s.channelsStepped.flagged l 2 := (barrierTest_onChannels _ _).flags l 2 hmoved
  rw [channelsTick_eq]
  exact (moves_forAll s.channelsStepped Index.all (fun c t => t.lowLoadTick c)
    fun c t => lowLoadTick_moves t c).flags l 2 hstepped

/-! ### A channel that parks -/

theorem completed_state (k : Channel) (h : k.state ≠ .standby) : k.completed.state ≠ .standby := by
  unfold Channel.completed
  split
  · exact h
  · dsimp only
    split_ifs
    · exact ChannelState.noConfusion
    · exact h

theorem advanceHead_kept (k : Channel) (iMax : Nat) (calm : Bool) :
    (k.advanceHead iMax calm).state = k.state ∧ (k.advanceHead iMax calm).lowLoadTimer = k.lowLoadTimer ∧
      (k.advanceHead iMax calm).safe = k.safe ∧ (k.advanceHead iMax calm).queue = k.queue ∧
      (k.advanceHead iMax calm).foldCap = k.foldCap ∧ (k.advanceHead iMax calm).foldback = k.foldback := by
  unfold Channel.advanceHead
  split
  · exact ⟨rfl, rfl, rfl, rfl, rfl, rfl⟩
  · split
    · exact ⟨rfl, rfl, rfl, rfl, rfl, rfl⟩
    · exact ⟨rfl, rfl, rfl, rfl, rfl, rfl⟩
    · dsimp only
      split_ifs
      · split
        · exact ⟨rfl, rfl, rfl, rfl, rfl, rfl⟩
        · exact ⟨rfl, rfl, rfl, rfl, rfl, rfl⟩
      · exact ⟨rfl, rfl, rfl, rfl, rfl, rfl⟩
    · split_ifs
      · exact ⟨rfl, rfl, rfl, rfl, rfl, rfl⟩
      · split
        · exact ⟨rfl, rfl, rfl, rfl, rfl, rfl⟩
        · split_ifs
          · exact ⟨rfl, rfl, rfl, rfl, rfl, rfl⟩
          · exact ⟨rfl, rfl, rfl, rfl, rfl, rfl⟩

theorem advanced_kept (k : Channel) (iMax : Nat) (calm : Bool) :
    ((k.advanced iMax calm).lowLoadTimer = k.lowLoadTimer ∧ (k.advanced iMax calm).safe = k.safe) ∧
      ((k.advanced iMax calm).foldCap = k.foldCap ∧ (k.advanced iMax calm).foldback = k.foldback) ∧
      (k.state ≠ .standby → (k.advanced iMax calm).state ≠ .standby) := by
  obtain ⟨hstate, htimer, hsafe, -, hcap, hback⟩ := advanceHead_kept k iMax calm
  obtain ⟨-, ccap, cback, csafe, ctimer, -⟩ := completed_kept (k.advanceHead iMax calm)
  unfold Channel.advanced
  dsimp only
  split_ifs
  · exact ⟨⟨ctimer.trans htimer, csafe.trans hsafe⟩, ⟨ccap.trans hcap, cback.trans hback⟩,
      fun h => completed_state _ (by rw [hstate]; exact h)⟩
  · exact ⟨⟨htimer, hsafe⟩, ⟨hcap, hback⟩, fun h => by rw [hstate]; exact h⟩

theorem tickedAt_kept (s : State) (adv : Index → Bool) (c : Index) :
    (s.tickedAt adv c).lowLoadTimer = (s.channels.get c).lowLoadTimer ∧
      (s.tickedAt adv c).safe = (s.channels.get c).safe ∧
      (s.tickedAt adv c).foldCap = (s.foldedAt c).foldCap ∧
      (s.tickedAt adv c).foldback = (s.foldedAt c).foldback ∧
      ((s.channels.get c).state ≠ .standby → (s.tickedAt adv c).state ≠ .standby) := by
  obtain ⟨⟨htimer, hsafe⟩, ⟨hcap, hback⟩, hstate⟩ :=
    advanced_kept (s.foldedAt c) (s.settings.iMax.get c) s.calmTick
  unfold State.tickedAt
  split_ifs
  · exact ⟨rfl, rfl, rfl, rfl, fun _ => ChannelState.noConfusion⟩
  · exact ⟨htimer, hsafe, hcap, hback, hstate⟩
  · exact ⟨rfl, rfl, rfl, rfl, id⟩

theorem stepped_kept (s : State) (c : Index) :
    (s.channelsStepped.channels.get c).lowLoadTimer = (s.channels.get c).lowLoadTimer ∧
      (s.channelsStepped.channels.get c).safe = (s.channels.get c).safe ∧
      (s.channelsStepped.channels.get c).foldCap = (s.foldedAt c).foldCap ∧
      (s.channelsStepped.channels.get c).foldback = (s.foldedAt c).foldback ∧
      ((s.channels.get c).state ≠ .standby → (s.channelsStepped.channels.get c).state ≠ .standby) := by
  obtain ⟨htimer, hsafe, hcap, hback, hstate⟩ := tickedAt_kept s s.advancing c
  obtain ⟨-, ccap, cback, csafe, ctimer, -⟩ := completed_kept (s.tickedAt s.advancing c)
  rw [channelsStepped_eq, barrierTest_channel, headsMoved_channel]
  split_ifs
  · exact ⟨ctimer.trans htimer, csafe.trans hsafe, ccap.trans hcap, cback.trans hback,
      fun h => completed_state _ (hstate h)⟩
  · exact ⟨htimer, hsafe, hcap, hback, hstate⟩

end Sys2Proof.Machine
end

section
/-! PROOF. HOLD_END and LOW_LOAD_PARK (R125, R127, R130, R140). -/

namespace Sys2Proof.Machine

/-- What a tick's channel share finds: the part as the tick takes it, but for what the others count. -/
structure AtShare (s u : State) : Prop where
  calm : TickCalm s.reachMillisecond u
  settings : u.settings = s.settings
  scanner : u.scanner = s.scanner
  sync : u.sync = s.sync
  channels : u.channels = s.channels
  bridges : u.bridges = s.bridges

theorem atShare_of {s u : State} (h : TickCalm s.reachMillisecond u) : AtShare s u :=
  ⟨h, h.ticks.settings, h.ticks.scanner, h.ticks.sync, h.channels, h.bridges⟩

theorem AtShare.bridgeState {s u : State} (h : AtShare s u) (c : Index) :
    u.bridgeState c = s.bridgeState c := by
  unfold State.bridgeState
  rw [h.bridges]

theorem AtShare.normal {s u : State} (h : AtShare s u) (hs : s.monitor.state = .normal) :
    u.monitor.state = .normal := by
  obtain hu | ⟨hlong, -⟩ := h.calm.state
  · exact hu.trans hs
  · exact absurd (hs.symm.trans hlong) MonitorState.noConfusion

theorem AtShare.advancing {s u : State} (h : AtShare s u) (c : Index) (hm : s.monitor.steady)
    (hs : (s.channels.get c).state = .active) (hb : s.bridgeState c = .running) :
    u.advancing c = true :=
  advancing_of u c (by rw [h.channels]; exact hs) ((h.bridgeState c).trans hb) (h.calm.steady hm)

/-- The part at the end of a tick, about the channel unit's share. -/
structure AfterShare (u w t : State) : Prop where
  calm : TickCalm u.channelsTick w
  taken : Taken w t

theorem AfterShare.channel {u w t : State} (h : AfterShare u w t) (c : Index) :
    t.channels.get c = u.channelsTick.channels.get c := by
  rw [h.taken.channels, h.calm.channels]

theorem AfterShare.bridge {u w t : State} (h : AfterShare u w t) (c : Index) :
    t.bridges.get c = u.channelsTick.bridges.get c := by
  rw [h.taken.bridges, h.calm.bridges]

theorem AfterShare.flags {u w t : State} (h : AfterShare u w t) : FlagsKept u.channelsTick t :=
  h.calm.flags.trans h.taken.flags

/-! ### HOLD_END -/

theorem completed_of_held {k : Channel} {p : CourseStep} {rest : List CourseStep}
    (hq : k.queue = p :: rest) :
    ({ k with remainingHold := none, headPhase := none } : Channel).completed =
      { k with
        queue := rest, headClamped := false, remainingHold := none
        headPhase := (if rest = [] then none else some .ramp)
        state := (if rest = [] then .idle else k.state) } :=
  completed_of_cons (k := { k with remainingHold := none, headPhase := none }) hq

/-- The channel whose hold runs out, after the tick's share (R127, R130). -/
theorem holdEnd_channel (u : State) (c : Index) (p : CourseStep) (rest : List CourseStep) (r : Nat)
    (hmin : u.settings.iMinLoad.get c = 0) (hs : (u.channels.get c).state = .active)
    (ha : u.advancing c = true) (hq : (u.channels.get c).queue = p :: rest)
    (hp : (u.channels.get c).headPhase = some .hold) (hr : (u.channels.get c).remainingHold = some r)
    (hle : r ≤ 1) (hcalm : p.calm = true → u.calmTick = true) :
    let k := u.channelsTick.channels.get c
    k.remainingHold = none ∧ k.course = (u.channels.get c).course ∧
      (p.wait = some .release → k.headPhase = some .wait ∧ k.queue = p :: rest ∧ k.state = .active) ∧
      (p.wait = none →
        k.queue = rest ∧ k.state = (if rest = [] then .idle else .active) ∧
          k.headPhase = (if rest = [] then none else some .ramp) ∧
          (p.tag.isSome = true → ∀ l, u.channelsTick.flagged l 2)) := by
  intro k
  obtain ⟨hchannel, -⟩ := channelsTick_unlimited u c hmin
  have hticked := tickedAt_of_advancing u u.advancing c hs ha
  have hhead := advanceHead_of_held (u.foldedAt c) (u.settings.iMax.get c) u.calmTick p rest r hq hp hr hle
    hcalm
  have hk : k = { u.channelsStepped.channels.get c with lowLoadTimer := 0 } := hchannel
  have hnone : p.wait = none → u.tickedAt u.advancing c =
      { u.foldedAt c with
        queue := rest, headClamped := false, remainingHold := none
        headPhase := (if rest = [] then none else some .ramp)
        state := (if rest = [] then .idle else (u.foldedAt c).state) } := fun hw => by
    rw [afterHold_of_none p hw] at hhead
    rw [hticked]
    unfold Channel.advanced
    rw [hhead]
    dsimp only
    rw [if_pos rfl]
    exact completed_of_held hq
  have hsome : ∀ x, p.wait = some x → u.tickedAt u.advancing c =
      { u.foldedAt c with remainingHold := none, headPhase := some .wait } := fun x hw => by
    rw [afterHold_of_some p x hw] at hhead
    rw [hticked]
    unfold Channel.advanced
    rw [hhead]
    exact if_neg nofun
  have hstepped : u.channelsStepped.channels.get c = u.tickedAt u.advancing c ∨
      u.channelsStepped.channels.get c = (u.tickedAt u.advancing c).completed := by
    rw [channelsStepped_eq, barrierTest_channel, headsMoved_channel]
    split_ifs
    · exact .inr rfl
    · exact .inl rfl
  have hreleaseStep : p.wait = some .release →
      u.channelsStepped.channels.get c = u.tickedAt u.advancing c := fun hw =>
    stepped_of_unreleased u c fun tag => by
      rw [hsome _ hw]
      exact waitsAt_of_release _ tag p rest hq hw
  have hdoneStep : p.wait = none →
      u.channelsStepped.channels.get c = u.tickedAt u.advancing c := fun hw =>
    stepped_of_unreleased u c fun tag => by
      refine waitsAt_of_phase _ tag ?_
      rw [hnone hw]
      dsimp only
      split_ifs
      · exact nofun
      · intro he
        exact HeadPhase.noConfusion (Option.some.inj he)
  have hboth : (u.tickedAt u.advancing c).remainingHold = none ∧
      (u.tickedAt u.advancing c).course = (u.channels.get c).course := by
    cases hw : p.wait with
    | none =>
      rw [hnone hw]
      exact ⟨rfl, rfl⟩
    | some x =>
      rw [hsome x hw]
      exact ⟨rfl, rfl⟩
  refine ⟨?_, ?_, fun hw => ?_, fun hw => ⟨?_, ?_, ?_, fun htag l => ?_⟩⟩
  · rw [hk]
    change (u.channelsStepped.channels.get c).remainingHold = none
    obtain h | h := hstepped
    · rw [h]
      exact hboth.1
    · rw [h]
      unfold Channel.completed
      split
      · exact hboth.1
      · rfl
  · rw [hk]
    change (u.channelsStepped.channels.get c).course = _
    obtain h | h := hstepped
    · rw [h]
      exact hboth.2
    · rw [h]
      exact (completed_kept _).1.trans hboth.2
  · rw [hk, hreleaseStep hw, hsome _ hw]
    exact ⟨rfl, hq, hs⟩
  · rw [hk, hdoneStep hw, hnone hw]
  · rw [hk, hdoneStep hw, hnone hw]
    change (if rest = [] then ChannelState.idle else (u.channels.get c).state) = _
    rw [hs]
  · rw [hk, hdoneStep hw, hnone hw]
  · rw [afterHold_of_none p hw] at hhead
    exact channelsTick_flagged u c p rest hs ha (by rw [hhead]) (by rw [hhead]; exact hq) htag l

/-! ### LOW_LOAD_PARK -/

theorem park_channel (s : State) (c : Index) :
    (s.park c).channels.get c =
      { (s.channels.get c).emptied with state := .standby, lowLoadTimer := 0 } := by
  unfold State.park
  have hget : ((((s.mapChannel c Channel.emptied).setChannelState c .standby).stopBridge c).channels.get c) =
      { (s.channels.get c).emptied with state := .standby } := by
    rw [(onBridge_stopBridge _ c).channels, setChannelState_channel]
    exact congrArg (fun k : Channel => { k with state := .standby }) (Four.get_set_self _ _ _)
  refine (Four.get_set_self _ _ _).trans ?_
  rw [hget]

theorem park_bridge (s : State) (c : Index) (h : s.bridgeState c = .running) :
    (s.park c).bridges.get c = { s.bridges.get c with state := .retarding, retardTurns := 0 } := by
  let z := (s.mapChannel c Channel.emptied).setChannelState c .standby
  have hz : z.bridges = s.bridges := (onChannel_setChannelState _ c _).bridges
  have hstate : z.bridgeState c = .running := by
    unfold State.bridgeState at h ⊢
    rw [hz]
    exact h
  have hstop := stopBridge_bridge z c
  rw [hstate, hz] at hstop
  exact hstop

theorem setChannelState_flagged (s : State) (c : Index) (x : ChannelState)
    (h : (s.channels.get c).state ≠ x) (l : Link) : (s.setChannelState c x).flagged l 3 := by
  unfold State.setChannelState
  rw [if_neg h]
  exact raise_flagged _ _ l

theorem stopBridge_flagged (s : State) (b : Index) (h : s.bridgeState b = .running) (l : Link) :
    (s.stopBridge b).flagged l 1 := by
  unfold State.stopBridge
  rw [h]
  exact raise_flagged _ _ l

theorem park_flagged (s : State) (c : Index) (h : s.bridgeState c = .running)
    (hs : (s.channels.get c).state ≠ .standby) (l : Link) :
    (s.park c).flagged l 1 ∧ (s.park c).flagged l 3 := by
  let y := s.mapChannel c Channel.emptied
  have hy : (y.channels.get c).state ≠ .standby := by
    rw [show y.channels.get c = (s.channels.get c).emptied from Four.get_set_self _ _ _]
    exact hs
  have hz : (y.setChannelState c .standby).bridgeState c = .running := by
    unfold State.bridgeState at h ⊢
    rw [(onChannel_setChannelState y c .standby).bridges]
    exact h
  exact ⟨stopBridge_flagged _ c hz l,
    (onBridge_stopBridge _ c).flags l 3 (setChannelState_flagged y c .standby hy l)⟩

theorem lowLoadTick_of_due (s : State) (c : Index) (h : s.lowLoad c = true)
    (ht : s.settings.tLowLoad.get c * 1000 ≤ (s.channels.get c).lowLoadTimer + 1) :
    s.lowLoadTick c = s.park c := by
  unfold State.lowLoadTick
  rw [if_pos h]
  exact if_pos ht

/-- The unit that parks, after the tick's share (R140). -/
theorem park_unit (u : State) (c : Index) (hmin : 0 < u.settings.iMinLoad.get c)
    (hi : u.scanner.i.get c < (u.settings.iMinLoad.get c : Int))
    (hs : (u.channels.get c).state ≠ .standby) (hb : u.bridgeState c = .running)
    (hm : u.monitor.state = .normal)
    (ht : u.settings.tLowLoad.get c * 1000 ≤ (u.channels.get c).lowLoadTimer + 1) :
    let k := u.channelsTick.channels.get c
    k.state = .standby ∧ k.queue = [] ∧ k.headPhase = none ∧ k.lowLoadTimer = 0 ∧
      (u.channelsTick.bridges.get c).state = .retarding ∧
      (u.channelsTick.bridges.get c).retardTurns = 0 ∧
      ∀ l, u.channelsTick.flagged l 1 ∧ u.channelsTick.flagged l 3 := by
  intro k
  obtain ⟨y, hy, hlast⟩ := channelsTick_at u c
  have hon := onChannels_stepped u
  obtain ⟨htimer, -, -, -, hstate⟩ := stepped_kept u c
  have hyb : y.bridgeState c = .running :=
    (bridgeState_of_get hy.bridge).trans ((bridgeState_of_get (by rw [hon.bridges])).trans hb)
  have hys : (y.channels.get c).state ≠ .standby := by
    rw [hy.channel]
    exact hstate hs
  have hset : y.settings = u.settings := hy.settings.trans hon.settings
  have hlow : y.lowLoad c = true := by
    unfold State.lowLoad
    rw [hset, hyb, hy.monitor, hon.monitor, hm, hy.scanner, hon.scanner, decide_eq_true hmin,
      decide_eq_true hi]
    simpa using hys
  have hpark : y.lowLoadTick c = y.park c := lowLoadTick_of_due y c hlow (by
    rw [hset, hy.channel, htimer]
    exact ht)
  rw [hpark] at hlast
  have hk : k = { (y.channels.get c).emptied with state := .standby, lowLoadTimer := 0 } :=
    hlast.channel.trans (park_channel y c)
  have hbridge := hlast.bridge.trans (park_bridge y c hyb)
  have hflags := park_flagged y c hyb hys
  rw [hk, hbridge]
  exact ⟨rfl, rfl, rfl, rfl, rfl, rfl,
    fun l => ⟨hlast.flags l 1 (hflags l).1, hlast.flags l 3 (hflags l).2⟩⟩

/-- Settles O26, by the channel unit's share as the others leave it what it reads. -/
theorem holdsEndAndChannelsPark : Obligations.HoldsEndAndChannelsPark := by
  intro c o s hrun hnormal hb hquiet
  have hcore := coreKept_tick s o
  have htick := exec_tick s o hrun
  have hticks := ticks_takeMillisecond s o.shares
  refine ⟨fun p rest r hdue hmin hs hq hp hr hle hcalm => ?hold, fun hmin hi hs hdue ht => ?park⟩
  case hold =>
    obtain ⟨u, hu, hbefore, hafter, -⟩ := takeMillisecond_channels s o.shares (.inl hnormal) hquiet hdue
    have hat := atShare_of hu
    have hadv : u.advancing c = true := hat.advancing c (.inl hnormal) hs hb
    have hucalm : p.calm = true → u.calmTick = true := fun h => by
      unfold State.calmTick
      rw [hat.sync, hcalm h, hat.normal hnormal]
      rfl
    have hends : u.holdEnds c = true := by
      unfold State.holdEnds
      dsimp only
      rw [hadv, hat.channels, hp, hq, hr]
      dsimp only
      rw [decide_eq_true hle]
      cases h : p.calm with
      | false => rfl
      | true =>
        rw [hucalm h]
        rfl
    have hrow : exec (.holdEnd c o) s = .next ((s.takeMillisecond o.shares).settle o) := by
      rw [exec_holdEnd, take_of_running s o _ hrun, takenIf_of_happened]
      rw [hbefore]
      exact hends
    have hchan : u.channels.get c = s.channels.get c := by rw [hat.channels]
    have hend := holdEnd_channel u c p rest r (by rw [hat.settings]; exact hmin)
      (by rw [hchan]; exact hs) hadv (by rw [hchan]; exact hq) (by rw [hchan]; exact hp)
      (by rw [hchan]; exact hr) hle hucalm
    generalize s.takeMillisecond o.shares = w at hafter hrow htick hcore hticks
    have hall : AfterShare u w (w.settle o) := ⟨hafter, taken_settle w o⟩
    obtain ⟨hremains, hcourse, hrelease, hnone⟩ := hend
    refine ⟨_, hrow, htick, ?_, ?_, fun hw => ?_, fun hw => ?_,
      hall.taken.scanner.trans hticks.scanner, hall.taken.sync.trans hticks.sync, hcore⟩
    · rw [hall.channel]
      exact hremains
    · rw [hall.channel, hcourse, hchan]
    · rw [hall.channel]
      exact hrelease hw
    · obtain ⟨hqueue, hstate, hphase, hflag⟩ := hnone hw
      rw [hall.channel]
      exact ⟨hqueue, hstate, hphase, fun htag l => hall.flags l 2 (hflag htag l)⟩
  case park =>
    obtain ⟨u, hu, -, hafter, -⟩ := takeMillisecond_channels s o.shares (.inl hnormal) hquiet hdue
    have hat := atShare_of hu
    have hchan : u.channels.get c = s.channels.get c := by rw [hat.channels]
    have hparked := park_unit u c (by rw [hat.settings]; exact hmin)
      (by rw [hat.settings, hat.scanner]; exact hi) (by rw [hchan]; exact hs)
      ((hat.bridgeState c).trans hb) (hat.normal hnormal) (by rw [hat.settings, hchan]; exact ht)
    obtain ⟨hstate, hqueue, hphase, htimer, hretard, hturns, hflags⟩ := hparked
    have hrow : exec (.lowLoadPark c o) s = .next ((s.takeMillisecond o.shares).settle o) := by
      rw [exec_lowLoadPark, take_of_running s o _ hrun, takenIf_of_happened]
      rw [hafter.channels, hstate, Bool.and_eq_true, bne_iff_ne]
      exact ⟨hs, rfl⟩
    generalize s.takeMillisecond o.shares = w at hafter hrow htick hcore hticks
    have hall : AfterShare u w (w.settle o) := ⟨hafter, taken_settle w o⟩
    unfold State.bridgeState
    refine ⟨_, hrow, htick, ?_, ?_, ?_, ?_, ?_, ?_, fun l => ⟨?_, ?_⟩,
      hall.taken.scanner.trans hticks.scanner, hall.taken.sync.trans hticks.sync, hcore⟩
    · rw [hall.channel]
      exact hstate
    · rw [hall.channel]
      exact hqueue
    · rw [hall.channel]
      exact hphase
    · rw [hall.channel]
      exact htimer
    · rw [hall.bridge]
      exact hretard
    · rw [hall.bridge]
      exact hturns
    · exact hall.flags l 1 (hflags l).1
    · exact hall.flags l 3 (hflags l).2

end Sys2Proof.Machine
end

section
/-! PROOF. The ramp, foldback and barriers at an advancing tick (R125, R126, R129, R130, R135, R137). -/

namespace Sys2Proof.Machine

/-! ### The head in RAMP -/

/-- A head in RAMP moved by its rate, before it is judged to have arrived (R126). -/
def Channel.rampedHead (k : Channel) (p : CourseStep) (iMax : Nat) : Channel :=
  { k with
    course := rampToward k.course (min p.target iMax * 1000) p.rate
    headClamped := k.headClamped || decide (iMax < p.target) }

theorem advanceHead_of_ramp (k : Channel) (iMax : Nat) (calm : Bool) (p : CourseStep)
    (rest : List CourseStep) (hq : k.queue = p :: rest) (hp : k.headPhase = some .ramp) :
    k.advanceHead iMax calm =
      if rampToward k.course (min p.target iMax * 1000) p.rate = min p.target iMax * 1000 then
        match p.hold with
        | some h => { k.rampedHead p iMax with headPhase := some .hold, remainingHold := some h }
        | none => { k.rampedHead p iMax with headPhase := p.afterHold }
      else k.rampedHead p iMax := by
  cases k
  dsimp only at hq hp
  subst hq hp
  rfl

section
variable {k : Channel} {iMax : Nat} {calm : Bool} {p : CourseStep} {rest : List CourseStep}

theorem advanced_of_short (hq : k.queue = p :: rest) (hp : k.headPhase = some .ramp)
    (h : rampToward k.course (min p.target iMax * 1000) p.rate ≠ min p.target iMax * 1000) :
    k.advanced iMax calm = k.rampedHead p iMax := by
  have hhead := advanceHead_of_ramp k iMax calm p rest hq hp
  rw [if_neg h] at hhead
  unfold Channel.advanced
  rw [hhead]
  exact if_neg (by
    change ¬ k.headPhase = none
    rw [hp]
    exact nofun)

theorem advanced_of_hold (hq : k.queue = p :: rest) (hp : k.headPhase = some .ramp)
    (h : rampToward k.course (min p.target iMax * 1000) p.rate = min p.target iMax * 1000) (n : Nat)
    (hh : p.hold = some n) :
    k.advanced iMax calm =
      { k.rampedHead p iMax with headPhase := some .hold, remainingHold := some n } := by
  have hhead := advanceHead_of_ramp k iMax calm p rest hq hp
  rw [if_pos h, hh] at hhead
  unfold Channel.advanced
  rw [hhead]
  exact if_neg nofun

theorem advanced_of_wait (hq : k.queue = p :: rest) (hp : k.headPhase = some .ramp)
    (h : rampToward k.course (min p.target iMax * 1000) p.rate = min p.target iMax * 1000)
    (hh : p.hold = none) (x : CourseWait) (hw : p.wait = some x) :
    k.advanced iMax calm = { k.rampedHead p iMax with headPhase := some .wait } := by
  have hhead := advanceHead_of_ramp k iMax calm p rest hq hp
  rw [if_pos h, hh, afterHold_of_some p x hw] at hhead
  unfold Channel.advanced
  rw [hhead]
  exact if_neg nofun

theorem advanced_of_done (hq : k.queue = p :: rest) (hp : k.headPhase = some .ramp)
    (h : rampToward k.course (min p.target iMax * 1000) p.rate = min p.target iMax * 1000)
    (hh : p.hold = none) (hw : p.wait = none) :
    k.advanced iMax calm =
      { k.rampedHead p iMax with
        queue := rest, headClamped := false, remainingHold := none
        headPhase := (if rest = [] then none else some .ramp)
        state := (if rest = [] then .idle else k.state) } := by
  have hhead := advanceHead_of_ramp k iMax calm p rest hq hp
  rw [if_pos h, hh, afterHold_of_none p hw] at hhead
  unfold Channel.advanced
  rw [hhead]
  dsimp only
  rw [if_pos rfl]
  exact completed_of_cons (k := { k.rampedHead p iMax with headPhase := none }) hq

end

/-- A head that waits stays as it is (R128, R129). -/
theorem advanced_of_waiting (k : Channel) (iMax : Nat) (calm : Bool) (hp : k.headPhase = some .wait) :
    k.advanced iMax calm = k := by
  have hhead : k.advanceHead iMax calm = k := by
    unfold Channel.advanceHead
    split
    · rfl
    · rw [hp]
  unfold Channel.advanced
  rw [hhead]
  exact if_neg (by rw [hp]; exact nofun)

theorem advanced_course (k : Channel) (iMax : Nat) (calm : Bool) :
    (k.advanced iMax calm).course = (k.advanceHead iMax calm).course := by
  unfold Channel.advanced
  dsimp only
  split_ifs
  · exact (completed_kept _).1
  · rfl

/-! ### A channel after the share -/

theorem advanceHead_of_empty (k : Channel) (iMax : Nat) (calm : Bool) (h : k.queue = []) :
    k.advanceHead iMax calm = k := by
  unfold Channel.advanceHead
  rw [h]

/-- A head that waits after its share is the head that was there before it (R126, R127). -/
theorem tickedAt_queue_of_waiting (s : State) (adv : Index → Bool) (c : Index)
    (h : (s.tickedAt adv c).headPhase = some .wait) :
    (s.tickedAt adv c).queue = (s.channels.get c).queue := by
  unfold State.tickedAt at h ⊢
  split_ifs at h ⊢
  · rfl
  · have hqueue := (advanceHead_kept (s.foldedAt c) (s.settings.iMax.get c) s.calmTick).2.2.2.1
    unfold Channel.advanced at h ⊢
    dsimp only at h ⊢
    split_ifs at h ⊢ with hnone
    · by_cases hq : (s.foldedAt c).queue = []
      · have hsame := advanceHead_of_empty (s.foldedAt c) (s.settings.iMax.get c) s.calmTick hq
        rw [hsame] at h hnone ⊢
        unfold Channel.completed at h
        rw [hq] at h
        exact absurd (hnone.symm.trans h) nofun
      · exact absurd h (completed_not_waiting _ (by rw [hqueue]; exact hq))
    · exact hqueue
  · rfl

/-- What the tick's share leaves of a channel without a low-load limit. -/
theorem channelsTick_channel (u : State) (c : Index) (hmin : u.settings.iMinLoad.get c = 0) :
    u.channelsTick.channels.get c = { u.channelsStepped.channels.get c with lowLoadTimer := 0 } :=
  (channelsTick_unlimited u c hmin).1

theorem stepped_course (u : State) (c : Index) :
    (u.channelsStepped.channels.get c).course = (u.tickedAt u.advancing c).course := by
  rw [channelsStepped_eq, barrierTest_channel, headsMoved_channel]
  split_ifs
  · exact (completed_kept _).1
  · rfl

/-! ### Barriers -/

/-- Channel `m` has come to the barrier `tag`, or comes to it at this tick (R126, R129). -/
def State.comesTo (s : State) (m : Index) (tag : Byte) : Prop :=
  ((s.channels.get m).headPhase = some .wait ∨
    ((s.channels.get m).headPhase = some .ramp ∧
      ∃ p rest, (s.channels.get m).queue = p :: rest ∧ p.hold = none ∧
        let target := min p.target (s.settings.iMax.get m) * 1000
        (s.channels.get m).course ≤ target + p.rate ∧ target ≤ (s.channels.get m).course + p.rate)) ∧
    ∃ p rest mask, (s.channels.get m).queue = p :: rest ∧ p.wait = some (.barrier tag mask)

theorem rampToward_arrives (course target rate : Nat) (h : course ≤ target + rate)
    (k : target ≤ course + rate) : rampToward course target rate = target := by
  unfold rampToward
  split_ifs
  · exact Nat.min_eq_right k
  · exact Nat.max_eq_right (by omega)

/-- A channel that comes to a barrier waits at it after the heads' moves. -/
theorem waits_of_comesTo (u : State) (m : Index) (tag : Byte) (hs : (u.channels.get m).state = .active)
    (ha : u.advancing m = true) (h : u.comesTo m tag) :
    (u.tickedAt u.advancing m).headPhase = some .wait ∧
      (u.tickedAt u.advancing m).queue = (u.channels.get m).queue ∧
      (u.tickedAt u.advancing m).state = .active := by
  rw [tickedAt_of_advancing u u.advancing m hs ha]
  obtain ⟨hwait | ⟨hramp, p, rest, hq, hh, harr⟩, p', rest', mask, hq', hw⟩ := h
  · rw [advanced_of_waiting _ _ _ (show (u.foldedAt m).headPhase = some .wait from hwait)]
    exact ⟨hwait, rfl, hs⟩
  · obtain ⟨rfl, rfl⟩ : p' = p ∧ rest' = rest := by
      have h := hq'.symm.trans hq
      exact ⟨(List.cons.inj h).1, (List.cons.inj h).2⟩
    rw [advanced_of_wait (k := u.foldedAt m) hq hramp (rampToward_arrives _ _ _ harr.1 harr.2) hh _ hw]
    exact ⟨rfl, rfl, hs⟩

theorem headsMoved_waitsAt (u : State) (m : Index) (tag : Byte) (hs : (u.channels.get m).state = .active)
    (ha : u.advancing m = true) (h : u.comesTo m tag) :
    (u.headsMoved.channels.get m).waitsAt tag = true := by
  obtain ⟨hphase, hqueue, -⟩ := waits_of_comesTo u m tag hs ha h
  obtain ⟨-, p, rest, mask, hq, hw⟩ := h
  rw [headsMoved_channel, waitsAt_iff, hqueue]
  exact ⟨hphase, p, rest, mask, hq, hw⟩

/-- Where every member of a barrier's mask has come to it, each completes its head (R129). -/
theorem barrier_releases (u : State) (c : Index) (tag : Byte) (mask : BitVec 4) (p : CourseStep)
    (rest : List CourseStep) (hs : (u.channels.get c).state = .active) (ha : u.advancing c = true)
    (hq : (u.channels.get c).queue = p :: rest) (hw : p.wait = some (.barrier tag mask))
    (hc : u.comesTo c tag)
    (hall : ∀ m : Index, hasBit mask m.val = true →
      u.advancing m = true ∧ (u.channels.get m).state = .active ∧ u.comesTo m tag)
    (m : Index) (hm : hasBit mask m.val = true) :
    (u.channelsStepped.channels.get m).queue = (u.channels.get m).queue.tail := by
  obtain ⟨hphase, hqueue, -⟩ := waits_of_comesTo u c tag hs ha hc
  have hreleased : hasBit (u.headsMoved.released u.advancing) m.val = true := by
    rw [hasBit_released]
    refine ⟨c, (releasedBy_iff _ _ _ _).mpr ⟨tag, mask, ⟨?_, ⟨p, rest, ?_, hw⟩, fun d hd => ?_⟩, hm⟩⟩
    · rw [headsMoved_channel]
      exact hphase
    · rw [headsMoved_channel, hqueue]
      exact hq
    · obtain ⟨hda, hds, hdc⟩ := hall d hd
      exact ⟨hda, headsMoved_waitsAt u d tag hds hda hdc⟩
  obtain ⟨hma, hms, hmc⟩ := hall m hm
  obtain ⟨-, hmqueue, -⟩ := waits_of_comesTo u m tag hms hma hmc
  rw [channelsStepped_eq, barrierTest_channel, if_pos hreleased, headsMoved_channel,
    (completed_kept _).2.2.2.2.2, hmqueue]

/-- A channel that comes to a barrier alone of its mask waits there (R129). -/
theorem barrier_waits (u : State) (c : Index) (tag : Byte) (mask : BitVec 4) (p : CourseStep)
    (rest : List CourseStep) (hs : (u.channels.get c).state = .active) (ha : u.advancing c = true)
    (hq : (u.channels.get c).queue = p :: rest) (hw : p.wait = some (.barrier tag mask))
    (hc : u.comesTo c tag) (hmore : ∃ m : Index, m ≠ c ∧ hasBit mask m.val = true)
    (hnone : ∀ d : Index, d ≠ c → ∀ q qs msk, (u.channels.get d).queue = q :: qs →
      q.wait ≠ some (.barrier tag msk)) :
    u.channelsStepped.channels.get c = u.tickedAt u.advancing c := by
  obtain ⟨hphase, hqueue, -⟩ := waits_of_comesTo u c tag hs ha hc
  have hapart : ∀ (d : Index) (msk : BitVec 4), d ≠ c → ∀ q qs,
      (u.headsMoved.channels.get d).headPhase = some .wait →
      (u.headsMoved.channels.get d).queue = q :: qs → q.wait ≠ some (.barrier tag msk) :=
    fun d msk hd q qs hp hdq => by
      rw [headsMoved_channel] at hp hdq
      rw [tickedAt_queue_of_waiting u _ d hp] at hdq
      exact hnone d hd q qs msk hdq
  have hnot : ¬ hasBit (u.headsMoved.released u.advancing) c.val = true := fun hrel => by
    obtain ⟨d, hd⟩ := (hasBit_released _ _ _).mp hrel
    obtain ⟨tag', mask', ⟨hdp, ⟨q, qs, hdq, hdw⟩, hmet⟩, hbit⟩ := (releasedBy_iff _ _ _ _).mp hd
    have htag : tag' = tag := by
      obtain ⟨-, q', qs', msk, hcq, hcw⟩ := (waitsAt_iff _ _).mp (hmet c hbit).2
      rw [headsMoved_channel, hqueue, hq] at hcq
      obtain rfl := (List.cons.inj hcq).1
      have h := hw.symm.trans hcw
      exact (CourseWait.barrier.inj (Option.some.inj h)).1.symm
    subst htag
    by_cases hdc : d = c
    · subst hdc
      rw [headsMoved_channel, hqueue, hq] at hdq
      obtain rfl := (List.cons.inj hdq).1
      obtain rfl : mask = mask' := (CourseWait.barrier.inj (Option.some.inj (hw.symm.trans hdw))).2
      obtain ⟨m, hmc, hm⟩ := hmore
      obtain ⟨hmp, q', qs', msk, hmq, hmw⟩ := (waitsAt_iff _ _).mp (hmet m hm).2
      exact hapart m msk hmc q' qs' hmp hmq hmw
    · exact hapart d mask' hdc q qs hdp hdq hdw
  rw [channelsStepped_eq, barrierTest_channel, if_neg hnot, headsMoved_channel]

end Sys2Proof.Machine
end

section
/-! PROOF. The ramp, foldback and barriers at an advancing tick (R125, R126, R129, R130, R135, R137). -/

namespace Sys2Proof.Machine

/-- The head in RAMP after the tick's share (R126, R130). -/
theorem ramp_unit (u : State) (c : Index) (p : CourseStep) (rest : List CourseStep)
    (hmin : u.settings.iMinLoad.get c = 0) (hs : (u.channels.get c).state = .active)
    (ha : u.advancing c = true) (hq : (u.channels.get c).queue = p :: rest)
    (hp : (u.channels.get c).headPhase = some .ramp) :
    let k := u.channelsTick.channels.get c
    let target := min p.target (u.settings.iMax.get c) * 1000
    let value := rampToward (u.channels.get c).course target p.rate
    k.course = value ∧
      (value ≠ target → k.headPhase = some .ramp ∧ k.queue = p :: rest) ∧
      (value = target → ∀ h, p.hold = some h →
        k.headPhase = some .hold ∧ k.remainingHold = some h ∧
          k.headClamped = ((u.channels.get c).headClamped || decide (u.settings.iMax.get c < p.target))) ∧
      (value = target → p.hold = none → p.wait = some .release →
        k.headPhase = some .wait ∧ k.queue = p :: rest) ∧
      (value = target → p.hold = none → p.wait = none →
        k.queue = rest ∧ k.headPhase = (if rest = [] then none else some .ramp)) := by
  intro k target value
  have hk : k = { u.channelsStepped.channels.get c with lowLoadTimer := 0 } :=
    channelsTick_channel u c hmin
  have hticked := tickedAt_of_advancing u u.advancing c hs ha
  have hfq : (u.foldedAt c).queue = p :: rest := hq
  have hfp : (u.foldedAt c).headPhase = some .ramp := hp
  have hlast : ∀ x : Channel, (u.foldedAt c).advanced (u.settings.iMax.get c) u.calmTick = x →
      (∀ tag, x.waitsAt tag = false) → k = { x with lowLoadTimer := 0 } := fun x hx hw => by
    rw [hx] at hticked
    rw [hk, stepped_of_unreleased u c fun tag => by rw [hticked]; exact hw tag, hticked]
  refine ⟨?course, fun hne => ?short, fun heq h hh => ?hold, fun heq hh hw => ?release,
    fun heq hh hw => ?done⟩
  case course =>
    rw [hk]
    refine (stepped_course u c).trans ?_
    rw [hticked, advanced_course, advanceHead_of_ramp (u.foldedAt c) _ _ p rest hfq hfp]
    split_ifs
    · cases p.hold
      · rfl
      · rfl
    · rfl
  case short =>
    rw [hlast _ (advanced_of_short hfq hfp hne) fun tag => waitsAt_of_phase _ tag (by
      change (u.channels.get c).headPhase ≠ _
      rw [hp]
      exact nofun)]
    exact ⟨hp, hq⟩
  case hold =>
    rw [hlast _ (advanced_of_hold hfq hfp heq h hh) fun tag => waitsAt_of_phase _ tag nofun]
    exact ⟨rfl, rfl, rfl⟩
  case release =>
    rw [hlast _ (advanced_of_wait hfq hfp heq hh _ hw) fun tag =>
      waitsAt_of_release _ tag p rest hq hw]
    exact ⟨rfl, hq⟩
  case done =>
    rw [hlast _ (advanced_of_done hfq hfp heq hh hw) fun tag => waitsAt_of_phase _ tag (by
      dsimp only
      split_ifs
      · exact nofun
      · intro he
        exact HeadPhase.noConfusion (Option.some.inj he))]
    exact ⟨rfl, rfl⟩

/-- The fold cap after the tick's share (R135, R137). -/
theorem fold_unit (u : State) (c : Index) (hmin : u.settings.iMinLoad.get c = 0)
    (hb : u.bridgeState c = .running) :
    let k := u.channels.get c
    let k' := u.channelsTick.channels.get c
    let ceiling := u.settings.iMax.get c * 1000
    let fold : Int := u.settings.vcellFold
    let reference :=
      min (min (min k.course ceiling) k.foldCap)
        (match u.monitor.cap.get c with | none => k.foldCap | some x => x.value)
    k'.foldCap =
      (if fold < u.scanner.vCell.get c then min k.foldCap reference - u.settings.foldRate
      else if u.scanner.vCell.get c < fold - 20 then min ceiling (k.foldCap + u.settings.foldRate)
      else k.foldCap) ∧
      (k'.foldback = true ↔ k'.foldCap < ceiling) := by
  intro k k' ceiling fold reference
  obtain ⟨-, -, hcap, hback, -⟩ := stepped_kept u c
  have hk : k' = { u.channelsStepped.channels.get c with lowLoadTimer := 0 } :=
    channelsTick_channel u c hmin
  have heff : u.effectiveReference c = reference := (if_pos hb).trans (effectiveOf_eq _ _ _ _)
  have hfolded : (u.foldedAt c).foldCap =
      foldedCap k.foldCap reference (u.settings.iMax.get c) u.settings.foldRate (u.scanner.vCell.get c)
        fold := by
    rw [← heff]
    rfl
  have hkcap : k'.foldCap = (u.foldedAt c).foldCap := by rw [hk]; exact hcap
  have hkback : k'.foldback = (u.foldedAt c).foldback := by rw [hk]; exact hback
  refine ⟨hkcap.trans hfolded, ?_⟩
  rw [hkback, hkcap]
  exact decide_eq_true_iff

/-- A channel at a barrier after the tick's share (R129). -/
theorem barrier_unit (u : State) (c : Index) (tag : Byte) (mask : BitVec 4) (p : CourseStep)
    (rest : List CourseStep) (hmin : u.settings.iMinLoad.get c = 0)
    (hs : (u.channels.get c).state = .active) (ha : u.advancing c = true)
    (hq : (u.channels.get c).queue = p :: rest) (hw : p.wait = some (.barrier tag mask))
    (hc : u.comesTo c tag) :
    ((∀ m : Index, hasBit mask m.val = true →
        u.advancing m = true ∧ u.settings.iMinLoad.get m = 0 ∧ (u.channels.get m).state = .active ∧
          u.comesTo m tag) →
      ∀ m : Index, hasBit mask m.val = true →
        (u.channelsTick.channels.get m).queue = (u.channels.get m).queue.tail) ∧
    ((∃ m : Index, m ≠ c ∧ hasBit mask m.val = true) →
      (∀ d : Index, d ≠ c → ∀ q qs msk, (u.channels.get d).queue = q :: qs →
        q.wait ≠ some (.barrier tag msk)) →
      (u.channelsTick.channels.get c).headPhase = some .wait ∧
        (u.channelsTick.channels.get c).queue = p :: rest ∧
        (u.channelsTick.channels.get c).state = .active) := by
  refine ⟨fun hall m hm => ?_, fun hmore hnone => ?_⟩
  · rw [channelsTick_channel u m (hall m hm).2.1]
    exact barrier_releases u c tag mask p rest hs ha hq hw hc
      (fun d hd => ⟨(hall d hd).1, (hall d hd).2.2⟩) m hm
  · obtain ⟨hphase, hqueue, hstate⟩ := waits_of_comesTo u c tag hs ha hc
    rw [channelsTick_channel u c hmin, barrier_waits u c tag mask p rest hs ha hq hw hc hmore hnone]
    exact ⟨hphase, hqueue.trans hq, hstate⟩

/-- Settles O27: the channel unit's share reads what the tick found, but for the ride-through caps, which
stand as they do before the tick or after it. -/
theorem advancingTicksRampFoldAndMeet : Obligations.AdvancingTicksRampFoldAndMeet := by
  intro c o s hrun hm hb hquiet hdue hmin hs arrives comesTo
  have hcore := coreKept_tick s o
  have htick := exec_tick s o hrun
  have hticks := ticks_takeMillisecond s o.shares
  obtain ⟨u, hu, -, hafter, hcap⟩ := takeMillisecond_channels s o.shares hm hquiet hdue
  have hat := atShare_of hu
  have hadv : ∀ m : Index, (s.channels.get m).state = .active → s.bridgeState m = .running →
      u.advancing m = true := fun m hms hmb => hat.advancing m hm hms hmb
  have hchan : ∀ m, u.channels.get m = s.channels.get m := fun m => by rw [hat.channels]
  have hcomes : ∀ m tag, comesTo m tag → u.comesTo m tag := fun m tag h => by
    unfold State.comesTo
    rw [hchan m, hat.settings]
    exact h
  have humin : u.settings.iMinLoad.get c = 0 := by
    rw [hat.settings]
    exact hmin
  have hus : (u.channels.get c).state = .active := by
    rw [hchan]
    exact hs
  have hub : u.bridgeState c = .running := (hat.bridgeState c).trans hb
  have hfold := fold_unit u c humin hub
  generalize s.takeMillisecond o.shares = w at hafter htick hcore hticks hcap
  have hall : AfterShare u w (w.settle o) := ⟨hafter, taken_settle w o⟩
  refine ⟨_, htick, fun p rest hq hp => ?ramp, ?fold, fun p rest tag mask hq hw hc => ?barrier,
    hall.taken.scanner.trans hticks.scanner, hall.taken.sync.trans hticks.sync, hcore⟩
  case ramp =>
    have h := ramp_unit u c p rest humin hus (hadv c hs hb) (by rw [hchan]; exact hq)
      (by rw [hchan]; exact hp)
    rw [← hall.channel c, hat.settings, hchan] at h
    exact h
  case fold =>
    rw [← hall.channel c, hat.settings, hat.scanner, hchan] at hfold
    refine ⟨⟨u.monitor.cap.get c, ?_, hfold.1⟩, hfold.2⟩
    obtain hcap | hcap := hcap
    · exact .inl (by rw [hcap])
    · exact .inr (by rw [hcap, hall.taken.monitor])
  case barrier =>
    obtain ⟨hmeet, halone⟩ := barrier_unit u c tag mask p rest humin hus (hadv c hs hb)
      (by rw [hchan]; exact hq) hw (hcomes c tag hc)
    refine ⟨fun hmembers m hbit => ?_, fun hmore hnone => ?_⟩
    · rw [hall.channel, ← hchan m]
      refine hmeet (fun d hd => ?_) m hbit
      obtain ⟨hdb, hdmin, hds, hdc⟩ := hmembers d hd
      exact ⟨hadv d hds hdb, by rw [hat.settings]; exact hdmin, by rw [hchan]; exact hds, hcomes d tag hdc⟩
    · rw [hall.channel]
      exact halone hmore fun d hd q qs msk hdq => hnone d hd q qs msk (by rw [← hchan]; exact hdq)

end Sys2Proof.Machine
end

section
/-! PROOF. AuthorityPassesAndReturns (R142, R188, R190, R191). -/

namespace Sys2Proof.Machine

/-! ### SEIZE and YIELD -/

/-- A request reserved to link S, judged by its own rule. -/
theorem judge_of_service {s : State} {r : Request} {k : RequestKind} (hl : r.link = .s)
    (hp : r.payload = []) (hc : k.commanding = false) (hsize : k.sizeRight [] = true) :
    (s.atRequest r).judgeRequest r.link k.code r.payload = (s.atRequest r).act .s k [] := by
  have hnone : (s.atRequest r).refusal .s k [] = none := by
    have hlink : (Link.s == Link.p) = false := by decide
    unfold State.refusal
    rw [hlink, hc, hsize, Bool.and_false, Bool.false_and]
    rfl
  rw [hl, hp]
  unfold State.judgeRequest
  rw [ofByte_code]
  dsimp only
  rw [hnone]

/-- Authority that passes is announced after the reply (R188). -/
theorem request_of_passing (s : State) (k : RequestKind) (r : Request) (l : Link) (h : s.hears r)
    (hset : s.settled)
    (ha : (s.atRequest r).judgeRequest r.link k.code r.payload = ((s.atRequest r).giveAuthority l).accept []) :
    s.request k r =
      .next ((({ s.atRequest r with holder := l, watchdog := 0 }).withReply r.link
        (replyTo k.code r.tag [0x00])).announced (.authority l)) := by
  let z : State := { s.atRequest r with holder := l, watchdog := 0 }
  have hz : z.settled := atRequest_settled s r hset
  have hreply : ((z.raise (.authority l)).accept []).reply r.link k.code r.tag r.order =
      (z.withReply r.link (replyTo k.code r.tag [0x00])).announced (.authority l) :=
    reply_accept_raise z (.authority l) [] r.link k.code r.tag r.order hz
  have hsettled : ((z.withReply r.link (replyTo k.code r.tag [0x00])).announced
      (.authority l)).settle r.order =
        (z.withReply r.link (replyTo k.code r.tag [0x00])).announced (.authority l) := by
    rw [← settle_raise _ _ r.order (withReply_settled z r.link (replyTo k.code r.tag [0x00]) hz)]
    exact settle_settle _ _ _
  rw [request_of_hears s k r h, ha]
  exact congrArg Host.Outcome.next ((congrArg (State.settle · r.order) hreply).trans hsettled)

theorem actSeize_of (s : State) :
    (s.holder = .p → s.actSeize = (s.giveAuthority .s).accept []) ∧
      (s.holder = .s → s.actSeize = s.accept []) := by
  unfold State.actSeize
  exact ⟨fun h => by rw [h], fun h => by rw [h]⟩

theorem actYield_of (s : State) :
    (s.holder = .s → s.actYield = (s.giveAuthority .p).accept []) ∧
      (s.holder = .p → s.actYield = s.refuse .refusedState) := by
  unfold State.actYield
  exact ⟨fun h => by rw [h], fun h => by rw [h]⟩

theorem seize_yield (r : Request) (s : State) (hears : s.hears r) (hset : s.settled) (hl : r.link = .s)
    (hp : r.payload = []) :
    let u := s.atRequest r
    (s.holder = .p →
      exec (.seize r) s = .next
        ((({ u with holder := .s, watchdog := 0 }).withReply .s ⟨0x60, r.tag, [0x00]⟩).announced
          (.authority .s)) ∧
      exec (.yield r) s = .next (u.withReply .s ⟨0x61, r.tag, [0x05]⟩)) ∧
    (s.holder = .s →
      exec (.seize r) s = .next (u.withReply .s ⟨0x60, r.tag, [0x00]⟩) ∧
      exec (.yield r) s = .next
        ((({ u with holder := .p, watchdog := 0 }).withReply .s ⟨0x61, r.tag, [0x00]⟩).announced
          (.authority .p))) := by
  intro u
  have hholder : u.holder = s.holder := atRequest_holder s r
  have huset : u.settled := atRequest_settled s r hset
  have hseize := judge_of_service (s := s) (k := .seize) hl hp rfl rfl
  have hyield := judge_of_service (s := s) (k := .yield) hl hp rfl rfl
  obtain ⟨hseizeP, hseizeS⟩ := actSeize_of u
  obtain ⟨hyieldS, hyieldP⟩ := actYield_of u
  refine ⟨fun h => ⟨?_, ?_⟩, fun h => ⟨?_, ?_⟩⟩
  · have hexec := request_of_passing s .seize r .s hears hset
      (hseize.trans (hseizeP (hholder.trans h)))
    rw [hl] at hexec
    exact hexec
  · have hexec := request_of_quiet s .yield r _ hears (hyield.trans (hyieldP (hholder.trans h))) huset
    rw [hl] at hexec
    exact hexec
  · have hexec := request_of_quiet s .seize r _ hears (hseize.trans (hseizeS (hholder.trans h))) huset
    rw [hl] at hexec
    exact hexec
  · have hexec := request_of_passing s .yield r .p hears hset
      (hyield.trans (hyieldS (hholder.trans h)))
    rw [hl] at hexec
    exact hexec

/-! ### The watchdog's expiry -/

/-- A channel with the safe step alone (R142). -/
def Channel.supervised (k : Channel) (p : CourseStep) : Channel :=
  { k.emptied with queue := [p], headPhase := some .ramp, state := .active, safe := true }

theorem superviseChannel_of_running (s : State) (c : Index) (h : s.bridgeState c = .running) :
    s.superviseChannel c =
      (s.mapChannel c (fun k => k.supervised s.safeStep)).channelEvent c := if_pos h

/-- A supervision loss at the channel of a RUNNING bridge (R142, R191). -/
theorem expire_unit (u : State) (c : Index) (hd : u.watchdogDue = true) (hh : u.holder = .p)
    (hb : u.bridgeState c = .running) :
    u.watchdogTick.channels.get c = (u.channels.get c).supervised u.safeStep ∧
      ∀ l, u.watchdogTick.flagged l 3 := by
  rw [watchdogTick_of_due u hd, expireWatchdog_of_p u hh]
  let z : State := ({ u with watchdog := 0 } : State).raise .supervision
  obtain ⟨y, hy, hlast⟩ := forAll_at_channel z Index.all (fun c t => t.superviseChannel c) c
    Index.all_nodup (Index.mem_all c) fun c t => onChannel_superviseChannel t c
  have hyb : y.bridgeState c = .running := by
    unfold State.bridgeState at hb ⊢
    rw [hy.bridges]
    exact hb
  have hstep : y.safeStep = u.safeStep := by
    unfold State.safeStep
    rw [hy.settings]
    rfl
  have hturn := superviseChannel_of_running y c hyb
  have hget : (y.superviseChannel c).channels.get c = (y.channels.get c).supervised y.safeStep := by
    rw [hturn]
    exact Four.get_set_self _ _ _
  refine ⟨?_, fun l => hlast.flags l 3 ?_⟩
  · refine hlast.channel.trans (hget.trans ?_)
    rw [hstep, hy.channel]
    rfl
  · rw [hturn]
    exact raise_flagged _ _ l

theorem expire_flagged (u : State) (hd : u.watchdogDue = true) (l : Link) :
    (u.holder = .s → u.watchdogTick.flagged l 7) ∧ (u.holder = .p → u.watchdogTick.flagged l 8) := by
  refine ⟨fun hh => ?_, fun hh => ?_⟩
  · rw [watchdogTick_of_due u hd, expireWatchdog_of_s u hh]
    exact raise_flagged _ _ l
  · rw [watchdogTick_of_due u hd, expireWatchdog_of_p u hh]
    exact (onChannels_supervise _).flags l 8 (raise_flagged _ _ l)

/-! ### The course beside the safe step -/

/-- The rate of a channel's head (R126). -/
def Channel.headRate (k : Channel) : Nat := match k.queue with | [] => 0 | p :: _ => p.rate

theorem rampToward_near (course target rate : Nat) :
    rampToward course target rate ≤ course + rate ∧ course ≤ rampToward course target rate + rate := by
  unfold rampToward
  split_ifs
  · omega
  · omega

theorem advanceHead_near (k : Channel) (iMax : Nat) (calm : Bool) :
    (k.advanceHead iMax calm).course ≤ k.course + k.headRate ∧
      k.course ≤ (k.advanceHead iMax calm).course + k.headRate := by
  have hsame : k.course ≤ k.course + k.headRate := Nat.le_add_right _ _
  cases hq : k.queue with
  | nil =>
    rw [advanceHead_of_empty k iMax calm hq]
    exact ⟨hsame, hsame⟩
  | cons p rest =>
    have hrate : k.headRate = p.rate := by
      unfold Channel.headRate
      rw [hq]
    by_cases hp : k.headPhase = some .ramp
    · have hcourse : (k.advanceHead iMax calm).course =
          rampToward k.course (min p.target iMax * 1000) p.rate := by
        rw [advanceHead_of_ramp k iMax calm p rest hq hp]
        split_ifs
        · cases p.hold
          · rfl
          · rfl
        · rfl
      rw [hcourse, hrate]
      exact rampToward_near _ _ _
    · have hcourse : (k.advanceHead iMax calm).course = k.course := by
        unfold Channel.advanceHead
        rw [hq]
        dsimp only
        split
        · rfl
        · rfl
        · rename_i h
          exact absurd h hp
        · split_ifs
          · rfl
          · split
            · rfl
            · split_ifs
              · rfl
              · rfl
      rw [hcourse]
      exact ⟨hsame, hsame⟩

/-- A channel's course after the tick's share is within its head's rate of where it stood (R126). -/
theorem channelsTick_near (u : State) (c : Index) (hmin : u.settings.iMinLoad.get c = 0) :
    (u.channelsTick.channels.get c).course ≤ (u.channels.get c).course + (u.channels.get c).headRate ∧
      (u.channels.get c).course ≤
        (u.channelsTick.channels.get c).course + (u.channels.get c).headRate := by
  have hcourse : (u.channelsTick.channels.get c).course = (u.tickedAt u.advancing c).course := by
    rw [channelsTick_channel u c hmin]
    exact stepped_course u c
  have hsame : (u.channels.get c).course ≤ (u.channels.get c).course + (u.channels.get c).headRate :=
    Nat.le_add_right _ _
  rw [hcourse]
  unfold State.tickedAt
  split_ifs
  · exact ⟨hsame, hsame⟩
  · rw [advanced_course]
    exact advanceHead_near (u.foldedAt c) _ _
  · exact ⟨hsame, hsame⟩

/-- A head in RAMP that does not arrive is moved, and that is all of its share (R126). -/
theorem channelsTick_short (u : State) (c : Index) (p : CourseStep) (rest : List CourseStep)
    (hmin : u.settings.iMinLoad.get c = 0) (hs : (u.channels.get c).state = .active)
    (ha : u.advancing c = true) (hq : (u.channels.get c).queue = p :: rest)
    (hp : (u.channels.get c).headPhase = some .ramp)
    (hne : rampToward (u.channels.get c).course (min p.target (u.settings.iMax.get c) * 1000) p.rate ≠
      min p.target (u.settings.iMax.get c) * 1000) :
    u.channelsTick.channels.get c =
      { (u.foldedAt c).rampedHead p (u.settings.iMax.get c) with lowLoadTimer := 0 } := by
  have hticked : u.tickedAt u.advancing c = (u.foldedAt c).rampedHead p (u.settings.iMax.get c) :=
    (tickedAt_of_advancing u u.advancing c hs ha).trans (advanced_of_short (k := u.foldedAt c) hq hp hne)
  have hwaits : ∀ tag, (u.tickedAt u.advancing c).waitsAt tag = false := fun tag => by
    refine waitsAt_of_phase _ tag ?_
    rw [hticked]
    change (u.channels.get c).headPhase ≠ _
    rw [hp]
    exact nofun
  rw [channelsTick_channel u c hmin, stepped_of_unreleased u c hwaits, hticked]

theorem rampToward_far (course target rate : Nat) (h : target + rate < course ∨ course + rate < target) :
    rampToward course target rate ≠ target := by
  unfold rampToward
  split_ifs
  · omega
  · omega

end Sys2Proof.Machine
end

section
/-! PROOF. AuthorityPassesAndReturns (R142, R190, R191): the safe step beside the channel unit's share. -/

namespace Sys2Proof.Machine

/-! ### A channel and the safe step that takes its place -/

/-- What a supervision loss makes of a channel, within the tick's own advance before or after it (R142). -/
structure SafeStepped (p : CourseStep) (iMax : Nat) (k k' : Channel) : Prop where
  safe : k'.safe = true
  far : min p.target iMax * 1000 + (p.rate + k.headRate) < k.course ∨
      k.course + (p.rate + k.headRate) < min p.target iMax * 1000 →
    k'.state = .active ∧ k'.headPhase = some .ramp ∧ k'.remainingHold = none ∧ k'.queue = [p] ∧
      k'.course ≤ k.course + (p.rate + k.headRate) ∧ k.course ≤ k'.course + (p.rate + k.headRate)

/-- The loss after the channel unit's share. -/
theorem safeStepped_after (u : State) (c : Index) (p : CourseStep) (iMax : Nat)
    (hmin : u.settings.iMinLoad.get c = 0) :
    SafeStepped p iMax (u.channels.get c) ((u.channelsTick.channels.get c).supervised p) where
  safe := rfl
  far _ := by
    obtain ⟨hup, hdown⟩ := channelsTick_near u c hmin
    refine ⟨rfl, rfl, rfl, rfl, ?_, ?_⟩
    · change (u.channelsTick.channels.get c).course ≤ _
      omega
    · change _ ≤ (u.channelsTick.channels.get c).course + _
      omega

/-- The loss before the channel unit's share. -/
theorem safeStepped_before (u : State) (c : Index) (p : CourseStep) (k : Channel)
    (hmin : u.settings.iMinLoad.get c = 0) (hb : u.bridgeState c = .running)
    (hm : u.monitor.steady) (hk : u.channels.get c = k.supervised p) :
    SafeStepped p (u.settings.iMax.get c) k (u.channelsTick.channels.get c) where
  safe := by
    rw [channelsTick_channel u c hmin]
    refine (stepped_kept u c).2.1.trans ?_
    rw [hk]
    rfl
  far hfar := by
    have hs : (u.channels.get c).state = .active := by
      rw [hk]
      rfl
    have hcourse : (u.channels.get c).course = k.course := by
      rw [hk]
      rfl
    have hne := rampToward_far k.course (min p.target (u.settings.iMax.get c) * 1000) p.rate
      (by omega)
    obtain ⟨hup, hdown⟩ :=
      rampToward_near k.course (min p.target (u.settings.iMax.get c) * 1000) p.rate
    rw [channelsTick_short u c p [] hmin hs (advancing_of u c hs hb hm) (by rw [hk]; rfl)
      (by rw [hk]; rfl) (by rw [hcourse]; exact hne)]
    have hmoved : ((u.foldedAt c).rampedHead p (u.settings.iMax.get c)).course =
        rampToward k.course (min p.target (u.settings.iMax.get c) * 1000) p.rate :=
      congrArg (rampToward · _ p.rate) hcourse
    refine ⟨hs, ?_, ?_, ?_, ?_, ?_⟩
    · change (u.channels.get c).headPhase = _
      rw [hk]
      rfl
    · change (u.channels.get c).remainingHold = _
      rw [hk]
      rfl
    · change (u.channels.get c).queue = _
      rw [hk]
      rfl
    · change ((u.foldedAt c).rampedHead p (u.settings.iMax.get c)).course ≤ _
      rw [hmoved]
      omega
    · change _ ≤ ((u.foldedAt c).rampedHead p (u.settings.iMax.get c)).course + _
      rw [hmoved]
      omega

/-! ### The shares on either side of the watchdog's -/

/-- The monitor and the frequency as the other shares of a tick need them, and a bridge that runs. -/
structure Advances (c : Index) (s : State) : Prop where
  steady : s.monitor.steady
  quiet : s.frequencyQuiet
  running : s.bridgeState c = .running

theorem Advances.calm {c : Index} {s t : State} (h : Advances c s) (k : TickCalm s t) : Advances c t := by
  refine ⟨k.steady h.steady, k.quiet h.quiet, ?_⟩
  unfold State.bridgeState
  rw [k.bridges]
  exact h.running

theorem Advances.channelsTick {c : Index} {s : State} (h : Advances c s)
    (hmin : s.settings.iMinLoad.get c = 0) : Advances c s.channelsTick := by
  have hticks := ticks_share s .channels
  have hmonitor := channelsTick_monitor s
  refine ⟨?_, frequencyQuiet_congr hticks.sync hticks.settings (by rw [hmonitor]) h.quiet, ?_⟩
  · rw [hmonitor]
    exact h.steady
  · unfold State.bridgeState
    rw [(channelsTick_unlimited s c hmin).2]
    exact h.running

theorem Advances.watchdogTick {c : Index} {s : State} (h : Advances c s) : Advances c s.watchdogTick := by
  have hon := onWatchdog_tick s
  refine ⟨?_, frequencyQuiet_congr hon.ticks.sync hon.ticks.settings (by rw [hon.monitor]) h.quiet, ?_⟩
  · rw [hon.monitor]
    exact h.steady
  · unfold State.bridgeState
    rw [hon.bridges]
    exact h.running

/-- Shares with neither the channel unit's nor the watchdog's among them. -/
theorem Advances.run {c : Index} {s : State} (h : Advances c s) (l : List TickShare) (hnd : l.Nodup)
    (hc : .channels ∉ l) (hw : .watchdog ∉ l) : TickCalm s (tickRun s l) :=
  tickCalm_run l s hnd hc h.steady h.quiet fun hmem => absurd hmem hw

/-- Shares with the channel unit's among them and not the watchdog's. -/
theorem Advances.run_channels {c : Index} {s : State} (h : Advances c s)
    (hmin : s.settings.iMinLoad.get c = 0) (l : List TickShare) (hnd : l.Nodup) (hc : .channels ∈ l)
    (hw : .watchdog ∉ l) :
    ∃ x, TickCalm s x ∧ TickCalm x.channelsTick (tickRun s l) := by
  obtain ⟨pre, post, rfl⟩ := List.append_of_mem hc
  rw [List.nodup_append] at hnd
  obtain ⟨hndpre, hndpost, hapart⟩ := hnd
  obtain ⟨hcpost, hndpost⟩ := List.nodup_cons.mp hndpost
  have hpre : TickCalm s (tickRun s pre) :=
    h.run pre hndpre (fun hx => hapart _ hx _ List.mem_cons_self rfl)
      fun hx => hw (List.mem_append_left _ hx)
  have hmin' : (tickRun s pre).settings.iMinLoad.get c = 0 := by
    rw [hpre.ticks.settings]
    exact hmin
  refine ⟨tickRun s pre, hpre, ?_⟩
  rw [tickRun_append]
  exact ((h.calm hpre).channelsTick hmin').run post hndpost hcpost
    fun hx => hw (List.mem_append_right _ (List.mem_cons_of_mem _ hx))

/-- A supervision loss at the channel of a RUNNING bridge, in every order of the tick's shares (R142, R191). -/
theorem takeMillisecond_supervised (s : State) (k : Nat) (c : Index) (h : Advances c s)
    (hmin : s.settings.iMinLoad.get c = 0) (hd : s.watchdogDue = true) (hh : s.holder = .p) :
    SafeStepped s.safeStep (s.settings.iMax.get c) (s.channels.get c)
        ((s.takeMillisecond k).channels.get c) ∧
      ∀ l, (s.takeMillisecond k).flagged l 3 := by
  obtain ⟨pre, post, horder, hpre, hpost⟩ := tick_around k .watchdog
  have hnd := tickShares_nodup k
  have hmem := mem_tickShares k .channels
  rw [horder, List.nodup_append] at hnd
  rw [horder, List.mem_append] at hmem
  obtain ⟨hndpre, hndpost, hapart⟩ := hnd
  obtain ⟨-, hndpost⟩ := List.nodup_cons.mp hndpost
  have htick : s.takeMillisecond k = tickRun ((tickRun s.reachMillisecond pre).watchdogTick) post := by
    unfold State.takeMillisecond
    rw [horder]
    exact tickRun_append _ pre _
  have hreach : Advances c s.reachMillisecond := ⟨h.steady, h.quiet, h.running⟩
  have hticks := ticks_tickRun s.reachMillisecond pre
  obtain ⟨hholder, hwatchdog⟩ := tickRun_authority s.reachMillisecond pre hpre
  have hsettings : (tickRun s.reachMillisecond pre).settings = s.settings := hticks.settings
  have hunit : (tickRun s.reachMillisecond pre).bridgeState c = .running →
      (tickRun s.reachMillisecond pre).watchdogTick.channels.get c =
          ((tickRun s.reachMillisecond pre).channels.get c).supervised s.safeStep ∧
        ∀ l, (tickRun s.reachMillisecond pre).watchdogTick.flagged l 3 := fun hb => by
    have hunit := expire_unit (tickRun s.reachMillisecond pre) c
      ((watchdogDue_congr hsettings hwatchdog).trans hd) (hholder.trans hh) hb
    have hstep : (tickRun s.reachMillisecond pre).safeStep = s.safeStep := by
      unfold State.safeStep
      rw [hsettings]
    rw [hstep] at hunit
    exact hunit
  have hpostflags := tickRun_flags ((tickRun s.reachMillisecond pre).watchdogTick) post
  have hwsettings : (tickRun s.reachMillisecond pre).watchdogTick.settings = s.settings :=
    (onWatchdog_tick _).ticks.settings.trans hsettings
  rw [htick]
  obtain hmem | hmem := hmem
  · have hcpost : .channels ∉ post := fun hx =>
      hapart _ hmem _ (List.mem_cons_of_mem _ hx) rfl
    obtain ⟨x, hx, hrest⟩ := hreach.run_channels hmin pre hndpre hmem hpre
    have hxmin : x.settings.iMinLoad.get c = 0 := by
      rw [hx.ticks.settings]
      exact hmin
    have hat : Advances c (tickRun s.reachMillisecond pre) :=
      ((hreach.calm hx).channelsTick hxmin).calm hrest
    obtain ⟨hchannel, hflag⟩ := hunit hat.running
    have hcalm := hat.watchdogTick.run post hndpost hcpost hpost
    refine ⟨?_, fun l => hpostflags l 3 (hflag l)⟩
    have hsafe := safeStepped_after x c s.safeStep (s.settings.iMax.get c) hxmin
    rw [hx.channels] at hsafe
    rw [hcalm.channels, hchannel, hrest.channels]
    exact hsafe
  · have hcpost : .channels ∈ post := (List.mem_cons.mp hmem).resolve_left TickShare.noConfusion
    have hcpre : .channels ∉ pre := fun hx => hapart _ hx _ hmem rfl
    have hcalm := hreach.run pre hndpre hcpre hpre
    have hat := hreach.calm hcalm
    obtain ⟨hchannel, hflag⟩ := hunit hat.running
    obtain ⟨x, hx, hrest⟩ := hat.watchdogTick.run_channels (by rw [hwsettings]; exact hmin) post hndpost
      hcpost hpost
    have hxsettings : x.settings = s.settings := hx.ticks.settings.trans hwsettings
    have hxat := hat.watchdogTick.calm hx
    refine ⟨?_, fun l => hpostflags l 3 (hflag l)⟩
    have hsafe := safeStepped_before x c s.safeStep (s.channels.get c) (by rw [hxsettings]; exact hmin)
      hxat.running hxat.steady (by rw [hx.channels, hchannel, hcalm.channels]; rfl)
    rw [hxsettings] at hsafe
    rw [hrest.channels]
    exact hsafe

/-- The event that a watchdog's expiry raises, in every order of the tick's shares (R190). -/
theorem takeMillisecond_expiry (s : State) (k : Nat) (hd : s.watchdogDue = true) (l : Link) :
    (s.holder = .s → (s.takeMillisecond k).flagged l 7) ∧
      (s.holder = .p → (s.takeMillisecond k).flagged l 8) := by
  obtain ⟨pre, post, hpre, -, htick⟩ := takeMillisecond_around s k .watchdog
  have hsettings : (tickRun s.reachMillisecond pre).settings = s.settings :=
    (ticks_tickRun s.reachMillisecond pre).settings
  obtain ⟨hholder, hwatchdog⟩ := tickRun_authority s.reachMillisecond pre hpre
  have hexpire := expire_flagged (tickRun s.reachMillisecond pre)
    ((watchdogDue_congr hsettings hwatchdog).trans hd) l
  have hkeep := tickRun_flags ((tickRun s.reachMillisecond pre).watchdogTick) post
  rw [htick]
  exact ⟨fun hh => hkeep l 7 (hexpire.1 (hholder.trans hh)),
    fun hh => hkeep l 8 (hexpire.2 (hholder.trans hh))⟩

/-- A watchdog's expiry leaves authority with P and the count at 0 (R190). -/
theorem expired_authority (s : State) (hd : s.watchdogDue = true) :
    s.watchdogTick.holder = .p ∧ s.watchdogTick.watchdog = 0 := by
  rw [watchdogTick_of_due s hd]
  cases hh : s.holder with
  | s =>
    rw [expireWatchdog_of_s s hh]
    exact ⟨rfl, rfl⟩
  | p =>
    rw [expireWatchdog_of_p s hh]
    have hcalm := (onChannels_supervise (({ s with watchdog := 0 } : State).raise .supervision)).toCalm
    obtain ⟨hholder, hwatchdog⟩ := holder_of_calm hcalm
    exact ⟨hholder.trans hh, hwatchdog⟩

/-- Settles O49: SEIZE and YIELD by the request's judgement; the expiry by the watchdog's share of the
tick, with the channel unit's share before it or after it. -/
theorem authorityPassesAndReturns : Obligations.AuthorityPassesAndReturns := by
  refine ⟨fun r s hears hset hl hp => seize_yield r s hears hset hl hp, fun o s hrun h0 hdue => ?_⟩
  have hd : s.watchdogDue = true := by
    unfold State.watchdogDue
    rw [decide_eq_true h0, decide_eq_true hdue]
    rfl
  have htick := exec_tick s o hrun
  have hrow : exec (.watchdogExpiry o) s = .next ((s.takeMillisecond o.shares).settle o) := by
    rw [exec_watchdogExpiry, take_of_running s o _ hrun]
    exact congrArg (fun t : State => Host.Outcome.next (t.settle o)) (takenIf_of_happened hd)
  have hcore := coreKept_tick s o
  have hticks := ticks_takeMillisecond s o.shares
  have hexpiry := takeMillisecond_expiry s o.shares hd
  obtain ⟨hholder, hwatchdog⟩ := takeMillisecond_authority s o.shares
  obtain ⟨hp, hzero⟩ := expired_authority s hd
  have hsafe : ∀ c, s.monitor.state = .normal → s.frequencyQuiet → s.bridgeState c = .running →
      s.settings.iMinLoad.get c = 0 → s.holder = .p →
      SafeStepped s.safeStep (s.settings.iMax.get c) (s.channels.get c)
          ((s.takeMillisecond o.shares).channels.get c) ∧
        ∀ l, (s.takeMillisecond o.shares).flagged l 3 :=
    fun c hm hq hb hmin hh => takeMillisecond_supervised s o.shares c ⟨.inl hm, hq, hb⟩ hmin hd hh
  generalize s.takeMillisecond o.shares = w at *
  have htaken := taken_settle w o
  refine ⟨w.settle o, hrow, htick, ?_, ?_, fun hh l => ?_, fun hh l => ?_,
    fun hh hm hq c hb hmin => ?_, htaken.scanner.trans hticks.scanner, htaken.sync.trans hticks.sync, hcore⟩
  · rw [settle_holder, hholder, hp]
  · rw [settle_watchdog, hwatchdog, hzero]
  · exact htaken.flags l 7 ((hexpiry l).1 hh)
  · exact htaken.flags l 8 ((hexpiry l).2 hh)
  · obtain ⟨hstep, hflag⟩ := hsafe c hm hq hb hmin hh
    rw [htaken.channels]
    refine ⟨hstep.safe, fun hfar => ?_⟩
    obtain ⟨hstate, hphase, hhold, hqueue, hup, hdown⟩ := hstep.far hfar
    exact ⟨hstate, hphase, hhold, hqueue, hup, hdown, fun l => htaken.flags l 3 (hflag l)⟩

end Sys2Proof.Machine
end
